-- ==== Sys2Proof/Word.lean ====
section
/-!
DEFINITION. Word.lean: the word types, the fixed-size table, and the names (closed enumerations) that the
manual uses for states, kinds and inputs. Nothing here has a meaning of its own.
-/

namespace Sys2Proof

/-- One byte, as the trunk, the source ports and the service link carry it. -/
abbrev Byte := BitVec 8

/-- A millisecond timer or an optional count: `none` is "stopped" (or "absent"), `some 0` is a count that has run
out and whose expiry has not been taken yet. -/
abbrev Timer := Option Nat

/-- A fixed number of like things (slots, holdings, lanes, berths): a list that carries its own length. -/
structure Table (n : Nat) (α : Type) where
  toList : List α
  size_eq : toList.length = n
deriving DecidableEq, Repr

namespace Table
variable {n : Nat} {α β : Type}

def get (t : Table n α) (i : Fin n) : α := t.toList[i.val]'(by rw [t.size_eq]; exact i.isLt)

def ofFn (f : Fin n → α) : Table n α := ⟨List.ofFn f, List.length_ofFn⟩

def set (t : Table n α) (i : Fin n) (v : α) : Table n α :=
  ⟨t.toList.set i.val v, by rw [List.length_set]; exact t.size_eq⟩

def modify (t : Table n α) (i : Fin n) (f : α → α) : Table n α := t.set i (f (t.get i))

def map (t : Table n α) (f : α → β) : Table n β :=
  ⟨t.toList.map f, by rw [List.length_map]; exact t.size_eq⟩

def mapIdx (t : Table n α) (f : Fin n → α → β) : Table n β := ofFn fun i => f i (t.get i)

def replicate (n : Nat) (v : α) : Table n α := ⟨List.replicate n v, List.length_replicate⟩

/-- The entry at a plain number; a default where there is none. -/
def getD (t : Table n α) (i : Nat) (d : α) : α := t.toList.getD i d

end Table

/-! ### Names of states and kinds, as the chapters own them -/

/-- R195: the two node states. -/
inductive NodeState | loading | running
deriving DecidableEq, Repr

/-- Chapter 1.7: the four link states. -/
inductive LinkState | loading | listen | locked | leading
deriving DecidableEq, Repr

/-- R3: the two forms of a mark. -/
inductive MarkForm | f | c
deriving DecidableEq, Repr

/-- R10, R11, R45: what a mark policy does with a mark out of place. -/
inductive MarkPolicy | follow | ignore
deriving DecidableEq, Repr

/-- R44, R45: who times the audio source port. -/
inductive AspTiming | node | device
deriving DecidableEq, Repr

/-- R21: the kinds of a tag value. -/
inductive TagKind | alert | announcement | control | audio | video | damaged | idle
deriving DecidableEq, Repr

/-- R28: the states of a holding. -/
inductive HoldingState | inactive | seeking | backoff | held
deriving DecidableEq, Repr

/-- R57: the entry states of a record source channel. -/
inductive EntryState | waitStart | header | payload | discard
deriving DecidableEq, Repr

/-- R74: the states of a control receiver. -/
inductive RxState | hunt | length | body | check | skip
deriving DecidableEq, Repr

/-- R118: the states of a record assembler. -/
inductive AsmState | hunt | header | body | check | skip
deriving DecidableEq, Repr

/-- R82: the states of an announcement entry (`idle` is entry 0's). -/
inductive AnnState | free | described | undescribed | active | fading | idle
deriving DecidableEq, Repr

/-- The kind of an announcement. -/
inductive AnnClass | alert | wake | crew | service
deriving DecidableEq, Repr

/-- R64: who an announcement or a card is for; in a zone mask, zone z is bit z - 1. -/
inductive Target | all | zones (mask : BitVec 16) | stop (s : Nat)
deriving DecidableEq, Repr

/-- R82: an activation stamp is absent, pending, or a cycle count. -/
inductive Stamp | absent | pending | at_ (cycle : BitVec 32)
deriving DecidableEq, Repr

/-- R96. -/
inductive ZoneMode | day | night
deriving DecidableEq, Repr

/-- R141: MUTE lies one step below level 0. -/
inductive Level | mute | lvl (n : Nat)
deriving DecidableEq, Repr

/-- R124: a choice names an entry of the programme list, or OFF. -/
inductive Choice | off | entry (i : Nat)
deriving DecidableEq, Repr

/-- R138. -/
inductive Lamp | off | on | flash
deriving DecidableEq, Repr

/-- R163. -/
inductive WakeState | idle | armed | calling | acked | missed
deriving DecidableEq, Repr

/-- R177. -/
inductive FeedState | off | following | waitKey | ended
deriving DecidableEq, Repr

/-- R177: the last base-layer record queued. -/
inductive BaseCard | none | rest | unavailable
deriving DecidableEq, Repr

/-- Chapter 10.6: the source of an overlay card. -/
inductive OverlaySource | alert | announcement | wake | message
deriving DecidableEq, Repr

/-- Chapter 10.6: the phase of an overlay card. -/
inductive OverlayPhase | live | linger
deriving DecidableEq, Repr

/-- R144. -/
inductive DuckState | unducked | ducked | holding
deriving DecidableEq, Repr

/-- R144: the shape of a ramp. -/
inductive Shape | linear | s
deriving DecidableEq, Repr

/-- R144: the three level states of a berth. -/
inductive LevelName | programme | headset | pillow
deriving DecidableEq, Repr

/-- The cause of a choice notice (chapter 7.5). -/
inductive SwitchCause | keyRecord | mapUpdate | timeout
deriving DecidableEq, Repr

/-- R66: the origin of an out queue item. -/
inductive Origin | serviceLink | channel (c : Fin 4) | berth (b : Fin 4)
deriving DecidableEq, Repr

/-- R125: plus or minus, for the VOL and CH buttons. -/
inductive Dir | up | down
deriving DecidableEq, Repr

/-- R125: the buttons whose release has no further effect. -/
inductive Button | chUp | chDown | ack
deriving DecidableEq, Repr

/-- R125, R126: the six panel inputs, in the order in which one tick takes them. -/
inductive PanelInput | headset | volUp | volDown | chUp | chDown | ack
deriving DecidableEq, Repr

def PanelInput.idx : PanelInput → Fin 6
  | .headset => 0 | .volUp => 1 | .volDown => 2 | .chUp => 3 | .chDown => 4 | .ack => 5

/-- R5, R6: what a node finds of the guard at the expiry of its frame timer. -/
inductive GuardReading
  /-- recessive at every bit time from 416 to 479 -/
  | recessive
  /-- a dominant run was seen there and ended before 480: short of 12 bit times, or a mark that began at 404 to 415 and that
  IGNORE disregards (R11), which R6 does not name (notes/assumptions/28.md) -/
  | ended
  /-- a dominant run that began before 480 still stands at 480 -/
  | inProgress
deriving DecidableEq, Repr

/-- R7: what a node that waits for a mark finds of the line from bit time 480 on. -/
inductive LateRun
  /-- no dominant run stands at bit time 496 -/
  | clear
  /-- a dominant run that began from 480 to 495 stands at bit time 496 -/
  | standing
  /-- such a run has ended short of 12 bit times: bit time 497 + n is the first after it -/
  | ended (n : Fin 10)
deriving DecidableEq, Repr

/-- R9, R22, R25: what the line carried in a slot: its byte and, in a data frame, its ninth bit. -/
structure SlotBits where
  byte : Byte
  ninth : Bool
deriving DecidableEq, Repr

/-- R192: a screen port, and the level of its SRDY at each falling edge of SCLK since the byte before. -/
structure PortEdges where
  port : Fin 4
  ready : List Bool
deriving DecidableEq, Repr

/-- R206: the 24 counters, in the order of its table. -/
inductive Counter
  | earlyMarks | ignoredMarks | cycleSlips | linkDrops | contentionLosses | slotsLost | dataCollisions | parityErrors
  | duplicateTags | undescribed | tableFull | laneDenials | recordCheckErrors | shortRecords | overlongRecords | queueDrops
  | sourceUnderruns | sourceOverruns | portMarkErrors | sourceRecordErrors | badMessages | listEvictions | linkDiscards
  | configurationFixes
deriving DecidableEq, Repr

def Counter.idx : Counter → Fin 24
  | .earlyMarks => 0 | .ignoredMarks => 1 | .cycleSlips => 2 | .linkDrops => 3 | .contentionLosses => 4
  | .slotsLost => 5 | .dataCollisions => 6 | .parityErrors => 7 | .duplicateTags => 8 | .undescribed => 9
  | .tableFull => 10 | .laneDenials => 11 | .recordCheckErrors => 12 | .shortRecords => 13 | .overlongRecords => 14
  | .queueDrops => 15 | .sourceUnderruns => 16 | .sourceOverruns => 17 | .portMarkErrors => 18
  | .sourceRecordErrors => 19 | .badMessages => 20 | .listEvictions => 21 | .linkDiscards => 22
  | .configurationFixes => 23

/-- R204: the service-link commands, with the frames that are none of them. -/
inductive ServiceCommand
  | send | readNode | readSlots | readTable | readBerth | readMissed | resetBerth | clearCounters | unknown
deriving DecidableEq, Repr

/-- R64: a valid control message, its fields read from the payload. -/
inductive Message
  | present (tag seq : Byte) (cls : AnnClass) (target : Target) (text : List Byte)
  | withdraw (tag seq : Byte)
  | berthSet (node berth stop : Nat)
  | zoneMode (mask : BitVec 16) (mode : ZoneMode)
  | card (target : Target) (duration : Nat) (text : List Byte)
  | wakeMissed (node berth stop : Nat)
  | wakeClear (node berth : Nat)
deriving DecidableEq, Repr

/-! ### Events that fall due, and the inputs of a frame start -/

/-- The steps of the opcode table that the machine's own state makes due: an accepted input, an expired timer, a
dispatched message, a delivered record, a completed service frame. Each is also a command of `Instr`. -/
inductive Event
  | framesSinceForeign
  | framesInListen
  | recordDelivered
  | present | withdraw | berthSet | zoneMode | card | wakeMissed | wakeClear
  | fading (i : Fin 16)
  | descriptionAge (i : Fin 16)
  | entry0Fade
  | missCount (l : Fin 24)
  | backoff (h : Fin 11)
  | secondsPrescaler
  | talkActivation (c : Fin 4)
  | talkDeactivation (c : Fin 4)
  | alertAccepted
  | headsetDetect (b : Fin 4)
  | volPress (b : Fin 4) (d : Dir)
  | volRelease (b : Fin 4) (d : Dir)
  | channelPress (b : Fin 4) (d : Dir)
  | ackPress (b : Fin 4)
  | buttonRelease (b : Fin 4) (k : Button)
  | repeatTimer (b : Fin 4) (d : Dir)
  | pendingTimer (b : Fin 4)
  | flashPhase (b : Fin 4)
  | rampStep (b : Fin 4) (l : LevelName)
  | duckHold (b : Fin 4)
  | holdTimer (b : Fin 4)
  | waitKeyTimer (b : Fin 4)
  | cardDuration (b : Fin 4)
  | linger (b : Fin 4)
  | gapTimer
  | command (k : ServiceCommand)
deriving DecidableEq, Repr

/-- The levels that the inputs read at a cycle tick (R51, R94, R125). They count only at the start of a frame 0. -/
structure TickPins where
  /-- TALK0 to TALK3: true is high (an input is active when low, R51) -/
  talkHigh : Table 4 Bool
  /-- another node drives ALRT -/
  alrtPeer : Bool
  /-- the six panel pins of each berth in the order of `PanelInput.idx`: true is high -/
  panelHigh : Table 4 (Table 6 Bool)
deriving DecidableEq, Repr

/-- Where two events fall at one frame start and the manual allows either order, the sender of the command names the
order taken. -/
structure FrameOrder where
  /-- R61, R89, R103: the link expiry that this frame start makes due (R13, R14) is taken before the data frame end and
  before what a tick does by the link state; the tick's counting comes before it in either order (R145, R147) -/
  linkFirst : Bool
  /-- R132: a tick at which the link leaves LISTEN is taken by the BCU while the link is still LISTEN -/
  bcuOld : Bool
  /-- R89: the same for the ANU -/
  anuOld : Bool
  /-- R94: ALRT is sampled after the events of `beforeEnd`, among them this node's own change of drive -/
  alrtLate : Bool
  /-- R71: the CMU takes the frame start before the data frame end -/
  cmuStartFirst : Bool
  /-- R68, R116, R156: the due events taken before the data frame end reaches the Mixer, the RSP and the CMU -/
  beforeEnd : List Event
  /-- R52, R69, R94, R102, R152, R191: the due events taken before the SMU's wants and an evaluation in LISTEN -/
  beforeTick : List Event
deriving DecidableEq, Repr

/-- What a frame start is given: the pins a tick samples and the order of what falls at that instant. -/
structure FrameStart where
  pins : TickPins
  order : FrameOrder
deriving DecidableEq, Repr

/-- R7: what a flywheel start is given: the line from bit time 480 on, and what every frame start is given. -/
structure FlywheelStart where
  late : LateRun
  start : FrameStart
deriving DecidableEq, Repr

end Sys2Proof
end

