-- ==== Sys2Proof/Config.lean ====
section
/-!
DEFINITION. Config.lean: what a node is configured with (chapter 11.3): fixed from the end of LOADING to the next
device reset. The manual leaves no result value of a command open, so no free value is declared here (INVENTORY.md,
"What the manual leaves open").
-/

namespace Sys2Proof

/-- R198: one berth's fields of the image. -/
structure BerthConfig where
  zone : Nat
  defaultChoice : Choice
  defaultLevel : Nat
  polarityHigh : Bool
  maxLevel : Nat
deriving DecidableEq, Repr

/-- R198: one entry of the programme list. -/
structure ProgEntry where
  audio : Option Byte
  video : Option Byte
  run : Nat
deriving DecidableEq, Repr

/-- R43: one audio source channel's record. -/
structure AspConfig where
  enabled : Bool
  tag : Byte
  autoDescribe : Bool
  cls : AnnClass
  target : Target
deriving DecidableEq, Repr

/-- R56: one record source channel's record. -/
structure RspConfig where
  enabled : Bool
  tag : Byte
  run : Nat
deriving DecidableEq, Repr

/-- The configuration of a node. -/
structure Config where
  eligible : Bool
  trunkPolicy : MarkPolicy
  portPolicy : MarkPolicy
  aspTiming : AspTiming
  linkOn : Bool
  berthCount : Nat
  berths : Table 4 BerthConfig
  programme : List ProgEntry
  asp : Table 8 AspConfig
  rsp : Table 2 RspConfig
  duckDepth : Nat
  duckRate : Nat
  duckHold : Nat
  w0 : Nat
  w1 : Nat
  escalation : Nat
  wakeRate : Nat
  wakeHold : Nat
  crewHeadset : Nat
  crewPillow : Nat
  wakeHeadset : Nat
  serviceHeadset : Nat
  nightMask : BitVec 16
deriving DecidableEq, Repr

/-- R43, R200: a disabled channel. The manual gives it no tag, class and target; 0xFF, CREW and ALL are the model's choice
(notes/assumptions/31.md). -/
def AspConfig.off : AspConfig := ⟨false, 0xFF, false, .crew, .all⟩

/-- R56, R200: a disabled channel. The manual gives it no tag and run length; 0xFF and 1 are the model's choice
(notes/assumptions/31.md). -/
def RspConfig.off : RspConfig := ⟨false, 0xFF, 1⟩

/-- R207: "configuration: none until LOADING ends". No berth is configured, no channel enabled, the link off, every
level and time 0; nothing reads a field of it before LOADING ends. -/
def Config.unloaded : Config where
  eligible := false
  trunkPolicy := .follow
  portPolicy := .follow
  aspTiming := .node
  linkOn := false
  berthCount := 0
  berths := Table.replicate 4 ⟨1, .off, 0, false, 0⟩
  programme := []
  asp := Table.replicate 8 .off
  rsp := Table.replicate 2 .off
  duckDepth := 0
  duckRate := 1
  duckHold := 0
  w0 := 0
  w1 := 0
  escalation := 0
  wakeRate := 1
  wakeHold := 30
  crewHeadset := 0
  crewPillow := 0
  wakeHeadset := 0
  serviceHeadset := 0
  nightMask := 0

/-- R200: the defaults that replace an image that is not good. The fields of its disabled channels beside `enabled` are the
model's choice (notes/assumptions/31.md). -/
def Config.defaults : Config where
  eligible := false
  trunkPolicy := .follow
  portPolicy := .follow
  aspTiming := .node
  linkOn := true
  berthCount := 4
  berths := Table.replicate 4 ⟨1, .off, 24, false, 40⟩
  programme := []
  asp := Table.replicate 8 .off
  rsp := Table.replicate 2 .off
  duckDepth := 18
  duckRate := 2
  duckHold := 400
  w0 := 20
  w1 := 40
  escalation := 4
  wakeRate := 50
  wakeHold := 120
  crewHeadset := 36
  crewPillow := 28
  wakeHeadset := 36
  serviceHeadset := 30
  nightMask := 0

/-- R197: with straps of 0 or 63 the node is follow-only and every source channel is disabled. -/
def Config.withoutAddress (c : Config) : Config :=
  { c with
    eligible := false
    asp := c.asp.map fun a => { a with enabled := false }
    rsp := c.rsp.map fun r => { r with enabled := false } }

end Sys2Proof
end

