-- ==== Sys2Proof/Syntax.lean ====
section
/-!
DEFINITION. Syntax.lean: the commands of the node, one constructor per row of spec/opcode_table.json and in its order.
The table gives no row any operand bits; the operands below are what the rules of the row's step read from outside.
-/

namespace Sys2Proof

inductive Instr
  /-- RST goes low, or power-up (R195) -/
  | deviceReset
  /-- RST rises (R195) -/
  | loadingStart
  /-- the last bit of the image is sampled: the 128 bytes, the six straps, and the pins of the first tick (R196) -/
  | loadingEnd (image : List Byte) (straps : BitVec 6) (fs : FrameStart)
  /-- bit time 480, with what was seen of the guard (R6) -/
  | frameTimerExpiry (g : GuardReading)
  /-- bit time 496 without a mark, or the end of the run that stood there (R7) -/
  | flywheel (fs : FlywheelStart)
  /-- the line has read dominant for `run` bit times, as far as the bit time after the twelfth; the run began at bit time
  `start` of the current frame, 0 for the node's own mark. Dominant data bits directly before a mark are part of the run, and
  marks driven together are one run (R3, R4) -/
  | markRecognised (run start : Nat) (fs : FrameStart)
  | framesSinceForeignExpiry
  | framesInListenExpiry
  /-- slot `k` completes with these bits on the line, `wait` bit times after its turnaround where a dominant run crossed it
  (R9) -/
  | slotCompletion (k : Fin 40) (line : SlotBits) (wait : Fin 13)
  | fadingExpiry (i : Fin 16)
  | descriptionAgeExpiry (i : Fin 16)
  | entry0FadeExpiry
  | missCountLimit (l : Fin 24)
  | recordDelivered
  | present
  | withdraw
  | berthSet
  | zoneMode
  | card
  | wakeMissed
  | wakeClear
  | secondsPrescalerExpiry
  | backoffExpiry (h : Fin 11)
  /-- the 128th bit of a port frame arrives: the bits that ADAT carried and that no earlier command gave, in order. Bits that
  end before the 128th, at an early AFS pulse, are given in the same way and fill the open port frame (R44 to R46) -/
  | portFrameComplete (bits : List Bool)
  /-- an AFS pulse from the device (R45) -/
  | afsPulse
  | talkActivation (c : Fin 4)
  | talkDeactivation (c : Fin 4)
  | alertStateAccepted
  /-- RSTB with RSEL, RSOR and RD0 to RD7 (R56) -/
  | recordByteStrobe (r : Fin 2) (rsor : Bool) (byte : Byte)
  | volPress (b : Fin 4) (d : Dir)
  | volRelease (b : Fin 4) (d : Dir)
  | repeatTimerExpiry (b : Fin 4) (d : Dir)
  | channelPress (b : Fin 4) (d : Dir)
  | pendingTimerExpiry (b : Fin 4)
  | ackPress (b : Fin 4)
  | headsetDetectChange (b : Fin 4)
  | flashPhaseExpiry (b : Fin 4)
  | rampStep (b : Fin 4) (l : LevelName)
  | duckHoldExpiry (b : Fin 4)
  | holdTimerExpiry (b : Fin 4)
  | waitKeyTimerExpiry (b : Fin 4)
  | cardDurationExpiry (b : Fin 4)
  | lingerExpiry (b : Fin 4)
  /-- the last byte of a record goes out at these edges of SCLK (R192) -/
  | screenRecordSent (e : PortEdges)
  | send
  | readNode
  | readSlots
  | readTable
  | readBerth
  | readMissed
  | resetBerth
  | clearCounters
  | gapTimerExpiry
  | replyEnd
  | buttonRelease (b : Fin 4) (k : Button)
  /-- a byte arrives on SRX at its stop bit; `stop` is the level of the stop bit (R202) -/
  | serviceLinkByte (byte : Byte) (stop : Bool)
  | unknownCommand
  | screenRecordStart (b : Fin 4)
  /-- a bit driven in slot `k` of the current frame reads back different (R16, R17) -/
  | readBackMismatch (k : Fin 40)
  | guardRunEndsShort
deriving DecidableEq, Repr

end Sys2Proof
end

