-- ==== Sys2Proof/WellFormed.lean ====
section
/-!
DEFINITION. WellFormed.lean: the operands that the node's ports and lines can carry.
-/

namespace Sys2Proof

/-- R196: the image is 128 bytes. -/
abbrev imageWf (image : List Byte) : Prop := image.length = 128

/-- R4, R7: a mark begins at bit time 0 to 495 of the current frame; at 496 a new frame has begun. -/
abbrev markStartWf (start : Nat) : Prop := start ≤ 495

/-- A command that the ports and lines can present. Every other command's operands are in range by their types. -/
def Instr.wellFormed : Instr → Bool
  | .loadingEnd image _ _ => decide (imageWf image)
  | .markRecognised _ start _ => decide (markStartWf start)
  | _ => true

end Sys2Proof
end

