-- ==== Sys2Proof/Decode.lean ====
section
/-!
DEFINITION. Decode.lean: the commands of this block are events at its lines. spec/opcode_table.json gives no row a bit
pattern, so no word spells a command. The byte formats that the node itself decodes (control messages, records, the
image, service-link frames) are in Machine/Operands.lean.
-/

namespace Sys2Proof

/-- The command that the word `w` of `nbits` bits spells by the opcode table's bits: none, for no row gives bits. -/
def decodeTableWord (_nbits _w : Nat) : Option Instr := none

end Sys2Proof
end

