-- ==== Sys2Proof/Machine/State.lean ====
section
/-!
DEFINITION. Machine/State.lean: every piece of state the manual gives the node, block by block, as plain data, and the
state after device reset. INVENTORY.md lists each field with its rule and its reset value.
-/

namespace Sys2Proof.Machine

/-- Why the node would stop with a fault. The manual names none; this one stands for a command no line can present. -/
inductive Fault
  /-- Raised by LOADING_END and MARK_RECOGNISED on operands that `Instr.wellFormed` refuses (an image not of 128 bytes, a
  mark start above 495). Safe: no line carries them. -/
  | illFormedCommand
deriving DecidableEq, Repr

/-- Why a command has no meaning here. -/
inductive Refusal
  /-- Raised by an arm of `exec` whose command is not modelled yet (none now). Safe. -/
  | notModelled (mnemonic : String)
deriving DecidableEq, Repr

/-- R51, R94, R125: a debounced state and the run of samples that differ from it. A run of 3 is a change accepted at
this tick whose event has not been taken yet. -/
structure Debouncer where
  active : Bool
  run : Nat
deriving DecidableEq, Repr

/-! ### Chapter 11: loader and service link -/

/-- R207, with the node state and address. -/
structure Loader where
  /-- R195 -/
  node : NodeState
  /-- R196: the configuration memory read is in progress (RST has risen, CCLK runs) -/
  reading : Bool
  /-- R197: the straps as sampled, 0 to 63 -/
  address : Nat
  config : Config
  /-- R200 -/
  fault : Bool
  /-- R196: the CCLK periods of the read that have gone by, 0 to 1040 -/
  period : Nat
deriving DecidableEq, Repr

/-- R202, R203. -/
structure ServiceLink where
  /-- the bytes of the frame in progress, the length byte first -/
  rx : List Byte
  gap : Timer
  /-- the command code and arguments of a frame that has completed and is not taken yet -/
  command : Option (List Byte)
  /-- the bytes of the reply in progress on STX -/
  reply : Option (List Byte)
deriving DecidableEq, Repr

/-! ### Chapter 1: the Trunk Line Unit -/

/-- R20. -/
structure Tlu where
  link : LinkState
  /-- R8: 0 to 24 -/
  frame : Nat
  /-- R5: the bit time of the current frame, 480 less the frame timer (it counts on past 480) -/
  bitTime : Nat
  cycleCount : BitVec 32
  /-- R14: 0 to 25 -/
  sinceForeign : Nat
  /-- R13: absent, or a count 0 to 24 -/
  candidate : Option Nat
  /-- R12 -/
  inListen : Nat
  /-- R17: one per holding -/
  silenced : Table 11 Bool
  /-- R19 -/
  cyc : Bool
  /-- R6: the form of the mark this node is driving and has not read back yet -/
  ownMark : Option MarkForm
  /-- R5: what was recorded of the guard at the expiry -/
  guard : GuardReading
  /-- R16, R17: per slot, the holding whose driven bit read back different in it; absent once the slot has completed -/
  mismatch : Table 40 (Option (Fin 11))
  /-- R9: how many slots of the current frame have completed (they complete in slot order) -/
  slotsDone : Nat
  /-- R5: the frame timer has expired and the next frame has not begun -/
  expired : Bool
  /-- R5, R7: a dominant run that began from bit time 480 on stood at 496 -/
  lateRun : Bool
  /-- R4, R12: a mark or a flywheel start opened the current frame; the frame that LOADING_END starts has no mark -/
  marked : Bool
deriving DecidableEq, Repr

/-! ### Chapter 2: the Slot Map Unit -/

/-- R22. -/
structure SlotEntry where
  tag : Byte
  age : Nat
  own : Option (Fin 11)
  parityErrors : Nat
deriving DecidableEq, Repr

/-- R26. -/
structure LocItem where
  tag : Byte
  first : Nat
  run : Nat
  dup : Bool
deriving DecidableEq, Repr

/-- R28; source, tag, run length and may-preempt are read from the configuration (Machine/Ops.lean). -/
structure Holding where
  state : HoldingState
  first : Option Nat
  attempts : Nat
  backoff : Nat
  /-- R39: the backoff has run out at this tick and BACKOFF_EXPIRY has not been taken -/
  backoffDue : Bool
deriving DecidableEq, Repr

/-- R16, R22: the read-back result of one slot that a holding drove in the tag frame. -/
structure SlotResult where
  slot : Nat
  holding : Fin 11
  lost : Bool
deriving DecidableEq, Repr

structure Smu where
  map : Table 40 SlotEntry
  /-- R25: the running parity counts -/
  running : Table 40 Nat
  /-- R22: the bytes and the read-back results collected in the tag frame in progress -/
  collected : Table 40 (Option Byte)
  results : List SlotResult
  /-- R26: in tag order -/
  locator : List LocItem
  holdings : Table 11 Holding
deriving DecidableEq, Repr

/-! ### Chapter 3: the source ports -/

/-- R46, R48, R49. -/
structure AspChannel where
  /-- oldest first, at most 4 -/
  fifo : List Byte
  lastCode : Byte
  repeats : Nat
  /-- R48: the byte fixed for the current data frame -/
  fixed : Byte
deriving DecidableEq, Repr

/-- R51, R53: one talk input. -/
structure Talk where
  deb : Debouncer
  count : BitVec 8
deriving DecidableEq, Repr

structure Asp where
  ch : Table 8 AspChannel
  talk : Table 4 Talk
  /-- R44, R45: a port frame is open -/
  portOpen : Bool
  /-- R44, R45: the bits of the open port frame, oldest first; at most 127 -/
  bits : List Bool
  /-- R44: under NODE timing the frame that has begun carries an AFS pulse -/
  afs : Bool
deriving DecidableEq, Repr

/-- R59 to R61: a finished record with its check byte, how many of its bytes have been taken, and the data frame in
which its check byte was. -/
structure SourceRecord where
  bytes : List Byte
  taken : Nat
  checkIn : Option Nat
deriving DecidableEq, Repr

/-- R57 to R60. -/
structure RspChannel where
  entry : EntryState
  /-- the bytes of the record being written -/
  cur : List Byte
  /-- finished records in the order they were finished, those with bytes taken first -/
  recs : List SourceRecord
  /-- R60: the bytes and record marks fixed for the run in the current data frame; empty when none are fixed -/
  fixed : List (Byte × Bool)
deriving DecidableEq, Repr

/-! ### Chapter 4: the Control Message Unit -/

/-- R66, R70: a whole message with its check byte; `sentIn` is the data frame in which it was marked as sent. -/
structure QueueItem where
  origin : Origin
  bytes : List Byte
  sentIn : Option Nat
deriving DecidableEq, Repr

/-- Chapter 4.4. -/
structure Receiver where
  tag : Option Byte
  slot : Nat
  state : RxState
  bytes : List Byte
  xor : Byte
deriving DecidableEq, Repr

/-- R78. -/
structure MissedEntry where
  node : Nat
  berth : Nat
  stop : Nat
  age : Nat
deriving DecidableEq, Repr

structure Cmu where
  queue : List QueueItem
  /-- the index of the next byte of the head item to send -/
  pos : Option Nat
  /-- R70: the byte and record mark fixed for the control slot in the current data frame -/
  fixed : Option (Byte × Bool)
  rx : Table 4 Receiver
  /-- R76: valid messages that the receivers completed and no block has taken yet, first in, first out -/
  dispatch : List Message
  /-- R78: oldest first -/
  missed : List MissedEntry
  /-- R79 -/
  prescaler : Nat
deriving DecidableEq, Repr

/-! ### Chapter 5: the Announcement Unit -/

/-- R82; an absent card text is the empty list. -/
structure AnnEntry where
  tag : Option Byte
  state : AnnState
  seq : Option Byte
  cls : Option AnnClass
  target : Option Target
  text : List Byte
  stamp : Stamp
  absence : Nat
  age : Nat
  freed : Bool
  textMark : Bool
deriving DecidableEq, Repr

/-- R100. -/
structure Follow where
  entry : Option (Fin 16)
  headset : Bool
  pillow : Bool
  cls : Option AnnClass
deriving DecidableEq, Repr

structure Anu where
  entries : Table 16 AnnEntry
  /-- R96: zone z at index z - 1 -/
  zones : Table 16 ZoneMode
  /-- R94: true is ASSERTED -/
  alert : Debouncer
  follow : Table 4 Follow
deriving DecidableEq, Repr

/-! ### Chapter 6: the Lane Capture Unit -/

/-- R106; `got` tells whether the lane took a good sample in the data frame in progress (R116). -/
structure Lane where
  tag : Option Byte
  position : Nat
  slot : Option Nat
  lastGood : Int
  miss : Nat
  got : Bool
deriving DecidableEq, Repr

/-- R118; `tag` absent is a free assembler. -/
structure Assembler where
  tag : Option Byte
  state : AsmState
  bytes : List Byte
  xor : Byte
deriving DecidableEq, Repr

/-- R109: a granted stream; for an audio tag the run is 1. -/
structure Grant where
  tag : Byte
  run : Nat
deriving DecidableEq, Repr

structure Lcu where
  lanes : Table 24 Lane
  asm : Table 8 Assembler
  pendingSet : Option (List Grant)
  active : List Grant
deriving DecidableEq, Repr

/-! ### Chapter 7: berth contexts -/

/-- R124. Berth number, configured flag and zone are read from the configuration. -/
structure Berth where
  choice : Choice
  pendingChoice : Option Choice
  pendingTimer : Timer
  userLevel : Level
  stop : Nat
  lamp : Lamp
  /-- R138: the lamp is lit (LAMPn high) -/
  lit : Bool
  flash : Timer
  /-- R125, in the order of `PanelInput.idx`; headset present is the debounced state of the first -/
  inputs : Table 6 Debouncer
  repUp : Timer
  repDown : Timer
deriving DecidableEq, Repr

/-! ### Chapter 8: the Mixer -/

/-- R144. -/
structure LevelState where
  cur : Level
  target : Level
  shape : Shape
  interval : Nat
  steps : Nat
  taken : Nat
  edge : Nat
  counter : Timer
deriving DecidableEq, Repr

/-- R144, R156, R158: one berth's mixing state, its most recent pair, and the words on HDATn and PDATn. -/
structure MixBerth where
  programme : LevelState
  headset : LevelState
  pillow : LevelState
  duck : DuckState
  hold : Timer
  ann : Option (Fin 16 × AnnClass)
  /-- R148: the class of the announcement followed last, for the duck target in HOLDING -/
  lastClass : AnnClass
  flag : Bool
  pair : Int × Int
  hdat : BitVec 16
  pdat : BitVec 16
deriving DecidableEq, Repr

/-! ### Chapter 9: the Wake Unit -/

/-- R162; the hold timer is its prescaler and its seconds. -/
structure Wake where
  state : WakeState
  base : Nat
  following : Bool
  hold : Option (Nat × Nat)
deriving DecidableEq, Repr

/-! ### Chapter 10: the Screen Feed Unit -/

/-- Chapter 10.6. -/
structure Overlay where
  source : OverlaySource
  entry : Option (Fin 16)
  card : Nat
  text : List Byte
  phase : OverlayPhase
  seconds : Nat
  prescaler : Nat
  linger : Nat
deriving DecidableEq, Repr

/-- R177, R178, R192. -/
structure Feed where
  state : FeedState
  video : Option Byte
  /-- whole records, head first -/
  queue : List (List Byte)
  /-- the head record is in transmission -/
  tx : Bool
  /-- R192: how many bytes of the head record have gone out -/
  sent : Nat
  waitKey : Timer
  base : BaseCard
  overlay : Option Overlay
  /-- the byte on SDATn and the level of SSORn -/
  sdat : Byte
  ssor : Bool
deriving DecidableEq, Repr

structure Sfu where
  feeds : Table 4 Feed
  /-- R119, R179: good records with their tags that the SFU has not taken yet, first in, first out -/
  inbox : List (Byte × List Byte)
deriving DecidableEq, Repr

/-! ### The node -/

structure State where
  /-- the commands that wait, first in, first out -/
  pending : List Instr
  /-- R206, in the order of its table -/
  counters : Table 24 (BitVec 16)
  cfl : Loader
  svl : ServiceLink
  tlu : Tlu
  smu : Smu
  asp : Asp
  rsp : Table 2 RspChannel
  cmu : Cmu
  anu : Anu
  lcu : Lcu
  bcu : Table 4 Berth
  /-- R158: BFS carries a pulse for the frame that has begun -/
  bfs : Bool
  mix : Table 4 MixBerth
  wku : Table 4 Wake
  sfu : Sfu
deriving DecidableEq, Repr

/-! ### Device reset -/

def Debouncer.reset : Debouncer := ⟨false, 0⟩

/-- R207. -/
def Loader.reset : Loader := ⟨.loading, false, 0, Config.unloaded, false, 0⟩

/-- R207. -/
def ServiceLink.reset : ServiceLink := ⟨[], none, none, none⟩

/-- R20. -/
def Tlu.reset : Tlu where
  link := .loading
  frame := 0
  bitTime := 0
  cycleCount := 0
  sinceForeign := 0
  candidate := none
  inListen := 0
  silenced := Table.replicate 11 false
  cyc := false
  ownMark := none
  guard := .recessive
  mismatch := Table.replicate 40 none
  slotsDone := 0
  expired := false
  lateRun := false
  marked := false

/-- R41, R42: a cleared entry of the slot map. -/
def SlotEntry.clear : SlotEntry := ⟨0xFF, 0, none, 0⟩

/-- R42. -/
def Holding.reset : Holding := ⟨.inactive, none, 0, 1, false⟩

/-- R42. -/
def Smu.reset : Smu where
  map := Table.replicate 40 .clear
  running := Table.replicate 40 0
  collected := Table.replicate 40 none
  results := []
  locator := []
  holdings := Table.replicate 11 .reset

/-- R55. -/
def AspChannel.reset : AspChannel := ⟨[], 0, 0, 0⟩

/-- R55. -/
def Asp.reset : Asp where
  ch := Table.replicate 8 .reset
  talk := Table.replicate 4 ⟨.reset, 0⟩
  portOpen := false
  bits := []
  afs := false

/-- R62. -/
def RspChannel.reset : RspChannel := ⟨.waitStart, [], [], []⟩

/-- R73, R81: an unassigned receiver. The manual gives it no slot; slot 0 is the model's choice (notes/assumptions/7.md), and
nothing reads the slot of a receiver without a tag. -/
def Receiver.reset : Receiver := ⟨none, 0, .hunt, [], 0⟩

/-- R81. -/
def Cmu.reset : Cmu where
  queue := []
  pos := none
  fixed := none
  rx := Table.replicate 4 .reset
  dispatch := []
  missed := []
  prescaler := 1000

/-- R82: a FREE entry. -/
def AnnEntry.free : AnnEntry := ⟨none, .free, none, none, none, [], .absent, 0, 0, false, false⟩

/-- R105: entry 0. -/
def AnnEntry.idle0 : AnnEntry := ⟨some 0x00, .idle, none, some .alert, some .all, [], .absent, 0, 0, false, false⟩

/-- R101, R105: a follow record that names no entry. -/
def Follow.nothing : Follow := ⟨none, false, false, none⟩

/-- R105. -/
def Anu.reset : Anu where
  entries := (Table.replicate 16 AnnEntry.free).set 0 .idle0
  zones := Table.replicate 16 .day
  alert := .reset
  follow := Table.replicate 4 .nothing

/-- R106, R123. The manual gives a free lane no position; 0 is the model's choice (notes/assumptions/7.md). -/
def Lane.free : Lane := ⟨none, 0, none, 0, 0, false⟩

/-- R123. -/
def Assembler.free : Assembler := ⟨none, .hunt, [], 0⟩

/-- R123. -/
def Lcu.reset : Lcu where
  lanes := Table.replicate 24 .free
  asm := Table.replicate 8 .free
  pendingSet := none
  active := []

/-- R124, R140: an unconfigured berth. The manual does not give its repeat timers, its flash phase and the debouncers of its five
buttons; stopped, and INACTIVE with run 0, are the model's choice (notes/assumptions/7.md). -/
def Berth.unconfigured : Berth where
  choice := .off
  pendingChoice := none
  pendingTimer := none
  userLevel := .mute
  stop := 0
  lamp := .off
  lit := false
  flash := none
  inputs := Table.replicate 6 .reset
  repUp := none
  repDown := none

/-- R144, R160: a level state at rest. Its shape and step interval are the model's choice (notes/assumptions/7.md). -/
def LevelState.rest (l : Level) : LevelState := ⟨l, l, .linear, 1, 0, 0, 0, none⟩

/-- R161: an unconfigured berth's mixing state. -/
def MixBerth.unconfigured : MixBerth where
  programme := .rest .mute
  headset := .rest .mute
  pillow := .rest .mute
  duck := .unducked
  hold := none
  ann := none
  lastClass := .crew
  flag := false
  pair := (0, 0)
  hdat := 0
  pdat := 0

/-- R162, R175: an unconfigured berth's wake context, with its base level. -/
def Wake.unconfigured (base : Nat) : Wake := ⟨.idle, base, false, none⟩

/-- R194. -/
def Feed.reset : Feed where
  state := .off
  video := none
  queue := []
  tx := false
  sent := 0
  waitKey := none
  base := .none
  overlay := none
  sdat := 0
  ssor := false

/-- R194. -/
def Sfu.reset : Sfu := ⟨Table.replicate 4 .reset, []⟩

/-- The node right after device reset: RST is low, every block in its reset state (R195). -/
def State.reset : State where
  pending := []
  counters := Table.replicate 24 0
  cfl := .reset
  svl := .reset
  tlu := .reset
  smu := .reset
  asp := .reset
  rsp := Table.replicate 2 .reset
  cmu := .reset
  anu := .reset
  lcu := .reset
  bcu := Table.replicate 4 .unconfigured
  bfs := false
  mix := Table.replicate 4 .unconfigured
  wku := Table.replicate 4 (.unconfigured 0)
  sfu := .reset

end Sys2Proof.Machine
end

