-- ==== Sys2Proof/Machine/Ops.lean ====
section
/-!
DEFINITION. Machine/Ops.lean: the named operations over the node's registers that every block shares: the counters, the
configured fields, tags, holdings, debouncers, timers, levels, and one update operation per table of State.
-/

namespace Sys2Proof

/-- The numbers 0 to n - 1, in order: berths, holdings, lanes, slots. -/
def indices (n : Nat) : List (Fin n) := List.finRange n

/-! ### Levels (R141) -/

/-- R141: the place on the order MUTE, 0, 1, …, 48. -/
def Level.rank : Level → Nat
  | .mute => 0
  | .lvl n => n + 1

def Level.ofRank : Nat → Level
  | 0 => .mute
  | n + 1 => .lvl n

/-- R141: the distance in steps. -/
def Level.distance (a b : Level) : Nat := (a.rank - b.rank) + (b.rank - a.rank)

/-- R146: one step toward the target. -/
def Level.toward (cur target : Level) : Level :=
  if cur.rank < target.rank then .ofRank (cur.rank + 1)
  else if target.rank < cur.rank then .ofRank (cur.rank - 1)
  else cur

/-- R148: the user level minus D when that is 0 or more, and MUTE otherwise. -/
def Level.lowered (l : Level) (d : Nat) : Level :=
  match l with
  | .mute => .mute
  | .lvl n => if d ≤ n then .lvl (n - d) else .mute

/-! ### Configured choices and levels -/

/-- R124: the programme list entry that a choice names. -/
def Config.prog (c : Config) : Choice → Option ProgEntry
  | .off => none
  | .entry i => c.programme[i]?

def Config.audioOf (c : Config) (ch : Choice) : Option Byte := (c.prog ch).bind (·.audio)
def Config.videoOf (c : Config) (ch : Choice) : Option Byte := (c.prog ch).bind (·.video)

/-- R139, R160: the default level, or the maximum if the default exceeds it. -/
def BerthConfig.resetLevel (b : BerthConfig) : Level := .lvl (min b.defaultLevel b.maxLevel)

namespace Machine

/-! ### Counters (R206) -/

/-- R206: 16 bits, an increment at 65,535 leaves it there. -/
def satInc (c : BitVec 16) : BitVec 16 := if c = 0xFFFF then c else c + 1

def State.counter (s : State) (c : Counter) : BitVec 16 := s.counters.get c.idx

def State.bump (c : Counter) (s : State) : State :=
  { s with counters := s.counters.modify c.idx satInc }

def State.bumpN (c : Counter) : Nat → State → State
  | 0, s => s
  | n + 1, s => (s.bumpN c n).bump c

/-! ### One update per table -/

def State.setHolding (h : Fin 11) (x : Holding) (s : State) : State :=
  { s with smu := { s.smu with holdings := s.smu.holdings.set h x } }

def State.setEntry (i : Fin 16) (x : AnnEntry) (s : State) : State :=
  { s with anu := { s.anu with entries := s.anu.entries.set i x } }

def State.setFollow (b : Fin 4) (x : Follow) (s : State) : State :=
  { s with anu := { s.anu with follow := s.anu.follow.set b x } }

def State.setBerth (b : Fin 4) (x : Berth) (s : State) : State := { s with bcu := s.bcu.set b x }

def State.setMix (b : Fin 4) (x : MixBerth) (s : State) : State := { s with mix := s.mix.set b x }

def State.setWake (b : Fin 4) (x : Wake) (s : State) : State := { s with wku := s.wku.set b x }

def State.setFeed (b : Fin 4) (x : Feed) (s : State) : State :=
  { s with sfu := { s.sfu with feeds := s.sfu.feeds.set b x } }

def State.setRsp (r : Fin 2) (x : RspChannel) (s : State) : State := { s with rsp := s.rsp.set r x }

def State.setLane (l : Fin 24) (x : Lane) (s : State) : State :=
  { s with lcu := { s.lcu with lanes := s.lcu.lanes.set l x } }

def State.setTalk (c : Fin 4) (x : Talk) (s : State) : State :=
  { s with asp := { s.asp with talk := s.asp.talk.set c x } }

def State.feed (s : State) (b : Fin 4) : Feed := s.sfu.feeds.get b

/-! ### Configured fields -/

def State.cfg (s : State) : Config := s.cfl.config

/-- R195. -/
def State.running (s : State) : Bool := decide (s.cfl.node = .running)

/-- R124: a berth is configured when its number is less than the berth count. -/
def State.configured (s : State) (b : Fin 4) : Bool := decide (b.val < s.cfg.berthCount)

def State.configuredBerths (s : State) : List (Fin 4) := (indices 4).filter s.configured

/-- R197: a number from 1 to 62 is an address. -/
def State.addressValid (s : State) : Bool := decide (1 ≤ s.cfl.address ∧ s.cfl.address ≤ 62)

/-- The link is LOCKED or LEADING: slot contents are handed on (chapter 1.7). -/
def State.onTrunk (s : State) : Bool := decide (s.tlu.link = .locked ∨ s.tlu.link = .leading)

def State.berthCfg (s : State) (b : Fin 4) : BerthConfig := s.cfg.berths.get b

/-! ### Tags (R21) -/

def tagKind (t : Byte) : TagKind :=
  let n := t.toNat
  if n = 0x00 then .alert
  else if n ≤ 0x3F then .announcement
  else if n = 0x40 then .damaged
  else if n ≤ 0x7E then .control
  else if n = 0x7F then .damaged
  else if n ≤ 0xBF then .audio
  else if n ≤ 0xFD then .video
  else if n = 0xFE then .damaged
  else .idle

/-- R26: the kinds that the stream locator lists. -/
def locatable (t : Byte) : Bool :=
  match tagKind t with
  | .damaged | .idle => false
  | _ => true

/-- R2, R15: the kinds whose ninth bit is odd parity. -/
def carriesParity (t : Byte) : Bool :=
  match tagKind t with
  | .alert | .announcement | .audio => true
  | _ => false

def isVideo (t : Byte) : Bool := decide (tagKind t = .video)

/-- R28: may-preempt is yes when the tag is below 0x80. -/
def mayPreempt (t : Byte) : Bool := decide (t.toNat < 0x80)

def locate (loc : List LocItem) (t : Byte) : Option LocItem := loc.find? fun i => i.tag = t

/-- R26: a tag that is located is present on the trunk. -/
def State.located (s : State) (t : Byte) : Bool := (locate s.smu.locator t).isSome

/-! ### Holdings (R28) -/

inductive Source | asp (c : Fin 8) | rsp (r : Fin 2) | cmu
deriving DecidableEq, Repr

/-- R28: indices 0 to 7 are ASP channels, 8 and 9 RSP channels, 10 the CMU. -/
def sourceOf (h : Fin 11) : Source :=
  if h1 : h.val < 8 then .asp ⟨h.val, h1⟩
  else if h2 : h.val < 10 then .rsp ⟨h.val - 8, by omega⟩
  else .cmu

def aspHolding (c : Fin 8) : Fin 11 := ⟨c.val, by omega⟩
def rspHolding (r : Fin 2) : Fin 11 := ⟨r.val + 8, by omega⟩
def cmuHolding : Fin 11 := 10

/-- R21: the control stream of a node is C followed by its address. -/
def controlTag (address : Nat) : Byte := BitVec.ofNat 8 (0x40 + address)

def State.holdingTag (s : State) (h : Fin 11) : Byte :=
  match sourceOf h with
  | .asp c => (s.cfg.asp.get c).tag
  | .rsp r => (s.cfg.rsp.get r).tag
  | .cmu => controlTag s.cfl.address

def State.holdingRun (s : State) (h : Fin 11) : Nat :=
  match sourceOf h with
  | .rsp r => (s.cfg.rsp.get r).run
  | _ => 1

def State.holding (s : State) (h : Fin 11) : Holding := s.smu.holdings.get h

def State.held (s : State) (h : Fin 11) : Bool := decide ((s.holding h).state = .held)

/-- R32, R36: the slots of a target or of a held run. -/
def Holding.covers (x : Holding) (run slot : Nat) : Bool :=
  match x.first with
  | some f => decide (f ≤ slot ∧ slot < f + run)
  | none => false

/-! ### Debouncers (R51, R94, R125) -/

/-- One sample at a cycle tick. The third differing sample in a row leaves the run at 3: the change is accepted. -/
def Debouncer.sample (level : Bool) (d : Debouncer) : Debouncer :=
  if level = d.active then { d with run := 0 } else { d with run := min (d.run + 1) 3 }

/-- A change is accepted and its event has not been taken. -/
def Debouncer.due (d : Debouncer) : Bool := decide (d.run = 3)

/-- The new state is accepted and the run count returns to 0. -/
def Debouncer.accept (d : Debouncer) : Debouncer := ⟨!d.active, 0⟩

/-! ### Timers -/

/-- One cycle tick of a down-counter; a count of 0 waits for its expiry to be taken. -/
def countDown (t : Timer) : Timer := t.map (· - 1)

/-- The timer has expired. -/
def expired (t : Timer) : Bool := decide (t = some 0)

/-! ### Bytes -/

/-- Exclusive OR of a list of bytes: every check byte of the manual. -/
def xorAll (l : List Byte) : Byte := l.foldl (· ^^^ ·) 0

def withCheck (l : List Byte) : List Byte := l ++ [xorAll l]

/-- Two bytes, high byte first. -/
def be16 (n : Nat) : List Byte := [BitVec.ofNat 8 (n / 256), BitVec.ofNat 8 n]

/-- Four bytes, high byte first. -/
def be32 (n : Nat) : List Byte :=
  [BitVec.ofNat 8 (n / 16777216), BitVec.ofNat 8 (n / 65536), BitVec.ofNat 8 (n / 256), BitVec.ofNat 8 n]

def of16 (hi lo : Byte) : Nat := hi.toNat * 256 + lo.toNat

/-- The number of ones in a byte. -/
def ones (b : Byte) : Nat := ((List.range 8).filter fun i => b.getLsbD i).length

/-- R2: the nine bits together hold an odd number of ones. -/
def oddParity (b : Byte) (ninth : Bool) : Bool := decide ((ones b + ninth.toNat) % 2 = 1)

/-- R15: the ninth bit that makes the parity odd. -/
def parityBit (b : Byte) : Bool := decide (ones b % 2 = 0)

/-- R2: a slot that nobody drives. -/
def undriven (b : Byte) (ninth : Bool) : Bool := decide (b = 0xFF) && ninth

end Machine
end Sys2Proof
end

