-- ==== Sys2Proof/Machine/Operands.lean ====
section
/-!
DEFINITION. Machine/Operands.lean: the formats of what the commands carry: log codes (R47, R114), control messages
(R63 to R65), screen records (R176), the configuration image (R198, R199) and service-link frames (R202, R204).
-/

namespace Sys2Proof
namespace Machine

/-! ### Log codes -/

/-- Chapter 3.1.1: the first magnitude of segment e. -/
def segmentStart (e : Nat) : Nat := 16 * 2 ^ e - 16

/-- R47, second step: the largest segment whose first magnitude does not exceed mag. -/
def segmentOf (mag : Nat) : Nat :=
  ((List.range 8).filter fun e => decide (segmentStart e ≤ mag)).foldl max 0

/-- R47: a sample to a log code. -/
def logEncode (sample : BitVec 16) : Byte :=
  let mag := min (sample.toInt.natAbs / 8) 3952
  let e := segmentOf mag
  let m := (mag + 16) / 2 ^ e - 16
  let sign := if sample.toInt < 0 ∧ 0 < mag then 1 else 0
  BitVec.ofNat 8 (sign * 128 + e * 16 + m)

/-- R114: a log code to a linear sample. -/
def logDecode (code : Byte) : Int :=
  let n := code.toNat
  let mag := (16 + n % 16) * 2 ^ (n / 16 % 8) - 16
  if n / 128 = 1 then -((mag * 8 : Nat) : Int) else ((mag * 8 : Nat) : Int)

/-! ### Control messages -/

/-- R65: bytes outside 0x20 to 0x7E become the space. -/
def cleanText (t : List Byte) : List Byte :=
  t.map fun c => if 0x20 ≤ c.toNat ∧ c.toNat ≤ 0x7E then c else 0x20

/-- R64: a target kind and its value, read together. -/
def parseTarget (kind hi lo : Byte) : Option Target :=
  let v := of16 hi lo
  if kind = 0 then (if v = 0 then some .all else none)
  else if kind = 1 then (if v = 0 then none else some (.zones (BitVec.ofNat 16 v)))
  else if kind = 2 then (if 1 ≤ v ∧ v ≤ 250 then some (.stop v) else none)
  else none

/-- R64: class 1 CREW, 2 WAKE, 3 SERVICE. -/
def parseClass (c : Byte) : Option AnnClass :=
  if c = 1 then some .crew else if c = 2 then some .wake else if c = 3 then some .service else none

def isNode (n : Byte) : Bool := decide (1 ≤ n.toNat ∧ n.toNat ≤ 62)
def isBerth (b : Byte) : Bool := decide (b.toNat ≤ 3)

/-- R64, R65: the message of a kind byte and a payload, its text replaced; none when it is invalid. -/
def parseMessage (kind : Byte) (p : List Byte) : Option Message :=
  if kind = 0x01 then
    match p with
    | tag :: seq :: cls :: tk :: hi :: lo :: n :: text =>
      match parseClass cls, parseTarget tk hi lo with
      | some c, some t =>
        if tag.toNat ≤ 0x3F ∧ n.toNat ≤ 40 ∧ text.length = n.toNat then some (.present tag seq c t (cleanText text))
        else none
      | _, _ => none
    | _ => none
  else if kind = 0x02 then
    match p with
    | [tag, seq] => if 1 ≤ tag.toNat ∧ tag.toNat ≤ 0x3F then some (.withdraw tag seq) else none
    | _ => none
  else if kind = 0x03 then
    match p with
    | [n, b, st] =>
      if isNode n ∧ isBerth b ∧ st.toNat ≤ 250 then some (.berthSet n.toNat b.toNat st.toNat) else none
    | _ => none
  else if kind = 0x04 then
    match p with
    | [hi, lo, m] =>
      if m = 0 then some (.zoneMode (BitVec.ofNat 16 (of16 hi lo)) .day)
      else if m = 1 then some (.zoneMode (BitVec.ofNat 16 (of16 hi lo)) .night)
      else none
    | _ => none
  else if kind = 0x05 then
    match p with
    | tk :: hi :: lo :: d :: n :: text =>
      match parseTarget tk hi lo with
      | some t =>
        if 1 ≤ d.toNat ∧ n.toNat ≤ 40 ∧ text.length = n.toNat then some (.card t d.toNat (cleanText text)) else none
      | none => none
    | _ => none
  else if kind = 0x06 then
    match p with
    | [n, b, st] =>
      if isNode n ∧ isBerth b ∧ 1 ≤ st.toNat ∧ st.toNat ≤ 250 then some (.wakeMissed n.toNat b.toNat st.toNat) else none
    | _ => none
  else if kind = 0x07 then
    match p with
    | [n, b] => if isNode n ∧ isBerth b then some (.wakeClear n.toNat b.toNat) else none
    | _ => none
  else none

/-- R64: the class byte of a PRESENT. -/
def classByte : AnnClass → Byte
  | .crew => 1 | .wake => 2 | .service => 3 | .alert => 0

end Machine

def Target.kindByte : Target → Byte
  | .all => 0
  | .zones _ => 1
  | .stop _ => 2

def Target.value : Target → Nat
  | .all => 0
  | .zones m => m.toNat
  | .stop s => s

def Target.bytes (t : Target) : List Byte := t.kindByte :: Machine.be16 t.value

/-- R63, R64: kind, length and payload of a message. -/
def Message.body (m : Message) : List Byte :=
  let lay (kind : Byte) (p : List Byte) : List Byte := kind :: BitVec.ofNat 8 p.length :: p
  match m with
  | .present tag seq cls t text =>
    lay 0x01 (tag :: seq :: Machine.classByte cls :: t.bytes ++ (BitVec.ofNat 8 text.length :: text))
  | .withdraw tag seq => lay 0x02 [tag, seq]
  | .berthSet n b st => lay 0x03 [BitVec.ofNat 8 n, BitVec.ofNat 8 b, BitVec.ofNat 8 st]
  | .zoneMode mask mode => lay 0x04 (Machine.be16 mask.toNat ++ [if mode = .night then 1 else 0])
  | .card t d text => lay 0x05 (t.bytes ++ (BitVec.ofNat 8 d :: BitVec.ofNat 8 text.length :: text))
  | .wakeMissed n b st => lay 0x06 [BitVec.ofNat 8 n, BitVec.ofNat 8 b, BitVec.ofNat 8 st]
  | .wakeClear n b => lay 0x07 [BitVec.ofNat 8 n, BitVec.ofNat 8 b]

/-- R63: the whole message with its check byte. -/
def Message.bytes (m : Message) : List Byte := Machine.withCheck m.body

namespace Machine

/-! ### Screen records (R176) -/

def typeKey : Byte := 0x01
def typeDelta : Byte := 0x02
def typeEnd : Byte := 0x7F
def typeCard : Byte := 0x10
def typeClear : Byte := 0x11

/-- A record of this type and payload, with its length bytes and check byte. -/
def screenRecord (type : Byte) (payload : List Byte) : List Byte :=
  withCheck (type :: be16 payload.length ++ payload)

/-- CARD: layer, card number, text. -/
def cardRecord (layer : Byte) (number : Nat) (text : List Byte) : List Byte :=
  screenRecord typeCard (layer :: BitVec.ofNat 8 number :: BitVec.ofNat 8 text.length :: text)

def clearRecord (layer : Byte) : List Byte := screenRecord typeClear [layer]

def layerBase : Byte := 0
def layerOverlay : Byte := 1

/-- R176: CARD and CLEAR are the card records. -/
def isCardRecord (r : List Byte) : Bool :=
  match r with
  | t :: _ => decide (t = typeCard ∨ t = typeClear)
  | [] => false

/-- The layer of a card record: the first payload byte. -/
def recordLayer (r : List Byte) : Byte := r.getD 3 0

/-- The payload length L of a record. -/
def recordLength (r : List Byte) : Nat := of16 (r.getD 1 0) (r.getD 2 0)

/-! ### The configuration image (R196 to R200) -/

/-- R196: an unread byte is pulled up. -/
def imageByte (im : List Byte) (k : Nat) : Byte := im.getD k 0xFF

/-- R196: byte 0 is 0x01 and byte 127 is the exclusive OR of bytes 0 to 126. -/
def imageGood (im : List Byte) : Bool :=
  decide (imageByte im 0 = 0x01 ∧ imageByte im 127 = xorAll ((List.range 127).map (imageByte im)))

/-- A field as read and as corrected: the value to take, and whether a correction was made (0 or 1). -/
abbrev Fixed (α : Type) := α × Nat

/-- R199: a limit on both sides. -/
def clampField (lo hi v : Nat) : Fixed Nat :=
  if v < lo then (lo, 1) else if hi < v then (hi, 1) else (v, 0)

/-- R199: any value out of the set becomes none; 0xFF is none. -/
def tagField (k : TagKind) (v : Byte) : Fixed (Option Byte) :=
  if v = 0xFF then (none, 0) else if tagKind v = k then (some v, 0) else (none, 1)

/-- R199: a default choice beyond the list becomes OFF; 0xFF is OFF. -/
def choiceField (n : Nat) (v : Byte) : Fixed Choice :=
  if v = 0xFF then (.off, 0) else if v.toNat < n then (.entry v.toNat, 0) else (.off, 1)

/-- R198, R199: one entry of the programme list, at its offset. -/
def progField (im : List Byte) (i : Nat) : Fixed ProgEntry :=
  let o := 20 + 3 * i
  let a := tagField .audio (imageByte im o)
  let v := tagField .video (imageByte im (o + 1))
  let r := if v.1.isSome then clampField 1 8 (imageByte im (o + 2)).toNat else (1, 0)
  (⟨a.1, v.1, r.1⟩, a.2 + v.2 + r.2)

/-- R198, R199: berth b, of a programme list of n entries. A berth at or beyond the berth count is read in the same way, the
model's choice (notes/assumptions/31.md); its corrections are not counted, and no rule reads it. -/
def berthField (im : List Byte) (n : Nat) (b : Fin 4) : Fixed BerthConfig :=
  let o := 3 + 4 * b.val
  let z := clampField 1 16 (imageByte im o).toNat
  let c := choiceField n (imageByte im (o + 1))
  let lv := imageByte im (o + 2)
  let d := clampField 0 48 (lv.toNat % 64)
  let m := clampField 0 48 (imageByte im (o + 3)).toNat
  (⟨z.1, c.1, d.1, lv.getLsbD 7, m.1⟩, z.2 + c.2 + d.2 + m.2)

/-- R199: the target of an ASP channel: the kind, and a value in that kind's range. -/
def targetField (kind value : Nat) : Fixed Target :=
  if kind = 0 then (.all, if value = 0 then 0 else 1)
  else if kind = 1 then (if value = 0 then (.zones 1, 1) else (.zones (BitVec.ofNat 16 value), 0))
  else
    let s := clampField 1 250 value
    (.stop s.1, s.2 + (if kind = 3 then 1 else 0))

/-- R199: class 0 becomes CREW. -/
def classField (c : Nat) : Fixed AnnClass :=
  if c = 0 then (.crew, 1) else if c = 1 then (.crew, 0) else if c = 2 then (.wake, 0) else (.service, 0)

/-- R43, R198, R199: ASP channel c; the class and target are read when it is enabled and auto-describe is set, and a
tag the channel may not carry disables it. Of a channel whose class and target are not read they are CREW and ALL, the model's
choice (notes/assumptions/31.md). -/
def aspField (im : List Byte) (c : Fin 8) : Fixed AspConfig :=
  let o := 68 + 4 * c.val
  let tag := imageByte im o
  let fl := imageByte im (o + 1)
  let enabled := fl.getLsbD 0
  let auto := fl.getLsbD 1
  let cl : Fixed AnnClass := if enabled && auto then classField (fl.toNat / 4 % 4) else (.crew, 0)
  let tg : Fixed Target :=
    if enabled && auto then targetField (fl.toNat / 16 % 4) (of16 (imageByte im (o + 2)) (imageByte im (o + 3)))
    else (.all, 0)
  let may := match tagKind tag with
    | .audio => true
    | .alert | .announcement => decide (c.val < 4)
    | _ => false
  (⟨enabled && may, tag, auto, cl.1, tg.1⟩, cl.2 + tg.2 + (if enabled && !may then 1 else 0))

/-- R56, R198, R199: RSP channel r; one with its enable clear is not checked: it keeps its tag, and its run length is 1, the
model's choice (notes/assumptions/31.md). -/
def rspField (im : List Byte) (r : Fin 2) : Fixed RspConfig :=
  let o := 100 + 2 * r.val
  let tag := imageByte im o
  let fl := imageByte im (o + 1)
  let enabled := fl.getLsbD 7
  let run : Fixed Nat := if enabled then clampField 1 8 (fl.toNat % 16) else (1, 0)
  (⟨enabled && isVideo tag, tag, run.1⟩, run.2 + (if enabled && !isVideo tag then 1 else 0))

def policyOf (ignore : Bool) : MarkPolicy := if ignore then .ignore else .follow

/-- R198, R199: the configuration of a good image, with the number of corrections. -/
def readImage (im : List Byte) : Fixed Config :=
  let byte (k : Nat) : Nat := (imageByte im k).toNat
  let flags := imageByte im 1
  let count := clampField 0 4 (byte 2)
  let n := clampField 0 16 (byte 19)
  let progs := (List.range n.1).map (progField im)
  let berths := Table.ofFn (berthField im n.1)
  let asps := Table.ofFn (aspField im)
  let rsps := Table.ofFn (rspField im)
  let depth := clampField 0 49 (byte 104)
  let duckRate := clampField 1 255 (byte 105)
  let duckHold := clampField 0 2000 (of16 (imageByte im 106) (imageByte im 107))
  let w0 := clampField 0 48 (byte 108)
  let w1 := clampField w0.1 48 (byte 109)
  let e := clampField 0 16 (byte 110)
  let wakeRate := clampField 1 255 (byte 111)
  let wakeHold := clampField 30 600 (of16 (imageByte im 112) (imageByte im 113))
  let ch := clampField 0 48 (byte 114)
  let cp := clampField 0 48 (byte 115)
  let wh := clampField 0 48 (byte 116)
  let sh := clampField 0 48 (byte 117)
  let berthFixes := ((berths.toList.take count.1).map (·.2)).sum
  let fixes := count.2 + n.2 + (progs.map (·.2)).sum + berthFixes + (asps.toList.map (·.2)).sum +
    (rsps.toList.map (·.2)).sum + depth.2 + duckRate.2 + duckHold.2 + w0.2 + w1.2 + e.2 + wakeRate.2 + wakeHold.2 +
    ch.2 + cp.2 + wh.2 + sh.2
  ({ eligible := flags.getLsbD 0
     trunkPolicy := policyOf (flags.getLsbD 1)
     portPolicy := policyOf (flags.getLsbD 2)
     aspTiming := if flags.getLsbD 3 then .device else .node
     linkOn := flags.getLsbD 4
     berthCount := count.1
     berths := berths.map (·.1)
     programme := progs.map (·.1)
     asp := asps.map (·.1)
     rsp := rsps.map (·.1)
     duckDepth := depth.1
     duckRate := duckRate.1
     duckHold := duckHold.1
     w0 := w0.1
     w1 := w1.1
     escalation := e.1
     wakeRate := wakeRate.1
     wakeHold := wakeHold.1
     crewHeadset := ch.1
     crewPillow := cp.1
     wakeHeadset := wh.1
     serviceHeadset := sh.1
     nightMask := BitVec.ofNat 16 (of16 (imageByte im 118) (imageByte im 119)) }, fixes)

/-! ### Service-link frames (R202 to R204) -/

/-- The command code and arguments of a frame, as R204's table names them. -/
def classify : List Byte → ServiceCommand
  | [] => .unknown
  | code :: args =>
    if code = 0x01 then (if 2 ≤ args.length ∧ args.length ≤ 62 then .send else .unknown)
    else if code = 0x02 then (if args.length = 0 then .readNode else .unknown)
    else if code = 0x03 then (if args.length = 0 then .readSlots else .unknown)
    else if code = 0x04 then (if args.length = 0 then .readTable else .unknown)
    else if code = 0x05 then (if args.length = 1 then .readBerth else .unknown)
    else if code = 0x06 then (if args.length = 0 then .readMissed else .unknown)
    else if code = 0x07 then (if args.length = 1 then .resetBerth else .unknown)
    else if code = 0x08 then (if args.length = 0 then .clearCounters else .unknown)
    else .unknown

/-- R203: the statuses of a reply. -/
inductive Status | ok | busy | bad | absent
deriving DecidableEq, Repr

def Status.byte : Status → Byte
  | .ok => 0 | .busy => 1 | .bad => 2 | .absent => 3

/-- R203: a reply frame: the length of what follows up to the check byte, the command code, the status, the data. -/
def replyFrame (code : Byte) (st : Status) (data : List Byte) : List Byte :=
  withCheck (be16 (data.length + 2) ++ code :: st.byte :: data)

end Machine
end Sys2Proof
end

