-- ==== Sys2Proof/Machine/Flags.lean ====
section
/-!
DEFINITION. Machine/Flags.lean: the output pins and lamps that follow from the state: FAULT (R201), ALRT (R54), RRDY (R56),
the notice lamp (R138), CCLK and CDAT (R196), the port clocks ABCK, AFS, BBCK and SCLK (R44, R158, R192) and STX (R203).
-/

namespace Sys2Proof.Machine

/-- R201: FAULT is asserted (low) in RUNNING while the configuration fault is set or the link state is LISTEN. -/
def State.faultAsserted (s : State) : Bool :=
  s.running && (s.cfl.fault || decide (s.tlu.link = .listen))

/-! ### The configuration memory's pins (R196, R207) -/

/-- R196: CCLK runs while the configuration memory is read; otherwise it is held low. -/
def State.cclkRuns (s : State) : Bool := s.cfl.reading

/-- R196: what the node sends on CDAT: the read command 0x03 and the start address 0x00. -/
def readRequest : BitVec 16 := 0x0300

/-- R196, R207: the bit that the node drives on CDAT: one bit of the request in each of the first 16 CCLK periods of the
read, most significant first; otherwise it releases CDAT. -/
def State.cdat (s : State) : Option Bool :=
  if s.cfl.reading = true ∧ s.cfl.period < 16 then some (readRequest.getMsbD s.cfl.period) else none

/-! ### The clocks of the ports (R44, R55, R158, R159, R192) -/

/-- R44, R55: from the end of LOADING the node drives ABCK under NODE timing, in every link state. -/
def State.abckDriven (s : State) : Bool := s.running && decide (s.cfg.aspTiming = .node)

/-- R44, R55: AFS is driven with ABCK; `none` is a line that the node does not drive, `some true` its pulse. -/
def State.afsPin (s : State) : Option Bool := if s.abckDriven then some s.asp.afs else none

/-- R158, R159: BBCK is held low until LOADING ends and driven from then on, in every link state. -/
def State.bbckRuns (s : State) : Bool := s.running

/-- R192: SCLK is driven from the end of LOADING, in every link state. -/
def State.sclkRuns (s : State) : Bool := s.running

/-! ### The other lines -/

/-- R54: this node drives ALRT while an enabled alert channel's debounced talk state is ACTIVE. -/
def State.drivesAlrt (s : State) : Bool :=
  (indices 4).any fun c =>
    let a := s.cfg.asp.get ⟨c.val, by omega⟩
    a.enabled && decide (tagKind a.tag = .alert) && (s.asp.talk.get c).deb.active

/-- R56: the bytes held by a record source channel. -/
def RspChannel.used (c : RspChannel) : Nat := (c.recs.map (·.bytes.length)).sum + c.cur.length

/-- R56: free space is 2048 less the bytes held. -/
def RspChannel.free (c : RspChannel) : Nat := 2048 - c.used

/-- R56: RRDYn. -/
def State.rrdy (s : State) (r : Fin 2) : Bool :=
  s.running && (s.cfg.rsp.get r).enabled && decide (1024 ≤ (s.rsp.get r).free)

/-- R203: STX carries a reply. -/
def State.replying (s : State) : Bool := s.svl.reply.isSome

/-- R138: LAMPn is driven high while the lamp is lit. -/
def State.lampHigh (s : State) (b : Fin 4) : Bool := (s.bcu.get b).lit

/-- R138: the lamp state that the wake state and the overlay card record ask for. -/
def lampFor (w : WakeState) (card : Bool) : Lamp :=
  match w with
  | .calling | .missed => .flash
  | _ => if card then .on else .off

/-- R138: entering FLASH loads the phase counter with 250 and lights the lamp; staying in FLASH goes on. -/
def Berth.withLamp (l : Lamp) (x : Berth) : Berth :=
  match l with
  | .flash => if x.lamp = .flash then x else { x with lamp := .flash, lit := true, flash := some 250 }
  | .on => { x with lamp := .on, lit := true, flash := none }
  | .off => { x with lamp := .off, lit := false, flash := none }

/-- R138: the lamp is derived afresh at a report of the WKU or the SFU. -/
def State.deriveLamp (b : Fin 4) (s : State) : State :=
  s.setBerth b ((s.bcu.get b).withLamp (lampFor (s.wku.get b).state (s.feed b).overlay.isSome))

end Sys2Proof.Machine
end

