-- ==== Sys2Proof/Machine/Rsp.lean ====
section
/-!
DEFINITION. Machine/Rsp.lean: the Record Source Port (chapter 3.4 to 3.6).
-/

namespace Sys2Proof.Machine

/-! ### Entry (R57 to R59) -/

/-- R58: the record being written is discarded. -/
def RspChannel.discard (c : RspChannel) : RspChannel := { c with cur := [], entry := .discard }

/-- R58: a byte is stored only if at least two bytes are free. -/
def RspChannel.room (c : RspChannel) : Bool := decide (2 ≤ c.free)

/-- R57: to open a record, with the errors it counts. -/
def RspChannel.openRecord (c : RspChannel) (byte : Byte) : RspChannel × Nat :=
  let c := { c with cur := [] }
  if byte = typeKey ∨ byte = typeDelta ∨ byte = typeEnd then
    if c.room then ({ c with cur := [byte], entry := .header }, 0) else (c.discard, 1)
  else (c.discard, 1)

/-- R59: the record is finished: its check byte is appended and it joins the waiting list. -/
def RspChannel.finish (c : RspChannel) : RspChannel :=
  { c with recs := c.recs ++ [⟨withCheck c.cur, 0, none⟩], cur := [], entry := .waitStart }

/-- R59: what the stored length low byte decides. -/
def RspChannel.afterLength (c : RspChannel) : RspChannel × Nat :=
  let l := recordLength c.cur
  if 1019 < l ∨ (c.cur.getD 0 0 = typeEnd ∧ l ≠ 0) then (c.discard, 1)
  else if l = 0 then (c.finish, 0)
  else ({ c with entry := .payload }, 0)

/-- R57, R58: one strobe of the channel, with the errors it counts. -/
def RspChannel.strobe (c : RspChannel) (rsor : Bool) (byte : Byte) : RspChannel × Nat :=
  match c.entry, rsor with
  | .waitStart, true => c.openRecord byte
  | .waitStart, false => (c.discard, 1)
  | .discard, true => c.openRecord byte
  | .discard, false => (c, 0)
  | .header, true | .payload, true =>
    let r := c.openRecord byte
    (r.1, r.2 + 1)
  | .header, false =>
    if c.room then
      let c := { c with cur := c.cur ++ [byte] }
      if c.cur.length = 3 then c.afterLength else (c, 0)
    else (c.discard, 1)
  | .payload, false =>
    if c.room then
      let c := { c with cur := c.cur ++ [byte] }
      if c.cur.length = 3 + recordLength c.cur then (c.finish, 0) else (c, 0)
    else (c.discard, 1)

/-- RECORD_BYTE_STROBE (R56, R57): a byte written to a disabled channel, or during LOADING, is discarded without count. -/
def execRecordByteStrobe (r : Fin 2) (rsor : Bool) (byte : Byte) (s : State) : Host.Outcome State Fault Refusal :=
  if s.running && (s.cfg.rsp.get r).enabled then
    let x := (s.rsp.get r).strobe rsor byte
    .next ((s.setRsp r x.1).bumpN .sourceRecordErrors x.2)
  else .next s

/-! ### Transmission (R60, R61) -/

/-- R60: the byte one slot takes, in data frame `frame`: the next byte of the first record whose bytes are not all
taken, or filler. -/
def takeRecordByte (frame : Nat) : List SourceRecord → (Byte × Bool) × List SourceRecord
  | [] => ((0x00, false), [])
  | r :: rest =>
    if r.taken < r.bytes.length then
      let last := decide (r.taken + 1 = r.bytes.length)
      ((r.bytes.getD r.taken 0, decide (r.taken = 0)),
        { r with taken := r.taken + 1, checkIn := if last then some frame else none } :: rest)
    else
      let t := takeRecordByte frame rest
      (t.1, r :: t.2)

/-- R60: the bytes of a run of `n` slots, in slot order. -/
def takeRun (frame : Nat) : Nat → List SourceRecord → List (Byte × Bool) × List SourceRecord
  | 0, recs => ([], recs)
  | n + 1, recs =>
    let b := takeRecordByte frame recs
    let t := takeRun frame n b.2
    (b.1 :: t.1, t.2)

/-- R60: a data frame start. A channel not HELD, or silenced, fixes nothing and keeps its position. -/
def RspChannel.feed (drives : Bool) (run frame : Nat) (c : RspChannel) : RspChannel :=
  if drives then
    let t := takeRun frame run c.recs
    { c with fixed := t.1, recs := t.2 }
  else { c with fixed := [] }

/-- R61: at the data frame end of `frame` the records whose check byte was taken in it leave the FIFO. -/
def RspChannel.frameEnd (frame : Nat) (c : RspChannel) : RspChannel :=
  { c with recs := c.recs.filter fun r => decide (r.checkIn ≠ some frame) }

/-- R61: every record with bytes taken returns to the head of the waiting list, in order, with no bytes taken. -/
def RspChannel.restart (c : RspChannel) : RspChannel :=
  { c with recs := c.recs.map fun r => { r with taken := 0, checkIn := none } }

def State.rspRestart (r : Fin 2) (s : State) : State := s.setRsp r (s.rsp.get r).restart

def State.rspFeed (s : State) : State :=
  { s with rsp := s.rsp.mapIdx fun r c =>
      c.feed (s.held (rspHolding r) && !(s.tlu.silenced.get (rspHolding r))) (s.holdingRun (rspHolding r)) s.tlu.frame }

def State.rspFrameEnd (frame : Nat) (s : State) : State :=
  { s with rsp := s.rsp.mapIdx fun r c => if s.held (rspHolding r) then c.frameEnd frame else c }

end Sys2Proof.Machine
end

