-- ==== Sys2Proof/Machine/Cmu.lean ====
section
/-!
DEFINITION. Machine/Cmu.lean: the Control Message Unit's out queue, sending, receivers and missed-wake list (chapter 4).
-/

namespace Sys2Proof.Machine

/-! ### The out queue (R66 to R68) -/

/-- R68: the new message takes the place of the item of the same origin. -/
def replaceOrigin (o : Origin) (bytes : List Byte) : List QueueItem → List QueueItem
  | [] => []
  | q :: rest => if q.origin = o then ⟨o, bytes, none⟩ :: rest else q :: replaceOrigin o bytes rest

def hasOrigin (o : Origin) (q : List QueueItem) : Bool := q.any fun i => decide (i.origin = o)

/-- R68: replace in place, the transmission position becoming absent when the item replaced is the head; or append. -/
def Cmu.put (c : Cmu) (o : Origin) (bytes : List Byte) : Cmu :=
  if hasOrigin o c.queue then
    { c with
      queue := replaceOrigin o bytes c.queue
      pos := if (c.queue.head?.map (·.origin)) = some o then none else c.pos }
  else { c with queue := c.queue ++ [⟨o, bytes, none⟩] }

/-- R68: a block hands over a message of its own origin. -/
def State.handMessage (o : Origin) (m : Message) (s : State) : State := { s with cmu := s.cmu.put o m.bytes }

/-- R67: a SEND's message is appended at the tail. -/
def State.appendServiceMessage (m : Message) (s : State) : State :=
  { s with cmu := { s.cmu with queue := s.cmu.queue ++ [⟨.serviceLink, m.bytes, none⟩] } }

def Cmu.serviceItems (c : Cmu) : Nat := (c.queue.filter fun i => decide (i.origin = .serviceLink)).length

/-- R72: the message in transmission or marked as sent is sent again from its kind byte. -/
def Cmu.restart (c : Cmu) : Cmu :=
  { c with pos := none, queue := c.queue.map fun i => { i with sentIn := none } }

def State.cmuRestart (s : State) : State := { s with cmu := s.cmu.restart }

/-- R72: a message is in transmission, or marked as sent and not yet left. -/
def Cmu.busy (c : Cmu) : Bool :=
  c.pos.isSome || (match c.queue with | i :: _ => i.sentIn.isSome | [] => false)

/-! ### Sending (R69 to R72) -/

/-- R70: the byte that a data frame start fixes while the holding is HELD and not silenced. -/
def Cmu.fix (frame : Nat) (c : Cmu) : Cmu :=
  match c.queue with
  | [] => { c with fixed := some (0x00, false) }
  | q :: rest =>
    let give (i : Nat) : Cmu :=
      if i + 1 = q.bytes.length then
        { c with fixed := some (q.bytes.getD i 0, decide (i = 0)), pos := none
                 queue := { q with sentIn := some frame } :: rest }
      else { c with fixed := some (q.bytes.getD i 0, decide (i = 0)), pos := some (i + 1) }
    match c.pos with
    | some i => give i
    | none => if q.sentIn.isNone then give 0 else { c with fixed := some (0x00, false) }

/-- R70, R72: a data frame start. HELD but silenced restarts the message and fixes nothing. -/
def Cmu.feed (held silenced : Bool) (frame : Nat) (c : Cmu) : Cmu :=
  if held then
    if silenced then { (if c.busy then c.restart else c) with fixed := none } else c.fix frame
  else { c with fixed := none }

def State.cmuFeed (s : State) : State :=
  { s with cmu := s.cmu.feed (s.held cmuHolding) (s.tlu.silenced.get cmuHolding) s.tlu.frame }

/-- R71, R72: the data frame end of `frame`. -/
def Cmu.frameEnd (held abandoned : Bool) (frame : Nat) (c : Cmu) : Cmu :=
  if abandoned then (if c.busy then c.restart else c)
  else if held then
    { c with queue := match c.queue with
        | q :: rest => if q.sentIn = some frame then rest else q :: rest
        | [] => [] }
  else c

def State.cmuFrameEnd (frame : Nat) (abandoned : Bool) (s : State) : State :=
  { s with cmu := s.cmu.frameEnd (s.held cmuHolding) abandoned frame }

/-! ### Receivers (R73 to R75) -/

/-- R74: to open a message, with the bad messages it counts. -/
def Receiver.openMessage (r : Receiver) (byte : Byte) : Receiver × Nat :=
  if 0x01 ≤ byte.toNat ∧ byte.toNat ≤ 0x07 then ({ r with state := .length, bytes := [byte], xor := byte }, 0)
  else if byte = 0xFF then ({ r with state := .hunt, bytes := [], xor := 0 }, 0)
  else ({ r with state := .skip, bytes := [], xor := 0 }, 1)

def Receiver.store (r : Receiver) (byte : Byte) : Receiver :=
  { r with bytes := r.bytes ++ [byte], xor := r.xor ^^^ byte }

/-- R74, R75: one slot completion for the receiver's slot: the receiver, the bad messages counted, and a valid
message completed. -/
def Receiver.take (r : Receiver) (byte : Byte) (mark : Bool) : Receiver × Nat × Option Message :=
  if mark then
    let o := r.openMessage byte
    match r.state with
    | .length | .body | .check => (o.1, o.2 + 1, none)
    | .hunt | .skip => (o.1, o.2, none)
  else
    match r.state with
    | .hunt | .skip => (r, 0, none)
    | .length =>
      if 60 < byte.toNat then ({ r with state := .skip, bytes := [], xor := 0 }, 1, none)
      else ({ (r.store byte) with state := if byte.toNat = 0 then .check else .body }, 0, none)
    | .body =>
      let r' := r.store byte
      ({ r' with state := if r'.bytes.length = 2 + (r.bytes.getD 1 0).toNat then .check else .body }, 0, none)
    | .check =>
      let idle := { r with state := .hunt, bytes := [], xor := 0 }
      if byte = r.xor then
        match parseMessage (r.bytes.getD 0 0) (r.bytes.drop 2) with
        | some m => (idle, 0, some m)
        | none => (idle, 1, none)
      else (idle, 1, none)

/-- R74: the slot completion of a data frame reaches receiver `i` when it follows that slot. -/
def State.receiverTake (slot : Nat) (byte : Byte) (mark : Bool) (i : Fin 4) (s : State) : State :=
  let r := s.cmu.rx.get i
  if r.tag.isSome ∧ r.slot = slot then
    let t := r.take byte mark
    ({ s with cmu := { s.cmu with
        rx := s.cmu.rx.set i t.1
        dispatch := s.cmu.dispatch ++ t.2.2.toList } }).bumpN .badMessages t.2.1
  else s

def State.receiversTake (slot : Nat) (byte : Byte) (mark : Bool) (s : State) : State :=
  (indices 4).foldl (fun s i => s.receiverTake slot byte mark i) s

/-- R73: the four lowest control tags located, with the first slot of each. -/
def heardSet (loc : List LocItem) : List (Byte × Nat) :=
  ((loc.filter fun i => decide (tagKind i.tag = .control)).take 4).map fun i => (i.tag, i.first)

/-- R73: a receiver keeps its stream when its tag and slot are unchanged; it is reset otherwise. -/
def Receiver.keep (heard : List (Byte × Nat)) (r : Receiver) : Receiver :=
  match r.tag with
  | none => r
  | some t =>
    match heard.find? fun h => decide (h.1 = t) with
    | none => .reset
    | some h => if h.2 = r.slot then r else { Receiver.reset with tag := some t, slot := h.2 }

/-- R73: a tag without a receiver is given the lowest-numbered unassigned one. -/
def giveReceiver (rx : Table 4 Receiver) (h : Byte × Nat) : Table 4 Receiver :=
  if rx.toList.any fun r => decide (r.tag = some h.1) then rx
  else
    match (indices 4).find? fun i => (rx.get i).tag.isNone with
    | some i => rx.set i { Receiver.reset with tag := some h.1, slot := h.2 }
    | none => rx

def State.receiversReassign (s : State) : State :=
  let heard := heardSet s.smu.locator
  { s with cmu := { s.cmu with rx := heard.foldl giveReceiver (s.cmu.rx.map (Receiver.keep heard)) } }

/-- R80: the CMU's teardown; the restart of its message comes with the holding (R41). -/
def State.cmuTeardown (s : State) : State :=
  { s with cmu := { s.cmu with rx := Table.replicate 4 .reset } }

/-! ### The missed-wake list (R78, R79) -/

def MissedEntry.names (node berth : Nat) (e : MissedEntry) : Bool := decide (e.node = node ∧ e.berth = berth)

/-- R78: a WAKE MISSED refreshes its entry, or adds one at the newest position, the oldest leaving a full list; true
when an entry was evicted. -/
def missedAdd (node berth stop : Nat) (l : List MissedEntry) : List MissedEntry × Bool :=
  let e : MissedEntry := ⟨node, berth, stop, 0⟩
  if l.any (·.names node berth) then ((l.filter fun x => !x.names node berth) ++ [e], false)
  else if l.length < 16 then (l ++ [e], false)
  else (l.drop 1 ++ [e], true)

/-- R79. -/
def missedRemove (node berth : Nat) (l : List MissedEntry) : List MissedEntry := l.filter fun x => !x.names node berth

/-- R79: one second of age, up to 65,535. -/
def missedAge (l : List MissedEntry) : List MissedEntry := l.map fun e => { e with age := min (e.age + 1) 65535 }

/-- SECONDS_PRESCALER_EXPIRY (R79): due when the prescaler has run out. -/
def State.takeSecondsPrescaler (s : State) : State :=
  if s.cmu.prescaler = 0 then
    { s with cmu := { s.cmu with prescaler := 1000, missed := missedAge s.cmu.missed } }
  else s

def execSecondsPrescalerExpiry (s : State) : Host.Outcome State Fault Refusal := .next s.takeSecondsPrescaler

/-- WAKE_MISSED (R78): the message at the head of the dispatch list. -/
def State.takeWakeMissed (s : State) : State :=
  match s.cmu.dispatch with
  | .wakeMissed n b st :: rest =>
    let t := missedAdd n b st s.cmu.missed
    let s := { s with cmu := { s.cmu with dispatch := rest, missed := t.1 } }
    if t.2 then s.bump .listEvictions else s
  | _ => s

def execWakeMissed (s : State) : Host.Outcome State Fault Refusal := .next s.takeWakeMissed

end Sys2Proof.Machine
end

