-- ==== Sys2Proof/Machine/Smu.lean ====
section
/-!
DEFINITION. Machine/Smu.lean: the Slot Map Unit: the stream locator, seeking and contention, holding and releasing
(chapter 2).
-/

namespace Sys2Proof.Machine

/-! ### The stream locator (R26) -/

/-- The runs of equal tags in consecutive slots: tag, first slot, length. -/
def runsFrom : Nat → List Byte → List (Byte × Nat × Nat)
  | _, [] => []
  | k, t :: ts =>
    match runsFrom (k + 1) ts with
    | [] => [(t, k, 1)]
    | (t', f, n) :: rest => if t' = t then (t, k, n + 1) :: rest else (t, k, 1) :: (t', f, n) :: rest

/-- R26: items in tag order, at most one per tag; a second run of a tag sets its duplicate flag. -/
def addRun (tag : Byte) (first run : Nat) : List LocItem → List LocItem
  | [] => [⟨tag, first, run, false⟩]
  | i :: rest =>
    if tag.toNat < i.tag.toNat then ⟨tag, first, run, false⟩ :: i :: rest
    else if tag = i.tag then { i with dup := true } :: rest
    else i :: addRun tag first run rest

/-- R26: the locator of a map's tags in slot order. -/
def buildLocator (tags : List Byte) : List LocItem :=
  (runsFrom 0 tags).foldl (fun loc r => if locatable r.1 then addRun r.1 r.2.1 r.2.2 loc else loc) []

/-! ### Leaving HELD (R22, R37, R38, R61, R72) -/

/-- R22: the own field of a run's slots, as its holding enters or leaves HELD. -/
def ownSlots (map : Table 40 SlotEntry) (own : Option (Fin 11)) (first run : Nat) : Table 40 SlotEntry :=
  map.mapIdx fun k e => if first ≤ k.val ∧ k.val < first + run then { e with own := own } else e

def disown (map : Table 40 SlotEntry) (h : Fin 11) : Table 40 SlotEntry :=
  map.map fun e => if e.own = some h then { e with own := none } else e

/-- R61, R72: what the source of a holding does when the holding leaves HELD. -/
def State.sourceReleased (h : Fin 11) (s : State) : State :=
  match sourceOf h with
  | .asp _ => s
  | .rsp r => s.rspRestart r
  | .cmu => if s.cmu.busy then s.cmuRestart else s

/-- A HELD holding leaves HELD for the state `x`: its own fields become absent and its source restarts. -/
def State.leaveHeld (h : Fin 11) (x : Holding) (s : State) : State :=
  ({ s with smu := { s.smu with holdings := s.smu.holdings.set h x, map := disown s.smu.map h } }).sourceReleased h

/-! ### Wants (R29, R39) -/

/-- R52, R69 and chapter 3.4: whether the source of a holding wants the trunk. -/
def State.wants (s : State) (h : Fin 11) : Bool :=
  match sourceOf h with
  | .asp c =>
    let a := s.cfg.asp.get c
    a.enabled &&
      (if tagKind a.tag = .audio then true
       else if hc : c.val < 4 then (s.asp.talk.get ⟨c.val, hc⟩).deb.active else false)
  | .rsp r => (s.cfg.rsp.get r).enabled
  | .cmu => s.addressValid && !s.cmu.queue.isEmpty

/-- R29, R39: a holding at a cycle tick. A backoff of 1 has run out: BACKOFF_EXPIRY is due. -/
def State.holdingTick (h : Fin 11) (s : State) : State :=
  let x := s.holding h
  match x.state, s.wants h with
  | .inactive, true => s.setHolding h { x with state := .seeking, first := none }
  | .inactive, false => s
  | .seeking, true => s
  | .seeking, false => s.setHolding h { x with state := .inactive, first := none, attempts := 0 }
  | .backoff, true =>
    if x.backoff ≤ 1 then s.setHolding h { x with backoffDue := true }
    else s.setHolding h { x with backoff := x.backoff - 1 }
  | .backoff, false => s.setHolding h { x with state := .inactive, attempts := 0, backoffDue := false }
  | .held, true => s
  | .held, false => s.leaveHeld h { x with state := .inactive, first := none, attempts := 0 }

/-- R25, R29: the SMU's cycle tick: the wants in index order, and the running parity counts copied. -/
def State.smuTick (s : State) : State :=
  let s := (indices 11).foldl (fun s h => s.holdingTick h) s
  { s with smu := { s.smu with
      map := s.smu.map.mapIdx fun k e => { e with parityErrors := s.smu.running.get k }
      running := Table.replicate 40 0 } }

/-- BACKOFF_EXPIRY (R39): the holding becomes SEEKING without a target; the backoff count keeps its last value. -/
def State.takeBackoff (h : Fin 11) (s : State) : State :=
  let x := s.holding h
  if x.backoffDue ∧ x.state = .backoff then
    s.setHolding h { x with state := .seeking, first := none, backoffDue := false }
  else s

def execBackoffExpiry (h : Fin 11) (s : State) : Host.Outcome State Fault Refusal := .next (s.takeBackoff h)

/-! ### The map update (R23, R26, R30 to R34, R37) -/

/-- R23: a map entry takes the collected byte. A slot with no byte collected reads as a slot that nobody drove (R2). -/
def SlotEntry.replace (byte : Option Byte) (e : SlotEntry) : SlotEntry :=
  let t := byte.getD 0xFF
  if t = e.tag then { e with age := min (e.age + 1) 255 } else { e with tag := t, age := 0 }

def mapTags (map : Table 40 SlotEntry) : List Byte := map.toList.map (·.tag)

/-- R23, R26, R27. -/
def State.replaceMap (s : State) : State :=
  let map := s.smu.map.mapIdx fun k e => e.replace (s.smu.collected.get k)
  let loc := buildLocator (mapTags map)
  ({ s with smu := { s.smu with map := map, locator := loc } }).bumpN .duplicateTags (loc.filter fun (i : LocItem) => i.dup).length

/-- R31: a SEEKING holding loses its target. -/
def Holding.lose (x : Holding) : Holding := { x with first := none, attempts := min (x.attempts + 1) 255 }

/-- R31, R37: the read-back results of the tag frame are settled for one holding. -/
def State.settleHolding (h : Fin 11) (s : State) : State :=
  let x := s.holding h
  let rs := s.smu.results.filter fun r => decide (r.holding = h)
  let lost := rs.any (·.lost)
  match x.state with
  | .seeking =>
    if lost then (s.setHolding h x.lose).bump .contentionLosses
    else if x.first.isSome ∧ rs.length = s.holdingRun h then
      { s with smu := { s.smu with
          holdings := s.smu.holdings.set h { x with state := .held, attempts := 0 }
          map := ownSlots s.smu.map (some h) (x.first.getD 0) (s.holdingRun h) } }
    else s
  | .held =>
    if lost then (s.leaveHeld h { x with state := .seeking, first := none }).bump .slotsLost else s
  | .inactive | .backoff => s

def tagAt (map : Table 40 SlotEntry) (k : Nat) : Byte := (map.getD k .clear).tag

/-- R32: the starting slots of `run` consecutive idle slots that no holding of the node targeted at this map update. -/
def candidates (map : Table 40 SlotEntry) (targeted : List Nat) (run : Nat) : List Nat :=
  (List.range (41 - run)).filter fun k =>
    (List.range run).all fun i => decide (tagAt map (k + i) = 0xFF) && !(targeted.contains (k + i))

/-- R33: the victim: the highest programme tag, and its highest-numbered eligible slot. R31 says that no holding of the node
can target a slot that a losing video holding drove clean, and R33's list admits it: the model takes R33's list, a choice of its
own (notes/assumptions/33.md). -/
def victim (map : Table 40 SlotEntry) (targeted : List Nat) : Option Nat :=
  (indices 40).foldl (fun best k =>
    let e := map.get k
    if 0x80 ≤ e.tag.toNat ∧ e.tag.toNat ≤ 0xFD ∧ e.own.isNone ∧ !(targeted.contains k.val) then
      match best with
      | none => some k.val
      | some j => if (tagAt map j).toNat ≤ e.tag.toNat then some k.val else best
    else best) none

/-- R32 to R34: one SEEKING holding without a target; `targeted` lists the slots given out at this map update. -/
def State.seekHolding (p : State × List Nat) (h : Fin 11) : State × List Nat :=
  let s := p.1
  let x := s.holding h
  if x.state = .seeking ∧ x.first.isNone then
    let run := s.holdingRun h
    let cs := candidates s.smu.map p.2 run
    match cs[(s.cfl.address + x.attempts) % cs.length]? with
    | some k => (s.setHolding h { x with first := some k }, p.2 ++ (List.range run).map (k + ·))
    | none =>
      match if mayPreempt (s.holdingTag h) then victim s.smu.map p.2 else none with
      | some v => (s.setHolding h { x with first := some v }, p.2 ++ [v])
      | none => (s.setHolding h { x with attempts := min (x.attempts + 1) 255 }, p.2)
  else p

/-- R30: replace, rebuild, settle, seek; the collected bytes and results are then discarded. -/
def State.smuMapUpdate (s : State) : State :=
  let s := s.replaceMap
  let s := (indices 11).foldl (fun s h => s.settleHolding h) s
  let s := ((indices 11).foldl State.seekHolding (s, [])).1
  { s with smu := { s.smu with collected := Table.replicate 40 none, results := [] } }

/-! ### Slot completions -/

/-- R22: the byte and the read-back result of a slot of the tag frame are collected. -/
def State.collect (k : Fin 40) (byte : Byte) (result : Option SlotResult) (s : State) : State :=
  { s with smu := { s.smu with
      collected := s.smu.collected.set k (some byte)
      results := s.smu.results ++ result.toList } }

/-- R24: a tag frame that was cut leaves nothing behind. -/
def State.discardCollected (s : State) : State :=
  { s with smu := { s.smu with collected := Table.replicate 40 none, results := [] } }

/-- R25: bad parity in a slot whose kind at the most recent map update is audio or an announcement. -/
def State.countParity (k : Fin 40) (byte : Byte) (ninth : Bool) (s : State) : State :=
  if carriesParity (s.smu.map.get k).tag ∧ oddParity byte ninth = false then
    { s with smu := { s.smu with running := s.smu.running.modify k (· + 1) } }
  else s

/-- R38: a data collision sends a HELD holding to BACKOFF. -/
def State.collide (h : Fin 11) (s : State) : State :=
  let x := s.holding h
  if x.state = .held then
    (s.leaveHeld h { x with state := .backoff, first := none, backoff := s.cfl.address % 8 + 1, backoffDue := false }).bump
      .dataCollisions
  else s

/-! ### Teardown (R41) -/

/-- R41: HELD, or SEEKING with a target, becomes SEEKING without a target. -/
def State.holdingTeardown (h : Fin 11) (s : State) : State :=
  let x := s.holding h
  match x.state with
  | .held => s.leaveHeld h { x with state := .seeking, first := none }
  | .seeking => s.setHolding h { x with first := none }
  | .inactive | .backoff => s

def State.smuTeardown (s : State) : State :=
  let s := (indices 11).foldl (fun s h => s.holdingTeardown h) s
  { s with smu := { s.smu with
      map := Table.replicate 40 .clear
      running := Table.replicate 40 0
      collected := Table.replicate 40 none
      results := []
      locator := [] } }

/-! ### Who drives a slot (R15, R35, R36) -/

/-- R35, R36: the holding named for a slot of the current frame. -/
def State.driver (s : State) (k : Fin 40) : Option (Fin 11) :=
  (indices 11).find? fun h =>
    let x := s.holding h
    (if s.tlu.frame = 0 then decide (x.state = .seeking ∨ x.state = .held) else decide (x.state = .held)) &&
      x.covers (s.holdingRun h) k.val

/-- R15, R36: the byte and ninth bit that holding `h` gives slot `k` in the current frame. The ninth bit of a tag
frame is left recessive. -/
def State.bitsFor (s : State) (h : Fin 11) (k : Fin 40) : Option (Byte × Bool) :=
  if s.tlu.frame = 0 then some (s.holdingTag h, true)
  else
    match sourceOf h with
    | .asp c =>
      let b := (s.asp.ch.get c).fixed
      some (b, parityBit b)
    | .rsp r => (s.rsp.get r).fixed[k.val - (s.holding h).first.getD 0]?
    | .cmu => s.cmu.fixed

/-- R15: what this node drives in slot `k` of the current frame, and for which holding: nothing in LOADING or LISTEN,
and nothing for a holding that is quiet there. Slot 0 of a frame that started at the end of a late run, past the slot's first
bit times (R7), is driven whole as any other, the model's choice (notes/assumptions/35.md). -/
def State.drivesUnless (s : State) (quiet : Fin 11 → Bool) (k : Fin 40) : Option (Fin 11 × Byte × Bool) :=
  if s.onTrunk then
    match s.driver k with
    | some h => if quiet h then none else (s.bitsFor h k).map fun x => (h, x.1, x.2)
    | none => none
  else none

/-- R15: a silenced holding drives nothing. For slot 0 after a late run see `State.drivesUnless` (notes/assumptions/35.md). -/
def State.drives (s : State) (k : Fin 40) : Option (Fin 11 × Byte × Bool) := s.drivesUnless s.tlu.silenced.get k

/-! ### A slot that waits on a run (R9, R16, R17) -/

/-- R9, R16: a holding was silenced in a slot after `k`, so it drove slot `k` to its end. -/
def State.silencedAfter (s : State) (k : Fin 40) (h : Fin 11) : Bool :=
  (indices 40).any fun j => decide (k < j) && decide (s.tlu.mismatch.get j = some h)

/-- R15 to R17: what this node drove in slot `k`, a slot that has not completed: what it drives there now, or what it drove
before its holding was silenced in a later slot while slot `k` waited on a run (R9). -/
def State.drove (s : State) (k : Fin 40) : Option (Fin 11 × Byte × Bool) :=
  s.drivesUnless (fun h => s.tlu.silenced.get h && !s.silencedAfter k h) k

end Sys2Proof.Machine
end

