-- ==== Sys2Proof/Machine/Mix.lean ====
section
/-!
DEFINITION. Machine/Mix.lean: the Mixer: gain, ramps, ducking, announcement levels, the berth outputs (chapter 8).
-/

namespace Sys2Proof.Machine

/-! ### Gain (R142, R143) -/

/-- R142: the table values for j = 0 to 7. -/
def gainTable : List Nat := [128, 140, 152, 166, 181, 197, 215, 235]

/-- R142: the gain factor of level 8k + j. -/
def gainFactor (l : Nat) : Nat := gainTable.getD (l % 8) 0 * 2 ^ (l / 8)

/-- R143: floor(x F / 8192); MUTE scales to 0. -/
def scale (x : Int) : Level → Int
  | .mute => 0
  | .lvl l => (x * (gainFactor l : Int)).fdiv 8192

/-- R157. -/
def limit16 (x : Int) : Int := max (-32768) (min x 32767)

/-! ### Ramps (R145 to R147) -/

/-- R146: the interval of step number i. -/
def stepInterval (shape : Shape) (r n q i : Nat) : Nat :=
  match shape with
  | .linear => r
  | .s => if i ≤ q ∨ n - q < i then 2 * r else r

/-- R145: a ramp from the current value to the target, started now. -/
def LevelState.start (x : LevelState) (target : Level) (shape : Shape) (r : Nat) : LevelState :=
  let n := x.cur.distance target
  let q := match shape with | .linear => 0 | .s => n / 4
  { cur := x.cur, target := target, shape := shape, interval := r, steps := n, taken := 0, edge := q
    counter := if n = 0 then none else some (stepInterval shape r n q 1) }

/-- R145, R147: a hand-over that names a target: the same target, shape and interval change nothing. -/
def LevelState.aim (x : LevelState) (target : Level) (shape : Shape) (r : Nat) : LevelState :=
  if x.target = target ∧ x.shape = shape ∧ x.interval = r then x else x.start target shape r

/-- R145: a hand-over that names a new current value as well. -/
def LevelState.startFrom (x : LevelState) (cur target : Level) (shape : Shape) (r : Nat) : LevelState :=
  { x with cur := cur }.start target shape r

/-- R145: current and target set to one level: at rest. Such a hand-over names no shape and no step interval; they are kept, the
model's choice (notes/assumptions/29.md). -/
def LevelState.settle (x : LevelState) (l : Level) : LevelState :=
  { x with cur := l, target := l, steps := 0, taken := 0, edge := 0, counter := none }

/-- R146: one step at the expiry of the interval counter. -/
def LevelState.step (x : LevelState) : LevelState :=
  let cur := x.cur.toward x.target
  let taken := x.taken + 1
  { x with cur := cur, taken := taken
           counter := if cur = x.target then none
             else some (stepInterval x.shape x.interval x.steps x.edge (taken + 1)) }

def MixBerth.level (m : MixBerth) : LevelName → LevelState
  | .programme => m.programme
  | .headset => m.headset
  | .pillow => m.pillow

def MixBerth.withLevel (m : MixBerth) (l : LevelName) (x : LevelState) : MixBerth :=
  match l with
  | .programme => { m with programme := x }
  | .headset => { m with headset := x }
  | .pillow => { m with pillow := x }

/-- R146, R152: a cycle tick counts the interval counters and the duck hold timer. -/
def MixBerth.tick (m : MixBerth) : MixBerth :=
  let count (x : LevelState) : LevelState := { x with counter := countDown x.counter }
  { m with programme := count m.programme, headset := count m.headset, pillow := count m.pillow, hold := countDown m.hold }

/-- RAMP_STEP (R146): due when the level state's interval counter has expired. -/
def State.takeRampStep (b : Fin 4) (l : LevelName) (s : State) : State :=
  let m := s.mix.get b
  if expired (m.level l).counter then s.setMix b (m.withLevel l (m.level l).step) else s

def execRampStep (b : Fin 4) (l : LevelName) (s : State) : Host.Outcome State Fault Refusal := .next (s.takeRampStep b l)

/-! ### Ducking (R148 to R153) -/

/-- R148. -/
def duckTarget (depth : Nat) (user : Level) : AnnClass → Level
  | .alert => .mute
  | _ => user.lowered depth

/-- R148: every programme ramp of the duck state is LINEAR at the duck rate. -/
def MixBerth.aimProgramme (m : MixBerth) (c : Config) (t : Level) : MixBerth :=
  { m with programme := m.programme.aim t .linear c.duckRate }

/-- R149: the headset level of a class. -/
def headsetLevel (c : Config) : AnnClass → Level
  | .alert => .lvl 48
  | .wake => .lvl c.wakeHeadset
  | .crew => .lvl c.crewHeadset
  | .service => .lvl c.serviceHeadset

/-- R149, R154: the S ramp of a wake call from a base level. -/
def LevelState.wakeRamp (x : LevelState) (c : Config) (base : Nat) : LevelState :=
  x.startFrom (.lvl base) (.lvl c.w1) .s c.wakeRate

/-- R149: the pillow start of a class; the matrix admits no SERVICE pillow (R98). -/
def LevelState.pillowStart (x : LevelState) (c : Config) (base : Nat) : AnnClass → LevelState
  | .alert => x.settle (.lvl 48)
  | .crew => x.settle (.lvl c.crewPillow)
  | .wake => x.wakeRamp c base
  | .service => x.settle .mute

/-- R151: a fade to silence. -/
def LevelState.fade (x : LevelState) (c : Config) : LevelState := x.aim .mute .linear c.duckRate

/-- R149: a new announcement. -/
def MixBerth.newAnnouncement (m : MixBerth) (c : Config) (user : Level) (base : Nat) (e : Fin 16) (cls : AnnClass)
    (pillow : Bool) : MixBerth :=
  { m with
    headset := m.headset.settle (headsetLevel c cls)
    pillow := if pillow then m.pillow.pillowStart c base cls else m.pillow.settle .mute
    programme := m.programme.aim (duckTarget c.duckDepth user cls) .linear c.duckRate
    duck := .ducked, hold := none, ann := some (e, cls), lastClass := cls }

/-- R150: a change of admission of the pillow. -/
def MixBerth.admission (m : MixBerth) (c : Config) (base : Nat) (cls : AnnClass) (before now : Bool) : MixBerth :=
  { m with pillow :=
      if now && !before then m.pillow.pillowStart c base cls
      else if before && !now then m.pillow.fade c
      else m.pillow }

/-- R151: the end of the berth's announcement. -/
def MixBerth.announcementEnd (m : MixBerth) (c : Config) (user : Level) : MixBerth :=
  let m := { m with ann := none, headset := m.headset.fade c, pillow := m.pillow.fade c }
  if m.duck = .ducked then
    if c.duckHold = 0 then { m with duck := .unducked, hold := none }.aimProgramme c user
    else { m with duck := .holding, hold := some c.duckHold }
  else m

/-- R149 to R151: a follow change, from the old record to the new one. -/
def MixBerth.followChange (m : MixBerth) (c : Config) (user : Level) (base : Nat) (old new : Follow) : MixBerth :=
  match new.entry, new.cls with
  | some e, some cls =>
    if m.ann = some (e, cls) then m.admission c base cls old.pillow new.pillow
    else m.newAnnouncement c user base e cls new.pillow
  | _, _ => m.announcementEnd c user

def State.userLevel (s : State) (b : Fin 4) : Level := (s.bcu.get b).userLevel

def State.mixFollowChange (b : Fin 4) (old new : Follow) (s : State) : State :=
  s.setMix b ((s.mix.get b).followChange s.cfg (s.userLevel b) (s.wku.get b).base old new)

/-- R153: the BCU hands over a new user level. -/
def MixBerth.userLevelChange (m : MixBerth) (c : Config) (user : Level) : MixBerth :=
  match m.duck with
  | .unducked => { m with programme := m.programme.settle user }
  | .ducked | .holding => m.aimProgramme c (duckTarget c.duckDepth user m.lastClass)

def State.mixUserLevel (b : Fin 4) (s : State) : State :=
  s.setMix b ((s.mix.get b).userLevelChange s.cfg (s.userLevel b))

/-- R154: the Wake Unit's two requests. -/
def State.pillowRestart (b : Fin 4) (base : Nat) (s : State) : State :=
  let m := s.mix.get b
  s.setMix b { m with pillow := m.pillow.wakeRamp s.cfg base }

def State.pillowMute (b : Fin 4) (s : State) : State :=
  let m := s.mix.get b
  s.setMix b { m with pillow := m.pillow.fade s.cfg }

/-- DUCK_HOLD_EXPIRY (R152): due when the duck hold timer has run out. -/
def State.takeDuckHold (b : Fin 4) (s : State) : State :=
  let m := s.mix.get b
  if expired m.hold then
    s.setMix b ({ m with duck := .unducked, hold := none }.aimProgramme s.cfg (s.userLevel b))
  else s

def execDuckHoldExpiry (b : Fin 4) (s : State) : Host.Outcome State Fault Refusal := .next (s.takeDuckHold b)

/-! ### The berth outputs (R155 to R158) -/

/-- R117: the sample on offer for an audio tag: the last good value of its lane, if it has one. -/
def State.sampleOf (s : State) (tag : Option Byte) : Int :=
  match tag with
  | none => 0
  | some t =>
    match s.lcu.lanes.toList.find? fun l => decide (l.tag = some t) with
    | some l => l.lastGood
    | none => 0

/-- R156: the tag of the entry that a berth's follow record names. -/
def State.followTag (s : State) (b : Fin 4) : Option Byte :=
  (s.anu.follow.get b).entry.bind fun e => (s.anu.entries.get e).tag

/-- R155 to R157: the pair of one berth. -/
def State.pairOf (s : State) (b : Fin 4) : Int × Int :=
  let m := s.mix.get b
  let p := scale (s.sampleOf (s.cfg.audioOf (s.bcu.get b).choice)) m.programme.cur
  let a := s.sampleOf (s.followTag b)
  ((if m.flag then limit16 (p + scale a m.headset.cur) else 0), limit16 (scale a m.pillow.cur))

/-- PAIR_COMPUTE (R156): at every data frame end, for every configured berth. -/
def State.mixFrameEnd (s : State) : State :=
  { s with mix := s.mix.mapIdx fun b m => if s.configured b then { m with pair := s.pairOf b } else m }

/-- R158: at a data frame start BFS is driven and the most recent pairs go out; the start of frame 0 carries no pulse. A pair
made while the headset flag was yes goes out whole at the start of frame 1 where the flag has turned no since: R155 and R158
differ there, and the model takes R158 (notes/assumptions/32.md). So it does where the link drops between the two, and R159 has
every word in LISTEN be 0 (notes/assumptions/34.md). -/
def State.mixFrameStart (s : State) : State :=
  if s.tlu.frame = 0 then { s with bfs := false }
  else
    { s with
      bfs := true
      mix := s.mix.mapIdx fun b m =>
        if s.configured b then { m with hdat := BitVec.ofInt 16 m.pair.1, pdat := BitVec.ofInt 16 m.pair.2 }
        else { m with hdat := 0, pdat := 0 } }

/-- R146, R152: the Mixer's cycle tick. -/
def State.mixTick (s : State) : State := { s with mix := s.mix.map MixBerth.tick }

/-- R160: the berth reset of the mixing state; the words on the lines stand until the next frame start, and the most recent pair
stands until the next data frame end, the model's choice (notes/assumptions/32.md). -/
def MixBerth.berthReset (m : MixBerth) (l : Level) : MixBerth :=
  { MixBerth.unconfigured with programme := .rest l, pair := m.pair, hdat := m.hdat, pdat := m.pdat }

def State.mixReset (b : Fin 4) (s : State) : State :=
  s.setMix b ((s.mix.get b).berthReset (s.berthCfg b).resetLevel)

end Sys2Proof.Machine
end

