-- ==== Sys2Proof/Machine/Sfu.lean ====
section
/-!
DEFINITION. Machine/Sfu.lean: the Screen Feed Unit: the screen queue, the feed states, cards, the screen port (chapter 10).
-/

namespace Sys2Proof.Machine

/-! ### The screen queue (R178, R185 to R187) -/

/-- R178: a screen queue holds at most 4096 bytes. -/
def queueLimit : Nat := 4096

def queueBytes (q : List (List Byte)) : Nat := (q.map List.length).sum

/-- R178: the record in transmission, if any, as a list. -/
def Feed.inTransit (f : Feed) : List (List Byte) := if f.tx then f.queue.take 1 else []

/-- R178: the records not started. -/
def Feed.notStarted (f : Feed) : List (List Byte) := if f.tx then f.queue.drop 1 else f.queue

/-- R186: a waiting card record of the same layer is replaced in place. -/
def replaceLayer (r : List Byte) : List (List Byte) → List (List Byte)
  | [] => []
  | x :: rest =>
    if isCardRecord x ∧ recordLayer x = recordLayer r then r :: rest else x :: replaceLayer r rest

def hasLayer (r : List Byte) (q : List (List Byte)) : Bool :=
  q.any fun x => isCardRecord x && decide (recordLayer x = recordLayer r)

/-- R186: the place of a card record among the records not started. -/
def insertCard (r : List Byte) (q : List (List Byte)) : List (List Byte) :=
  if hasLayer r q then replaceLayer r q else q.takeWhile isCardRecord ++ r :: q.dropWhile isCardRecord

/-- R186: programme records not started leave, newest first, until `excess` bytes are gained; with how many left. The
list is newest first. -/
def shed : Nat → List (List Byte) → List (List Byte) × Nat
  | _, [] => ([], 0)
  | 0, q => (q, 0)
  | excess, x :: rest =>
    if isCardRecord x then
      let t := shed excess rest
      (x :: t.1, t.2)
    else
      let t := shed (excess - x.length) rest
      (t.1, t.2 + 1)

/-- R186: a feed that lost records of its programme waits for a KEY. -/
def Feed.lost (f : Feed) : Feed :=
  if f.state = .following then { f with state := .waitKey, waitKey := some 3000 } else f

/-- R186: a card record is placed; with the programme records removed to make room. -/
def Feed.placeCard (f : Feed) (r : List Byte) : Feed × Nat :=
  let waiting := insertCard r f.notStarted
  let t := shed (queueBytes (f.inTransit ++ waiting) - queueLimit) waiting.reverse
  let g := { f with queue := f.inTransit ++ t.1.reverse }
  (if t.2 = 0 then g else g.lost, t.2)

def State.placeCard (b : Fin 4) (r : List Byte) (s : State) : State :=
  let t := (s.feed b).placeCard r
  (s.setFeed b t.1).bumpN .queueDrops t.2

/-- R185: the base card numbers. -/
def baseRecord : BaseCard → List Byte
  | .rest => cardRecord layerBase 3 []
  | .unavailable => cardRecord layerBase 2 []
  | .none => clearRecord layerBase

/-- R185: a base card, or the CLEAR base, is queued only when it changes what the base layer shows. -/
def State.showBase (b : Fin 4) (c : BaseCard) (s : State) : State :=
  let f := s.feed b
  if f.base = c then s else (s.setFeed b { f with base := c }).placeCard b (baseRecord c)

/-- R183, R184: every programme record not started is removed, without count. -/
def Feed.dropProgramme (f : Feed) : Feed :=
  { f with queue := f.inTransit ++ f.notStarted.filter isCardRecord }

/-- R187: the bytes a queue would hold after the clear base that goes before a KEY. -/
def Feed.bytesAfterClear (f : Feed) : Nat :=
  if f.base = .none then queueBytes f.queue
  else queueBytes (f.inTransit ++ insertCard (baseRecord .none) f.notStarted)

/-- R187: a programme record that does not fit is dropped. -/
def State.dropRecord (b : Fin 4) (s : State) : State :=
  let f := s.feed b
  (s.setFeed b (if f.state = .waitKey then f else { f with state := .waitKey, waitKey := some 3000 })).bump .queueDrops

/-- R180, R187: append at the tail under the room rule. -/
def State.appendRecord (b : Fin 4) (r : List Byte) (s : State) : State :=
  let f := s.feed b
  if queueBytes f.queue + r.length ≤ queueLimit then s.setFeed b { f with queue := f.queue ++ [r] }
  else s.dropRecord b

/-- R180: a KEY taken in WAIT KEY or ENDED: the clear base goes before it, and neither is queued when it does not fit. -/
def State.beginAtKey (b : Fin 4) (r : List Byte) (s : State) : State :=
  if (s.feed b).bytesAfterClear + r.length ≤ queueLimit then
    let s := s.showBase b .none
    let f := s.feed b
    s.setFeed b { f with queue := f.queue ++ [r], state := .following, waitKey := none }
  else s.dropRecord b

/-- R180: the END of the feed video. -/
def State.endFeed (b : Fin 4) (s : State) : State :=
  (s.setFeed b { s.feed b with state := .ended, waitKey := none }).showBase b .rest

/-- R180: a record of the feed video is taken by the feed state. -/
def State.feedTake (b : Fin 4) (r : List Byte) (s : State) : State :=
  let type := r.getD 0 0
  match (s.feed b).state with
  | .off => s
  | .following => if type = typeEnd then s.endFeed b else s.appendRecord b r
  | .waitKey =>
    if type = typeKey then s.beginAtKey b r else if type = typeEnd then s.endFeed b else s
  | .ended => if type = typeKey then s.beginAtKey b r else s

/-- R181: a loss on a video tag. -/
def State.lossReport (tag : Byte) (s : State) : State :=
  { s with sfu := { s.sfu with
      feeds := s.sfu.feeds.mapIdx fun b f =>
        if s.configured b ∧ f.video = some tag ∧ f.state = .following then
          { f with state := .waitKey, waitKey := some 3000 }
        else f } }

/-- WAIT_KEY_TIMER_EXPIRY (R182): due when the wait-key timer has run out. -/
def State.takeWaitKeyTimer (b : Fin 4) (s : State) : State :=
  let f := s.feed b
  if expired f.waitKey then
    let s := s.setFeed b { f with waitKey := none }
    if f.state = .waitKey then s.showBase b .unavailable else s
  else s

def execWaitKeyTimerExpiry (b : Fin 4) (s : State) : Host.Outcome State Fault Refusal := .next (s.takeWaitKeyTimer b)

/-! ### Switching programmes (R183, R184) -/

/-- R183: a KEY of the pending video is taken into the feed. -/
def State.keySwitchFeed (b : Fin 4) (tag : Byte) (r : List Byte) (s : State) : State :=
  let s := (s.setFeed b (s.feed b).dropProgramme).showBase b .none
  let f := s.feed b
  s.setFeed b { f with queue := f.queue ++ [r], video := some tag, state := .following, waitKey := none }

/-- CHOICE_NOTICE (R184): cause map update or timeout. A notice of cause key record changes nothing (R183). -/
def State.choiceNotice (b : Fin 4) (ch : Choice) (cause : SwitchCause) (s : State) : State :=
  match cause with
  | .keyRecord => s
  | .mapUpdate | .timeout =>
    let f := (s.feed b).dropProgramme
    match s.cfg.videoOf ch with
    | none => (s.setFeed b { f with video := none, state := .off, waitKey := none }).showBase b .rest
    | some v => (s.setFeed b { f with video := some v, state := .waitKey, waitKey := none }).showBase b .unavailable

/-! ### Overlay cards (R188 to R191) -/

/-- R188: the card a follow record asks for: source, entry, number and text; the counts that it does not use are 0
(notes/assumptions/30.md). -/
def askedCard (entries : Table 16 AnnEntry) (fo : Follow) : Option Overlay :=
  match fo.entry with
  | none => none
  | some e =>
    let text := (entries.get e).text
    let live (src : OverlaySource) (n : Nat) : Overlay := ⟨src, some e, n, text, .live, 0, 0, 0⟩
    if e = 0 then some (live .alert 1)
    else if fo.cls = some .wake ∧ fo.pillow = true then some (live .wake 4)
    else if text.isEmpty then none
    else some (live .announcement 0)

/-- R189: LIVE ALERT, ANNOUNCEMENT or WAKE ranks above a MESSAGE card. -/
def Overlay.outranksMessage (o : Overlay) : Bool := decide (o.phase = .live ∧ o.source ≠ .message)

/-- R188: the same entry, number and text. -/
def Overlay.sameCard (a b : Overlay) : Bool := decide (a.entry = b.entry ∧ a.card = b.card ∧ a.text = b.text)

def Overlay.toLinger (o : Overlay) : Overlay := { o with phase := .linger, linger := 2000 }

/-- R191: the record changes; a change between absent and present is reported to the BCU. -/
def State.setOverlay (b : Fin 4) (o : Option Overlay) (s : State) : State :=
  let f := s.feed b
  let s' := s.setFeed b { f with overlay := o }
  if f.overlay.isSome = o.isSome then s' else s'.deriveLamp b

/-- R188, R189: a CARD overlay is queued and the record names it. -/
def State.showOverlay (b : Fin 4) (o : Overlay) (s : State) : State :=
  (s.placeCard b (cardRecord layerOverlay o.card o.text)).setOverlay b (some o)

/-- OVERLAY_CARD_UPDATE (R188): the SFU's part of a follow change. -/
def State.sfuFollowChange (b : Fin 4) (new : Follow) (s : State) : State :=
  match (s.feed b).overlay, askedCard s.anu.entries new with
  | none, none => s
  | none, some o => s.showOverlay b o
  | some cur, asked =>
    if cur.outranksMessage then
      match asked with
      | some o => if cur.sameCard o then s else s.showOverlay b o
      | none => s.setOverlay b (some cur.toLinger)
    else
      match asked with
      | some o => s.showOverlay b o
      | none => s

/-- R76: a configured berth is admitted to a CARD. -/
def State.cardAdmits (s : State) (t : Target) (b : Fin 4) : Bool :=
  s.configured b &&
    match t with
    | .all => true
    | .zones m => m.getLsbD ((s.berthCfg b).zone - 1)
    | .stop st => decide ((s.bcu.get b).stop = st)

/-- R189: one listed berth shows the message unless its card ranks above it; a LIVE card's linger counter is 0
(notes/assumptions/30.md). -/
def State.showMessage (duration : Nat) (text : List Byte) (b : Fin 4) (s : State) : State :=
  if (s.feed b).overlay.any Overlay.outranksMessage then s
  else s.showOverlay b ⟨.message, none, 0, text, .live, duration, 1000, 0⟩

/-- CARD (R76, R189): the message at the head of the dispatch list. -/
def State.takeCard (s : State) : State :=
  match s.cmu.dispatch with
  | .card t d text :: rest =>
    let s := { s with cmu := { s.cmu with dispatch := rest } }
    let admitted := (indices 4).filter (s.cardAdmits t)
    admitted.foldl (fun s b => s.showMessage d text b) s
  | _ => s

def execCard (s : State) : Host.Outcome State Fault Refusal := .next s.takeCard

/-- R189: the duration of a LIVE MESSAGE card has run out. -/
def Overlay.durationOver (o : Overlay) : Bool := decide (o.source = .message ∧ o.phase = .live ∧ o.seconds = 0)

/-- CARD_DURATION_EXPIRY (R189): due when the seconds count of a LIVE MESSAGE card is 0. -/
def State.takeCardDuration (b : Fin 4) (s : State) : State :=
  match (s.feed b).overlay with
  | some o => if o.durationOver then s.setOverlay b (some o.toLinger) else s
  | none => s

def execCardDurationExpiry (b : Fin 4) (s : State) : Host.Outcome State Fault Refusal := .next (s.takeCardDuration b)

/-- DISMISS (R190). -/
def State.dismiss (b : Fin 4) (s : State) : State :=
  match (s.feed b).overlay with
  | some o => if o.source = .message ∧ o.phase = .live then s.setOverlay b (some o.toLinger) else s
  | none => s

/-- R191: the linger counter has run out. -/
def Overlay.lingerOver (o : Overlay) : Bool := decide (o.phase = .linger ∧ o.linger = 0)

/-- LINGER_EXPIRY (R191): CLEAR overlay is queued and the record becomes absent. -/
def State.takeLinger (b : Fin 4) (s : State) : State :=
  match (s.feed b).overlay with
  | some o => if o.lingerOver then (s.placeCard b (clearRecord layerOverlay)).setOverlay b none else s
  | none => s

def execLingerExpiry (b : Fin 4) (s : State) : Host.Outcome State Fault Refusal := .next (s.takeLinger b)

/-- R189, R191: a cycle tick of an overlay card. -/
def Overlay.tick (o : Overlay) : Overlay :=
  match o.phase with
  | .linger => { o with linger := o.linger - 1 }
  | .live =>
    if o.source = .message then
      if o.prescaler ≤ 1 then { o with prescaler := 1000, seconds := o.seconds - 1 }
      else { o with prescaler := o.prescaler - 1 }
    else o

/-- R182, R189, R191: the SFU's cycle tick. -/
def State.sfuTick (s : State) : State :=
  { s with sfu := { s.sfu with
      feeds := s.sfu.feeds.map fun f =>
        { f with waitKey := countDown f.waitKey, overlay := f.overlay.map Overlay.tick } } }

/-! ### The screen port (R192) -/

/-- R192: one falling edge of SCLK for a head record `r` in transmission: with SRDY high its next byte is placed, with SSOR
high for the first; otherwise none is placed, SSOR is low, and the data lines keep the last byte (notes/assumptions/26.md). -/
def Feed.edge (r : List Byte) (f : Feed) (ready : Bool) : Feed :=
  if ready then { f with sdat := r.getD f.sent 0, ssor := decide (f.sent = 0), sent := f.sent + 1 }
  else { f with ssor := false }

/-- R178, R192: the head record `r` goes out at these edges, until its last byte has gone out and it leaves the queue to
`rest`. -/
def Feed.send (r : List Byte) (rest : List (List Byte)) : List Bool → Feed → Feed
  | [], f => f
  | ready :: edges, f =>
    let g := f.edge r ready
    if r.length ≤ g.sent then { g with queue := rest, tx := false, sent := 0 } else g.send r rest edges

/-- SCREEN_RECORD_START (R192): an edge with SRDY high: the first byte of the head record goes out with SSOR high. -/
def execScreenRecordStart (b : Fin 4) (s : State) : Host.Outcome State Fault Refusal :=
  let f := s.feed b
  match f.queue with
  | r :: _ =>
    if s.running ∧ s.configured b ∧ f.tx = false then
      .next (s.setFeed b ({ f with tx := true, sent := 0 }.edge r true))
    else .next s
  | [] => .next s

/-- SCREEN_RECORD_SENT (R192): the head record goes out byte by byte, as SRDY paces it, and with its last byte it leaves the
queue. Edges too few for that leave it unfinished; edges after it belong to the next record. -/
def execScreenRecordSent (e : PortEdges) (s : State) : Host.Outcome State Fault Refusal :=
  let f := s.feed e.port
  match f.queue with
  | r :: rest =>
    if f.tx = true then .next (s.setFeed e.port (f.send r rest e.ready)) else .next s
  | [] => .next s

/-! ### Resets (R193) -/

/-- R193: the berth reset of a feed. The data lines keep the last byte, and SSOR goes low at the command, the model's choices
(notes/assumptions/26.md). -/
def Feed.berthReset (c : Config) (d : Choice) (f : Feed) : Feed :=
  let v := c.videoOf d
  { state := if v.isSome then .waitKey else .off
    video := v
    queue := [clearRecord layerOverlay, baseRecord .rest]
    tx := false
    sent := 0
    waitKey := if v.isSome then some 3000 else none
    base := .rest
    overlay := none
    sdat := f.sdat
    ssor := false }

def State.sfuReset (b : Fin 4) (s : State) : State :=
  s.setFeed b ((s.feed b).berthReset s.cfg (s.berthCfg b).defaultChoice)

end Sys2Proof.Machine
end

