-- ==== Sys2Proof/Machine/Wku.lean ====
section
/-!
DEFINITION. Machine/Wku.lean: the Wake Unit: sessions, the hold timer, acknowledgement, missed calls (chapter 9).
-/

namespace Sys2Proof.Machine

/-! ### State reports, messages and the alighting stop -/

/-- R163: the wake context is written; a change of wake state is reported to the BCU, which derives the lamp. -/
def State.setWakeReport (b : Fin 4) (x : Wake) (s : State) : State :=
  let s' := s.setWake b x
  if x.state = (s.wku.get b).state then s' else s'.deriveLamp b

/-- R137: the alighting stop, kept by the BCU. -/
def State.setStop (b : Fin 4) (st : Nat) (s : State) : State := s.setBerth b { s.bcu.get b with stop := st }

/-- R173: a WAKE CLEAR for this node and the berth, with the berth as origin. -/
def State.queueWakeClear (b : Fin 4) (s : State) : State :=
  s.handMessage (.berth b) (.wakeClear s.cfl.address b.val)

/-- R173: a WAKE MISSED with the berth's alighting stop as it stands. -/
def State.queueWakeMissed (b : Fin 4) (s : State) : State :=
  s.handMessage (.berth b) (.wakeMissed s.cfl.address b.val (s.bcu.get b).stop)

/-- R163: IDLE and alighting stop 0 come together. -/
def State.endSession (b : Fin 4) (s : State) : State :=
  (s.setWakeReport b { s.wku.get b with state := .idle }).setStop b 0

/-! ### The hold timer (R164) -/

/-- R164: started: prescaler 1000 and the configured seconds. -/
def State.holdStart (s : State) : Option (Nat × Nat) := some (1000, s.cfg.wakeHold)

/-- R164: one cycle tick; seconds of 0 wait for the expiry to be taken. -/
def holdTick : Option (Nat × Nat) → Option (Nat × Nat)
  | none => none
  | some (p, n) => if n = 0 then some (p, 0) else if p ≤ 1 then some (1000, n - 1) else some (p - 1, n)

def Wake.holdOver (w : Wake) : Bool :=
  match w.hold with
  | some (_, n) => decide (n = 0)
  | none => false

def State.wkuTick (s : State) : State := { s with wku := s.wku.map fun w => { w with hold := holdTick w.hold } }

/-- HOLD_TIMER_EXPIRY (R171): due when the hold seconds are 0. -/
def State.takeHoldTimer (b : Fin 4) (s : State) : State :=
  let w := s.wku.get b
  if w.holdOver then
    let s := s.setWake b { w with hold := none }
    match w.state with
    | .calling => (s.setWakeReport b { w with hold := none, state := .missed }).queueWakeMissed b
    | .acked => s.endSession b
    | .idle | .armed | .missed => s
  else s

def execHoldTimerExpiry (b : Fin 4) (s : State) : Host.Outcome State Fault Refusal := .next (s.takeHoldTimer b)

/-! ### Following a call (R166 to R168) -/

/-- R166 to R168: the WKU's part of a follow change. -/
def State.wkuFollowChange (b : Fin 4) (new : Follow) (s : State) : State :=
  let w := s.wku.get b
  let isWake := decide (new.cls = some .wake)
  let x := { w with following := isWake }
  if isWake && !w.following then
    match w.state with
    | .armed => s.setWakeReport b { x with state := .calling }
    | .missed => (s.setWakeReport b { x with state := .calling }).queueWakeClear b
    | .calling =>
      let base := min (w.base + s.cfg.escalation) s.cfg.w1
      (s.setWake b { x with base := base, hold := none }).pillowRestart b base
    | .acked => s.setWake b { x with hold := none }
    | .idle => s.setWake b x
  else if !isWake && w.following then
    match w.state with
    | .calling | .acked => s.setWake b { x with hold := s.holdStart }
    | .idle | .armed | .missed => s.setWake b x
  else s.setWake b x

/-! ### Answering and setting (R165, R169, R170, R172) -/

/-- ACKNOWLEDGEMENT (R169, R170). -/
def State.acknowledge (b : Fin 4) (s : State) : State :=
  let w := s.wku.get b
  match w.state with
  | .calling => (s.setWakeReport b { w with state := .acked }).pillowMute b
  | .missed => (s.endSession b).queueWakeClear b
  | .idle | .armed | .acked => s

/-- R165: the WKU's part of a BERTH SET. -/
def State.wkuBerthSet (b : Fin 4) (stop : Nat) (s : State) : State :=
  let w := s.wku.get b
  let s := s.setWakeReport b
    { w with state := if stop = 0 then .idle else .armed, hold := none, base := s.cfg.w0 }
  match w.state with
  | .calling => s.pillowMute b
  | .missed => s.queueWakeClear b
  | .idle | .armed | .acked => s

/-- R76: the configured berth of this node that a message names. -/
def State.ownBerth (s : State) (node berth : Nat) : Option (Fin 4) :=
  if h : berth < 4 then
    if node = s.cfl.address ∧ s.configured ⟨berth, h⟩ then some ⟨berth, h⟩ else none
  else none

/-- BERTH_SET (R76, R137, R165): the message at the head of the dispatch list. -/
def State.takeBerthSet (s : State) : State :=
  match s.cmu.dispatch with
  | .berthSet n b st :: rest =>
    let s := { s with cmu := { s.cmu with dispatch := rest } }
    match s.ownBerth n b with
    | some i => (s.setStop i st).wkuBerthSet i st
    | none => s
  | _ => s

def execBerthSet (s : State) : Host.Outcome State Fault Refusal := .next s.takeBerthSet

/-- WAKE_CLEAR (R76, R79, R172): the message at the head of the dispatch list. -/
def State.takeWakeClear (s : State) : State :=
  match s.cmu.dispatch with
  | .wakeClear n b :: rest =>
    let s := { s with cmu := { s.cmu with dispatch := rest, missed := missedRemove n b s.cmu.missed } }
    match s.ownBerth n b with
    | some i => if (s.wku.get i).state = .missed then s.endSession i else s
    | none => s
  | _ => s

def execWakeClear (s : State) : Host.Outcome State Fault Refusal := .next s.takeWakeClear

/-- R175: the berth reset of a wake context. -/
def State.wkuReset (b : Fin 4) (s : State) : State := s.setWake b (.unconfigured s.cfg.w0)

end Sys2Proof.Machine
end

