-- ==== Sys2Proof/Machine/Anu.lean ====
section
/-!
DEFINITION. Machine/Anu.lean: the Announcement Unit: descriptions, evaluation, the alert, routing and follow selection
(chapter 5).
-/

namespace Sys2Proof.Machine

/-! ### The announcement table (R82) -/

/-- R92, R95: an entry whose absence count or description age has reached its limit. Its row's command (FADING_EXPIRY,
DESCRIPTION_AGE_EXPIRY, ENTRY0_FADE_EXPIRY) makes it FREE, or IDLE; the table already counts it so. -/
def AnnEntry.expired (e : AnnEntry) : Bool :=
  decide ((e.state = .fading ∧ 8 ≤ e.absence) ∨ (e.state = .described ∧ 2000 ≤ e.age))

def AnnEntry.isFree (e : AnnEntry) : Bool := decide (e.state = .free) || e.expired

/-- R82: an entry that has just become FREE. -/
def AnnEntry.freedNow : AnnEntry := { AnnEntry.free with freed := true }

/-- The indices of entries 1 to 15, in order. -/
def announcementIndices : List (Fin 16) := (indices 16).drop 1

/-- The entry, among 1 to 15, that carries a tag. -/
def State.entryOf (s : State) (t : Byte) : Option (Fin 16) :=
  announcementIndices.find? fun i =>
    let e := s.anu.entries.get i
    decide (e.tag = some t) && !e.isFree

/-- The lowest-indexed FREE entry among 1 to 15. -/
def State.freeEntry (s : State) : Option (Fin 16) := announcementIndices.find? fun i => (s.anu.entries.get i).isFree

/-- R87: the DESCRIBED entry with the greatest description age, the lower index winning between equal ages. -/
def State.oldestDescribed (s : State) : Option (Fin 16) :=
  announcementIndices.foldl (fun best i =>
    let e := s.anu.entries.get i
    if e.state = .described then
      match best with
      | none => some i
      | some j => if (s.anu.entries.get j).age < e.age then some i else best
    else best) none

/-! ### Follow changes (R100, R101) -/

/-- FOLLOW_CHANGE (R100): the record is published to the Mixer, the WKU and the SFU; the LCU reads it at its next
grant point. -/
def State.publish (b : Fin 4) (new : Follow) (s : State) : State :=
  let old := s.anu.follow.get b
  (((s.setFollow b new).mixFollowChange b old new).wkuFollowChange b new).sfuFollowChange b new

/-- R101: every follow that names the entry ends at once, for berths 0 to 3 in order (notes/assumptions/27.md). -/
def State.endFollows (i : Fin 16) (s : State) : State :=
  (indices 4).foldl (fun s b => if (s.anu.follow.get b).entry = some i then s.publish b .nothing else s) s

/-- R88, R103: an entry among 1 to 15 becomes FREE outside an evaluation. -/
def State.freeNow (i : Fin 16) (s : State) : State := (s.setEntry i .freedNow).endFollows i

/-! ### Descriptions (R84 to R88) -/

/-- R84: a WAKE PRESENT whose target is not STOP is taken as CREW. -/
def presentClass (cls : AnnClass) (t : Target) : AnnClass :=
  match cls, t with
  | .wake, .stop _ => .wake
  | .wake, _ => .crew
  | c, _ => c

/-- R86, R87: the fields a new description brings. -/
def AnnEntry.describe (e : AnnEntry) (seq : Byte) (cls : AnnClass) (t : Target) (text : List Byte) : AnnEntry :=
  { e with seq := some seq, cls := some (presentClass cls t), target := some t, text := text, age := 0, textMark := true }

/-- R86: a PRESENT for a tag that has an entry. -/
def AnnEntry.present (e : AnnEntry) (seq : Byte) (cls : AnnClass) (t : Target) (text : List Byte) : AnnEntry :=
  if e.seq = some seq then { e with age := 0 }
  else
    let d := e.describe seq cls t text
    if e.state = .undescribed then { d with state := .active, stamp := .pending, absence := 0 } else d

/-- R87: a DESCRIBED entry for a tag with none. -/
def AnnEntry.described (tag seq : Byte) (cls : AnnClass) (t : Target) (text : List Byte) : AnnEntry :=
  { AnnEntry.free.describe seq cls t text with tag := some tag, state := .described }

/-- R85 to R87: a PRESENT is applied by its tag. -/
def State.applyPresent (tag seq : Byte) (cls : AnnClass) (t : Target) (text : List Byte) (s : State) : State :=
  if tag = 0x00 then
    s.setEntry 0 { s.anu.entries.get 0 with text := text, textMark := true }
  else
    match s.entryOf tag with
    | some i => s.setEntry i ((s.anu.entries.get i).present seq cls t text)
    | none =>
      match s.freeEntry with
      | some i => s.setEntry i { AnnEntry.described tag seq cls t text with freed := (s.anu.entries.get i).freed }
      | none =>
        match s.oldestDescribed with
        | some i => s.setEntry i { AnnEntry.described tag seq cls t text with freed := (s.anu.entries.get i).freed }
        | none => s.bump .tableFull

/-- PRESENT (R84): the message at the head of the dispatch list. -/
def State.takePresent (s : State) : State :=
  match s.cmu.dispatch with
  | .present tag seq cls t text :: rest =>
    { s with cmu := { s.cmu with dispatch := rest } }.applyPresent tag seq cls t text
  | _ => s

def execPresent (s : State) : Host.Outcome State Fault Refusal := .next s.takePresent

/-- R88. -/
def State.applyWithdraw (tag seq : Byte) (s : State) : State :=
  match s.entryOf tag with
  | some i => if (s.anu.entries.get i).seq = some seq then s.freeNow i else s
  | none => s

/-- WITHDRAW (R88): the message at the head of the dispatch list. -/
def State.takeWithdraw (s : State) : State :=
  match s.cmu.dispatch with
  | .withdraw tag seq :: rest => { s with cmu := { s.cmu with dispatch := rest } }.applyWithdraw tag seq
  | _ => s

def execWithdraw (s : State) : Host.Outcome State Fault Refusal := .next s.takeWithdraw

/-- R96: every zone whose mask bit is set takes the mode. -/
def State.applyZoneMode (mask : BitVec 16) (mode : ZoneMode) (s : State) : State :=
  { s with anu := { s.anu with
      zones := s.anu.zones.mapIdx fun z m => if mask.getLsbD z.val then mode else m } }

/-- ZONE_MODE (R96): the message at the head of the dispatch list. -/
def State.takeZoneMode (s : State) : State :=
  match s.cmu.dispatch with
  | .zoneMode mask mode :: rest => { s with cmu := { s.cmu with dispatch := rest } }.applyZoneMode mask mode
  | _ => s

def execZoneMode (s : State) : Host.Outcome State Fault Refusal := .next s.takeZoneMode

/-! ### Routing (R97, R98) -/

/-- R96: the mode of a berth's zone. -/
def State.zoneMode (s : State) (b : Fin 4) : ZoneMode := s.anu.zones.getD ((s.berthCfg b).zone - 1) .day

/-- R97. -/
def State.targetIncludes (s : State) (t : Target) (b : Fin 4) : Bool :=
  s.configured b &&
    match t with
    | .all => true
    | .zones m => m.getLsbD ((s.berthCfg b).zone - 1)
    | .stop st => decide ((s.bcu.get b).stop = st)

/-- R98: the routing matrix: headset and pillow. -/
def routing (cls : AnnClass) (z : ZoneMode) (w : WakeState) : Bool × Bool :=
  match cls, z, w with
  | .alert, _, _ => (true, true)
  | .wake, _, .armed | .wake, _, .calling | .wake, _, .missed => (true, true)
  | .wake, _, .acked => (true, false)
  | .wake, _, .idle => (false, false)
  | .crew, .day, _ => (true, true)
  | .crew, .night, _ => (true, false)
  | .service, .day, _ => (true, false)
  | .service, .night, _ => (false, false)

/-- R98: the record an entry gives a berth; none when it does not admit the berth. -/
def State.admission (s : State) (b : Fin 4) (i : Fin 16) : Option Follow :=
  let e := s.anu.entries.get i
  match e.cls, e.target with
  | some c, some t =>
    if (e.state = .active ∨ e.state = .fading) ∧ e.expired = false ∧ s.targetIncludes t b then
      let r := routing c (s.zoneMode b) (s.wku.get b).state
      if r.1 || r.2 then some ⟨some i, r.1, r.2, some c⟩ else none
    else none
  | _, _ => none

/-! ### Follow selection (R99, R100) -/

def AnnClass.rank : AnnClass → Nat
  | .alert => 0 | .wake => 1 | .crew => 2 | .service => 3

def stampValue : Stamp → Nat
  | .at_ c => c.toNat
  | .absent | .pending => 0

def State.stampOf (s : State) (i : Fin 16) : Nat := stampValue (s.anu.entries.get i).stamp

def classRank (f : Follow) : Nat :=
  match f.cls with
  | some c => AnnClass.rank c
  | none => 4

/-- R99: the admissible entry of the best class with the earliest stamp, the lower index winning. -/
def State.bestEntry (s : State) (b : Fin 4) : Option Follow :=
  (indices 16).foldl (fun best i =>
    match s.admission b i, best with
    | some f, none => some f
    | some f, some g =>
      if classRank f < classRank g ∨ (classRank f = classRank g ∧ s.stampOf i < s.stampOf (g.entry.getD 0)) then some f
      else best
    | none, _ => best) none

/-- R99: the incumbent is the entry the record names, provided its freed mark is clear. -/
def State.incumbent (s : State) (b : Fin 4) : Option Follow :=
  match (s.anu.follow.get b).entry with
  | some i => if (s.anu.entries.get i).freed then none else s.admission b i
  | none => none

/-- R99: the record follow selection gives a berth. -/
def State.selectFollow (s : State) (b : Fin 4) : Follow :=
  match s.bestEntry b with
  | none => .nothing
  | some f =>
    match s.incumbent b with
    | some g => if classRank g = classRank f then g else f
    | none => f

/-- R100: a record that differs, or the same entry with its text mark set, is published. -/
def State.followBerth (b : Fin 4) (s : State) : State :=
  let new := s.selectFollow b
  let old := s.anu.follow.get b
  let marked : Bool := match new.entry with
    | some i => (s.anu.entries.get i).textMark
    | none => false
  if new = old ∧ marked = false then s else s.publish b new

/-! ### Evaluation (R89 to R93, R95) -/

/-- R90, first step. -/
def AnnEntry.takeStamp (cycle : BitVec 32) (e : AnnEntry) : AnnEntry :=
  if e.stamp = .pending then { e with stamp := .at_ cycle } else e

/-- R95: entry 0 at an evaluation. -/
def AnnEntry.alertUpdate (e : AnnEntry) (isPresent : Bool) (cycle : BitVec 32) : AnnEntry :=
  match e.state, isPresent with
  | .active, true => { e with absence := 0 }
  | .active, false => { e with state := .fading, absence := 1 }
  | .fading, true => { e with state := .active, absence := 0 }
  | .fading, false => { e with absence := e.absence + 1 }
  | _, true => { e with state := .active, stamp := .at_ cycle, absence := 0 }
  | _, false => e

/-- R91, R92: an entry among 1 to 15 at an evaluation. An UNDESCRIBED entry not heard becomes FREE; a count that
reaches its limit is left to its expiry. -/
def AnnEntry.update (e : AnnEntry) (heard : Bool) (cycle : BitVec 32) : AnnEntry :=
  match e.state, heard with
  | .described, true => { e with state := .active, stamp := .at_ cycle, absence := 0 }
  | .active, true => { e with absence := 0 }
  | .fading, true => { e with state := .active, absence := 0 }
  | .active, false => { e with state := .fading, absence := 1 }
  | .fading, false => { e with absence := e.absence + 1 }
  | .undescribed, false => .freedNow
  | .described, false => { e with age := e.age + 1 }
  | .undescribed, true | .free, _ | .idle, _ => e

/-- R90, R92: the third step for one entry, with the *undescribed* count. -/
def State.updateEntry (heard : List Byte) (i : Fin 16) (s : State) : State :=
  let e := s.anu.entries.get i
  let h := match e.tag with
    | some t => heard.contains t
    | none => false
  let s' := s.setEntry i (e.update h s.tlu.cycleCount)
  if e.state = .undescribed ∧ h = false then s'.bump .undescribed else s'

/-- R93: a heard tag with no entry is allocated, or counted. -/
def State.allocateHeard (t : Byte) (s : State) : State :=
  match s.entryOf t with
  | some _ => s
  | none =>
    match s.freeEntry with
    | some i =>
      s.setEntry i { AnnEntry.free with tag := some t, state := .undescribed, freed := (s.anu.entries.get i).freed }
    | none => s.bump .tableFull

def announcementTags (heard : List Byte) : List Byte := heard.filter fun t => decide (tagKind t = .announcement)

/-- R89: the tags heard: those located, in tag order. -/
def State.heardTags (s : State) : List Byte := s.smu.locator.map (·.tag)

/-- R90: the table's part of an evaluation, steps one to four. -/
def State.evaluateTable (s : State) : State :=
  let heard := s.heardTags
  let c := s.tlu.cycleCount
  let s := { s with anu := { s.anu with entries := s.anu.entries.map (AnnEntry.takeStamp c) } }
  let s := s.setEntry 0
    ((s.anu.entries.get 0).alertUpdate (s.anu.alert.active || heard.contains 0x00) c)
  let s := announcementIndices.foldl (fun s i => s.updateEntry heard i) s
  (announcementTags heard).foldl (fun s t => s.allocateHeard t) s

/-- R90: the end of an evaluation clears every freed mark and text mark. -/
def State.clearMarks (s : State) : State :=
  { s with anu := { s.anu with entries := s.anu.entries.map fun e => { e with freed := false, textMark := false } } }

/-- EVALUATION (R90). The follow changes of one evaluation are published for berths 0 to 3 in order (notes/assumptions/27.md). -/
def State.evaluate (s : State) : State :=
  let s := s.evaluateTable
  let s := s.configuredBerths.foldl (fun s b => s.followBerth b) s
  s.clearMarks

/-! ### Expiries (R92, R95) -/

/-- FADING_EXPIRY (R92): due when the absence count of a FADING entry among 1 to 15 is 8. -/
def State.takeFading (i : Fin 16) (s : State) : State :=
  let e := s.anu.entries.get i
  if i ≠ 0 ∧ e.state = .fading ∧ 8 ≤ e.absence then s.freeNow i else s

def execFadingExpiry (i : Fin 16) (s : State) : Host.Outcome State Fault Refusal := .next (s.takeFading i)

/-- DESCRIPTION_AGE_EXPIRY (R92): due when a DESCRIBED entry's age is 2000. -/
def State.takeDescriptionAge (i : Fin 16) (s : State) : State :=
  let e := s.anu.entries.get i
  if i ≠ 0 ∧ e.state = .described ∧ 2000 ≤ e.age then s.freeNow i else s

def execDescriptionAgeExpiry (i : Fin 16) (s : State) : Host.Outcome State Fault Refusal := .next (s.takeDescriptionAge i)

/-- ENTRY0_FADE_EXPIRY (R95): due when entry 0 is FADING with absence count 8; the card text is kept. -/
def State.takeEntry0Fade (s : State) : State :=
  let e := s.anu.entries.get 0
  if e.state = .fading ∧ 8 ≤ e.absence then s.setEntry 0 { e with state := .idle, absence := 0, stamp := .absent } else s

def execEntry0FadeExpiry (s : State) : Host.Outcome State Fault Refusal := .next s.takeEntry0Fade

/-! ### The alert line (R94) -/

/-- R94: one sample of ALRT, which any node asserts. -/
def State.sampleAlrt (peer : Bool) (s : State) : State :=
  { s with anu := { s.anu with alert := s.anu.alert.sample (peer || s.drivesAlrt) } }

/-- ALERT_STATE_ACCEPTED (R94): due at the third sample in a row at the new level. -/
def State.takeAlert (s : State) : State :=
  if s.anu.alert.due then { s with anu := { s.anu with alert := s.anu.alert.accept } } else s

def execAlertStateAccepted (s : State) : Host.Outcome State Fault Refusal := .next s.takeAlert

/-! ### Teardown and resets (R103, R104) -/

/-- R103: entries 1 to 15 become FREE at once and the follows that name them end. -/
def State.anuTeardown (s : State) : State :=
  announcementIndices.foldl (fun s i =>
    if (s.anu.entries.get i).state = .free then s else s.freeNow i) s

/-- R104: the follow record is cleared without being published. -/
def State.anuReset (b : Fin 4) (s : State) : State := s.setFollow b .nothing

end Sys2Proof.Machine
end

