-- ==== Sys2Proof/Machine/Lcu.lean ====
section
/-!
DEFINITION. Machine/Lcu.lean: the Lane Capture Unit: demand list, grants, audio capture, record assembly (chapter 6).
-/

namespace Sys2Proof.Machine

/-! ### The demand list (R107, R108) -/

/-- R108: a tag already in the list is not added again. -/
def addDemand (l : List Grant) (g : Grant) : List Grant := if l.any fun x => decide (x.tag = g.tag) then l else l ++ [g]

/-- R108, step 2: the place of an entry in the order of class rank, stamp and index. -/
def State.entryBefore (s : State) (i j : Fin 16) : Bool :=
  let r (k : Fin 16) : Nat := match (s.anu.entries.get k).cls with | some c => AnnClass.rank c | none => 4
  decide (r i < r j ∨ (r i = r j ∧ (s.stampOf i < s.stampOf j ∨ (s.stampOf i = s.stampOf j ∧ i.val ≤ j.val))))

def insertEntry (before : Fin 16 → Fin 16 → Bool) (i : Fin 16) : List (Fin 16) → List (Fin 16)
  | [] => [i]
  | j :: rest => if before i j then i :: j :: rest else j :: insertEntry before i rest

/-- R108, step 2: the entries that a configured berth follows, in order. -/
def State.followedEntries (s : State) : List (Fin 16) :=
  ((indices 16).filter fun i => s.configuredBerths.any fun b => decide ((s.anu.follow.get b).entry = some i)).foldr
    (insertEntry s.entryBefore) []

/-- R124: headset present. -/
def State.headsetPresent (s : State) (b : Fin 4) : Bool := ((s.bcu.get b).inputs.get PanelInput.headset.idx).active

/-- R108: the video demand of a choice: its tag and that entry's run length. -/
def Config.videoDemand (c : Config) (ch : Choice) : Option Grant :=
  (c.prog ch).bind fun p => p.video.map fun v => ⟨v, p.run⟩

def audioDemand (t : Byte) : Grant := ⟨t, 1⟩

/-- R107, R108: the demand list. -/
def State.demands (s : State) : List Grant :=
  let bs := s.configuredBerths
  let hs := bs.filter s.headsetPresent
  let step1 : List Grant := if s.located 0x00 then [audioDemand 0x00] else []
  let step2 := s.followedEntries.filterMap fun i => (s.anu.entries.get i).tag.map audioDemand
  let step3 := hs.filterMap fun b => (s.cfg.audioOf (s.bcu.get b).choice).map audioDemand
  let step4 := hs.filterMap fun b => ((s.bcu.get b).pendingChoice.bind s.cfg.audioOf).map audioDemand
  let step5 := (bs.filter fun b => decide ((s.feed b).state ≠ .off)).filterMap fun b =>
    Config.videoDemand s.cfg (s.bcu.get b).choice
  let step6 := bs.filterMap fun b => (s.bcu.get b).pendingChoice.bind (Config.videoDemand s.cfg)
  (step1 ++ step2 ++ step3 ++ step4 ++ step5 ++ step6).foldl addDemand []

/-! ### Granting (R109) -/

/-- R109: skipped when not located, or a video tag located with another run length. -/
def skips (loc : List LocItem) (g : Grant) : Bool :=
  match locate loc g.tag with
  | none => true
  | some i => isVideo g.tag && decide (i.run ≠ g.run)

def Grant.lanes (g : Grant) : Nat := if isVideo g.tag then g.run else 1
def Grant.assemblers (g : Grant) : Nat := if isVideo g.tag then 1 else 0

def lanesUsed (l : List Grant) : Nat := (l.map Grant.lanes).sum
def assemblersUsed (l : List Grant) : Nat := (l.map Grant.assemblers).sum

/-- R109: down the list with what is granted so far; a tag for which too little remains is denied and counted. -/
def grantDown (loc : List LocItem) : List Grant → List Grant × Nat → List Grant × Nat
  | [], p => p
  | g :: rest, p =>
    if skips loc g then grantDown loc rest p
    else if lanesUsed p.1 + g.lanes ≤ 24 ∧ assemblersUsed p.1 + g.assemblers ≤ 8 then
      grantDown loc rest (p.1 ++ [g], p.2)
    else grantDown loc rest (p.1, p.2 + 1)

/-- GRANT_POINT (R109, R110): the new pending set replaces an older one. -/
def State.grantPoint (s : State) : State :=
  let t := grantDown s.smu.locator s.demands ([], 0)
  ({ s with lcu := { s.lcu with pendingSet := some t.1 } }).bumpN .laneDenials t.2

/-! ### Applying and resolving (R111, R112) -/

def freeLanesOf (lanes : Table 24 Lane) (t : Byte) : Table 24 Lane :=
  lanes.map fun l => if l.tag = some t then .free else l

def freeAsmOf (asm : Table 8 Assembler) (t : Byte) : Table 8 Assembler :=
  asm.map fun a => if a.tag = some t then .free else a

/-- R111, first step: a stream is dropped; a video stream reports a loss. -/
def State.dropStream (g : Grant) (s : State) : State :=
  let s := { s with lcu := { s.lcu with lanes := freeLanesOf s.lcu.lanes g.tag, asm := freeAsmOf s.lcu.asm g.tag } }
  if isVideo g.tag then s.lossReport g.tag else s

/-- R111, third step: positions `pos` upward go to the lowest-numbered free lanes. -/
def assignLanes (t : Byte) : Nat → Nat → Table 24 Lane → Table 24 Lane
  | 0, _, lanes => lanes
  | n + 1, pos, lanes =>
    match (indices 24).find? fun i => (lanes.get i).tag.isNone with
    | some i => assignLanes t n (pos + 1) (lanes.set i { Lane.free with tag := some t, position := pos })
    | none => lanes

def assignAsm (t : Byte) (asm : Table 8 Assembler) : Table 8 Assembler :=
  match (indices 8).find? fun i => (asm.get i).tag.isNone with
  | some i => asm.set i { Assembler.free with tag := some t }
  | none => asm

def State.assignStream (g : Grant) (s : State) : State :=
  { s with lcu := { s.lcu with
      lanes := assignLanes g.tag g.lanes 0 s.lcu.lanes
      asm := if isVideo g.tag then assignAsm g.tag s.lcu.asm else s.lcu.asm } }

/-- GRANT_APPLY (R111): with the tags newly assigned. -/
def State.applyGrants (s : State) : State × List Byte :=
  match s.lcu.pendingSet with
  | none => (s, [])
  | some p =>
    let kept := s.lcu.active.filter fun g => p.contains g
    let dropped := s.lcu.active.filter fun g => !(p.contains g)
    let fresh := p.filter fun g => !(kept.contains g)
    let s := dropped.foldl (fun s g => s.dropStream g) s
    let s := fresh.foldl (fun s g => s.assignStream g) s
    ({ s with lcu := { s.lcu with pendingSet := none, active := p } }, fresh.map (·.tag))

/-- R112: the first slot of a stream, when it is resolved. -/
def resolvedAt (loc : List LocItem) (g : Grant) : Option Nat :=
  match locate loc g.tag with
  | none => none
  | some i => if isVideo g.tag ∧ i.run ≠ g.run then none else some i.first

def laneSlots (lanes : Table 24 Lane) (t : Byte) : List (Option Nat) :=
  (lanes.toList.filter fun l => decide (l.tag = some t)).map (·.slot)

/-- R112, R121: one stream is resolved; a retargeted video stream has its assembler reset and reports a loss. -/
def State.resolveStream (fresh : List Byte) (s : State) (g : Grant) : State :=
  let at_ := resolvedAt s.smu.locator g
  let lanes := s.lcu.lanes.map fun l => if l.tag = some g.tag then { l with slot := at_.map (· + l.position) } else l
  let retargeted := !(fresh.contains g.tag) && decide (laneSlots lanes g.tag ≠ laneSlots s.lcu.lanes g.tag)
  let s' := { s with lcu := { s.lcu with lanes := lanes } }
  if retargeted && isVideo g.tag then
    ({ s' with lcu := { s'.lcu with
        asm := s'.lcu.asm.map fun a => if a.tag = some g.tag then { Assembler.free with tag := some g.tag } else a } }).lossReport
      g.tag
  else s'

/-- R110: the LCU's map update: apply, then resolve. -/
def State.lcuMapUpdate (s : State) : State :=
  let t := s.applyGrants
  t.1.lcu.active.foldl (State.resolveStream t.2) t.1

/-! ### Audio capture (R115, R116) -/

def Lane.isAudio (l : Lane) : Bool :=
  match l.tag with
  | some t => !isVideo t
  | none => false

/-- AUDIO_CAPTURE (R115): one slot completion of an audio lane's slot; true when a parity error is counted. -/
def Lane.capture (byte : Byte) (ninth : Bool) (l : Lane) : Lane × Bool :=
  if oddParity byte ninth = false then (l, true)
  else if undriven byte ninth then (l, false)
  else ({ l with lastGood := logDecode byte, miss := 0, got := true }, false)

def State.laneTake (slot : Nat) (byte : Byte) (ninth : Bool) (i : Fin 24) (s : State) : State :=
  let l := s.lcu.lanes.get i
  if l.isAudio ∧ l.slot = some slot then
    let t := l.capture byte ninth
    let s := s.setLane i t.1
    if t.2 then s.bump .parityErrors else s
  else s

/-- R116: a data frame end counts a miss of a lane that took no good sample. -/
def Lane.frameEnd (l : Lane) : Lane :=
  if l.isAudio then { l with miss := if l.got then l.miss else min (l.miss + 1) 24, got := false } else l

/-- MISS_COUNT_LIMIT (R116): due when an audio lane's miss count is 24 and its last good is not 0 yet. -/
def Lane.missDue (l : Lane) : Bool := l.isAudio && decide (l.miss = 24 ∧ l.lastGood ≠ 0)

def State.takeMissCount (i : Fin 24) (s : State) : State :=
  let l := s.lcu.lanes.get i
  if l.missDue then s.setLane i { l with lastGood := 0 } else s

def execMissCountLimit (i : Fin 24) (s : State) : Host.Outcome State Fault Refusal := .next (s.takeMissCount i)

/-! ### Record assembly (R118 to R121) -/

/-- What one byte does beside moving the assembler. -/
inductive AsmOut | nothing | short | overlong | checkError | good (record : List Byte)
deriving DecidableEq, Repr

def Assembler.inProgress (a : Assembler) : Bool := decide (a.state = .header ∨ a.state = .body ∨ a.state = .check)

/-- R118: to open a record. -/
def Assembler.openRecord (a : Assembler) (byte : Byte) : Assembler :=
  { a with state := .header, bytes := [byte], xor := byte }

def Assembler.idle (a : Assembler) (st : AsmState) : Assembler := { a with state := st, bytes := [], xor := 0 }

def Assembler.store (a : Assembler) (byte : Byte) : Assembler :=
  { a with bytes := a.bytes ++ [byte], xor := a.xor ^^^ byte }

/-- R118 to R120: one byte of the run, with its record mark. -/
def Assembler.take (a : Assembler) (byte : Byte) (mark : Bool) : Assembler × AsmOut :=
  if undriven byte mark then
    if a.inProgress then (a.idle .hunt, .short) else (a, .nothing)
  else if mark then (a.openRecord byte, if a.inProgress then .short else .nothing)
  else
    match a.state with
    | .hunt | .skip => (a, .nothing)
    | .header =>
      let x := a.store byte
      if x.bytes.length < 3 then (x, .nothing)
      else if 1019 < recordLength x.bytes then (x.idle .skip, .overlong)
      else if recordLength x.bytes = 0 then ({ x with state := .check }, .nothing)
      else ({ x with state := .body }, .nothing)
    | .body =>
      let x := a.store byte
      (if x.bytes.length = 3 + recordLength x.bytes then { x with state := .check } else x, .nothing)
    | .check =>
      if byte = a.xor then (a.idle .hunt, .good (a.bytes ++ [byte])) else (a.idle .hunt, .checkError)

/-- R119 to R121: the counter, the loss report or the delivery that an assembler's output asks for. -/
def State.asmOut (tag : Byte) (o : AsmOut) (s : State) : State :=
  match o with
  | .nothing => s
  | .short => (s.bump .shortRecords).lossReport tag
  | .overlong => (s.bump .overlongRecords).lossReport tag
  | .checkError => (s.bump .recordCheckErrors).lossReport tag
  | .good r => { s with sfu := { s.sfu with inbox := s.sfu.inbox ++ [(tag, r)] } }

def State.setAsm (i : Fin 8) (a : Assembler) (s : State) : State :=
  { s with lcu := { s.lcu with asm := s.lcu.asm.set i a } }

/-- R118: the completion of a slot reaches the assembler of the video stream one of whose lanes captures it. -/
def State.asmTake (slot : Nat) (byte : Byte) (mark : Bool) (i : Fin 8) (s : State) : State :=
  let a := s.lcu.asm.get i
  match a.tag with
  | none => s
  | some t =>
    if s.lcu.lanes.toList.any fun l => decide (l.tag = some t ∧ l.slot = some slot) then
      let x := a.take byte mark
      (s.setAsm i x.1).asmOut t x.2
    else s

/-- R113, R115, R118: the LCU takes a slot completion of a data frame. -/
def State.lcuTake (slot : Nat) (byte : Byte) (ninth : Bool) (s : State) : State :=
  let s := (indices 24).foldl (fun s i => s.laneTake slot byte ninth i) s
  (indices 8).foldl (fun s i => s.asmTake slot byte ninth i) s

/-- R120: at an abandoned frame a record in progress is short when a slot of its run did not complete; `done` slots of
the frame had completed. -/
def State.asmAbandoned (done : Nat) (i : Fin 8) (s : State) : State :=
  let a := s.lcu.asm.get i
  match a.tag with
  | none => s
  | some t =>
    let missed := s.lcu.lanes.toList.any fun l =>
      decide (l.tag = some t) && (match l.slot with | some k => decide (done ≤ k) | none => false)
    if a.inProgress && missed then (s.setAsm i (a.idle .skip)).asmOut t .short else s

/-- R116, R120: the LCU's data frame end. -/
def State.lcuFrameEnd (abandoned : Bool) (done : Nat) (s : State) : State :=
  let s := { s with lcu := { s.lcu with lanes := s.lcu.lanes.map Lane.frameEnd } }
  if abandoned then (indices 8).foldl (fun s i => s.asmAbandoned done i) s else s

/-! ### Teardown (R122) -/

def State.lcuTeardown (s : State) : State :=
  let videos := s.lcu.active.filter fun g => isVideo g.tag
  let s := videos.foldl (fun s g => s.lossReport g.tag) s
  { s with lcu := .reset }

end Sys2Proof.Machine
end

