-- ==== Sys2Proof/Machine/Asp.lean ====
section
/-!
DEFINITION. Machine/Asp.lean: the Audio Source Port: port frames, feeding held slots, talk inputs (chapter 3.1 to 3.3).
-/

namespace Sys2Proof.Machine

/-! ### Port frames (R44 to R46) -/

/-- R46: a code is appended, or dropped when the FIFO holds 4; true when it is dropped. -/
def AspChannel.push (c : AspChannel) (code : Byte) : AspChannel × Bool :=
  if 4 ≤ c.fifo.length then (c, true) else ({ c with fifo := c.fifo ++ [code] }, false)

/-- R44: bits in the order in which they arrive, most significant first. -/
def msbFirst (bits : List Bool) : Nat := bits.foldl (fun n b => 2 * n + b.toNat) 0

/-- R44: the word of channel `c` in the bits of a port frame, channel 0 first. -/
def portWord (bits : List Bool) (c : Fin 8) : BitVec 16 := BitVec.ofNat 16 (msbFirst ((bits.drop (16 * c.val)).take 16))

/-- R46: the word of one channel. -/
def State.channelWord (bits : List Bool) (c : Fin 8) (s : State) : State :=
  if (s.cfg.asp.get c).enabled then
    let t := (s.asp.ch.get c).push (logEncode (portWord bits c))
    let s := { s with asp := { s.asp with ch := s.asp.ch.set c t.1 } }
    if t.2 then s.bump .sourceOverruns else s
  else s

/-- R44: a port frame is open with these bits in. -/
def Asp.openWith (bits : List Bool) (a : Asp) : Asp := { a with portOpen := true, bits := bits }

/-- R45: no port frame is open. -/
def Asp.closed (a : Asp) : Asp := { a with portOpen := false, bits := [] }

/-- R44 to R46: bits arrive on ADAT: they fill the open port frame, and its 128th bit completes it. Bits beyond it, and bits
while no port frame is open, are ignored. -/
def State.portBits (bits : List Bool) (s : State) : State :=
  if s.asp.portOpen = true then
    let all := s.asp.bits ++ bits
    if all.length < 128 then { s with asp := s.asp.openWith all }
    else
      let s := (indices 8).foldl (fun s c => s.channelWord all c) s
      { s with asp := s.asp.closed }
  else s

/-- PORT_FRAME_COMPLETE (R46): bits that do not reach the 128th fill the open port frame, and complete nothing. In LOADING no
bit is read (R195). -/
def execPortFrameComplete (bits : List Bool) (s : State) : Host.Outcome State Fault Refusal :=
  .next (if s.running then s.portBits bits else s)

/-- R45: an AFS pulse opens a port frame. An early one counts, and under FOLLOW it opens a new frame in place of the partial
one; under IGNORE the open frame goes on filling. -/
def State.afsPulse (s : State) : State :=
  if s.asp.portOpen = true then
    let s := s.bump .portMarkErrors
    match s.cfg.portPolicy with
    | .follow => { s with asp := s.asp.openWith [] }
    | .ignore => s
  else { s with asp := s.asp.openWith [] }

/-- AFS_PULSE (R45): under DEVICE timing. Under NODE timing AFS is the node's own output. -/
def execAfsPulse (s : State) : Host.Outcome State Fault Refusal :=
  .next (if s.running ∧ s.cfg.aspTiming = .device then s.afsPulse else s)

/-! ### Feeding (R48 to R50) -/

/-- R48 to R50: one channel at a data frame start; true when it underran. -/
def AspChannel.feed (held enabled : Bool) (c : AspChannel) : AspChannel × Bool :=
  if held then
    match c.fifo with
    | code :: rest => ({ fifo := rest, lastCode := code, repeats := 0, fixed := code }, false)
    | [] =>
      let n := min (c.repeats + 1) 25
      if n ≤ 24 then ({ c with repeats := n, fixed := c.lastCode }, true)
      else ({ c with repeats := n, fixed := 0x00, lastCode := 0x00 }, true)
  else if enabled then ({ c with fifo := [], lastCode := 0x00, repeats := 0 }, false)
  else (c, false)

def State.channelFeed (c : Fin 8) (s : State) : State :=
  let t := (s.asp.ch.get c).feed (s.held (aspHolding c)) (s.cfg.asp.get c).enabled
  let s := { s with asp := { s.asp with ch := s.asp.ch.set c t.1 } }
  if t.2 then s.bump .sourceUnderruns else s

/-- R44, R48: a frame start. Under NODE timing a data frame start drives AFS and opens a port frame, a partial one being
abandoned; the start of frame 0 drives no pulse and leaves an open port frame running. -/
def State.aspFrameStart (s : State) : State :=
  if s.tlu.frame = 0 then { s with asp := { s.asp with afs := false } }
  else
    let s := (indices 8).foldl (fun s c => s.channelFeed c) s
    if s.cfg.aspTiming = .node then { s with asp := { s.asp.openWith [] with afs := true } } else s

/-! ### Talk inputs (R51 to R54) -/

def talkChannel (c : Fin 4) : Fin 8 := ⟨c.val, by omega⟩

def State.aspCfg (s : State) (c : Fin 4) : AspConfig := s.cfg.asp.get (talkChannel c)

/-- R51: a cycle tick samples TALK0 to TALK3; an input is active when low, and a disabled channel's input is not read
(R43). -/
def State.sampleTalk (high : Table 4 Bool) (s : State) : State :=
  { s with asp := { s.asp with
      talk := s.asp.talk.mapIdx fun c t =>
        if (s.aspCfg c).enabled then { t with deb := t.deb.sample (!(high.get c)) } else t } }

/-- R53: the PRESENT that describes an opened announcement channel. -/
def describeChannel (a : AspConfig) (seq : Byte) : Message := .present a.tag seq a.cls a.target []

/-- TALK_ACTIVATION (R51 to R54): due when a change to ACTIVE is accepted. An alert channel's ALRT drive follows from the
talk state (`State.drivesAlrt`); its PRESENT is not sent and a programme channel's change has no further effect. -/
def State.takeTalkActivation (c : Fin 4) (s : State) : State :=
  let t := s.asp.talk.get c
  let a := s.aspCfg c
  if t.deb.due ∧ t.deb.active = false then
    let announces := a.enabled && decide (tagKind a.tag = .announcement)
    let s' := s.setTalk c ⟨t.deb.accept, if announces then t.count + 1 else t.count⟩
    if announces && a.autoDescribe then s'.handMessage (.channel c) (describeChannel a t.count) else s'
  else s

def execTalkActivation (c : Fin 4) (s : State) : Host.Outcome State Fault Refusal := .next (s.takeTalkActivation c)

/-- TALK_DEACTIVATION (R51, R52, R54): due when a change to INACTIVE is accepted. -/
def State.takeTalkDeactivation (c : Fin 4) (s : State) : State :=
  let t := s.asp.talk.get c
  if t.deb.due ∧ t.deb.active = true then s.setTalk c { t with deb := t.deb.accept } else s

def execTalkDeactivation (c : Fin 4) (s : State) : Host.Outcome State Fault Refusal := .next (s.takeTalkDeactivation c)

end Sys2Proof.Machine
end

