-- ==== Sys2Proof/Machine/Bcu.lean ====
section
/-!
DEFINITION. Machine/Bcu.lean: the Berth Context Unit: panel inputs, volume, channel stepping, switches (chapter 7); and the
delivery of records, where a KEY completes a switch (R179, R183, R131).
-/

namespace Sys2Proof.Machine

/-! ### Samples and the order of one tick (R125, R126) -/

def Berth.input (x : Berth) (i : PanelInput) : Debouncer := x.inputs.get i.idx

/-- A change of the input is accepted, and every input taken before it at one tick has been taken (R126, step 2). -/
def Berth.inputTurn (x : Berth) (i : PanelInput) : Bool :=
  (x.input i).due && (indices 6).all fun j => !(decide (j.val < i.idx.val) && (x.inputs.get j).due)

/-- R126: no accepted change waits, so the tick's timers are taken. -/
def Berth.inputsTaken (x : Berth) : Bool := (indices 6).all fun j => !(x.inputs.get j).due

def Berth.acceptInput (x : Berth) (i : PanelInput) : Berth := { x with inputs := x.inputs.modify i.idx Debouncer.accept }

/-- The change of input `i` to this level is due at this point of the tick. -/
def State.inputDue (s : State) (b : Fin 4) (i : PanelInput) (level : Bool) : Bool :=
  (s.bcu.get b).inputTurn i && decide (((s.bcu.get b).input i).active = !level)

/-- R125: one sample of a berth's six pins under its polarity. -/
def Berth.sample (polarityHigh : Bool) (high : Table 6 Bool) (x : Berth) : Berth :=
  { x with inputs := x.inputs.mapIdx fun i d => d.sample (high.get i == polarityHigh) }

/-- R128, R133, R138: steps 3 to 5 of a tick count the timers. -/
def Berth.tick (x : Berth) : Berth :=
  { x with repUp := countDown x.repUp, repDown := countDown x.repDown
           pendingTimer := countDown x.pendingTimer, flash := countDown x.flash }

/-- R125, R126: the BCU's cycle tick, steps 2 to 5; the inputs of an unconfigured berth are not sampled. -/
def State.bcuTick (pins : TickPins) (s : State) : State :=
  { s with
    bcu := s.bcu.mapIdx fun b x =>
      if s.configured b then (x.sample (s.berthCfg b).polarityHigh (pins.panelHigh.get b)).tick else x }

/-! ### Volume (R127, R128) -/

/-- R127: one volume step under the maximum level. -/
def volumeStep (max : Nat) (d : Dir) (l : Level) : Level :=
  match d, l with
  | .up, .mute => .lvl 0
  | .up, .lvl n => if n < max then .lvl (n + 1) else .lvl n
  | .down, .mute => .mute
  | .down, .lvl 0 => .mute
  | .down, .lvl (n + 1) => .lvl n

/-- R127, R153: a step that changes the level is handed to the Mixer. -/
def State.stepVolume (b : Fin 4) (d : Dir) (s : State) : State :=
  let x := s.bcu.get b
  let l := volumeStep (s.berthCfg b).maxLevel d x.userLevel
  if l = x.userLevel then s else (s.setBerth b { x with userLevel := l }).mixUserLevel b

def volInput : Dir → PanelInput
  | .up => .volUp
  | .down => .volDown

def Berth.repeatTimer (x : Berth) : Dir → Timer
  | .up => x.repUp
  | .down => x.repDown

def Berth.withRepeat (x : Berth) (d : Dir) (t : Timer) : Berth :=
  match d with
  | .up => { x with repUp := t }
  | .down => { x with repDown := t }

/-- VOL_PRESS (R127, R128): due when the press is accepted: one step, and the repeat timer is loaded with 600. -/
def State.takeVolPress (b : Fin 4) (d : Dir) (s : State) : State :=
  if s.inputDue b (volInput d) true then
    (s.setBerth b (((s.bcu.get b).acceptInput (volInput d)).withRepeat d (some 600))).stepVolume b d
  else s

def execVolPress (b : Fin 4) (d : Dir) (s : State) : Host.Outcome State Fault Refusal := .next (s.takeVolPress b d)

/-- VOL_RELEASE (R128): due when the release is accepted: the repeat timer is stopped. -/
def State.takeVolRelease (b : Fin 4) (d : Dir) (s : State) : State :=
  if s.inputDue b (volInput d) false then
    s.setBerth b (((s.bcu.get b).acceptInput (volInput d)).withRepeat d none)
  else s

def execVolRelease (b : Fin 4) (d : Dir) (s : State) : Host.Outcome State Fault Refusal := .next (s.takeVolRelease b d)

/-- R126, R128: the timer has expired and its turn in the tick has come, VOL+ before VOL-. -/
def Berth.repeatDue (x : Berth) (d : Dir) : Bool :=
  x.inputsTaken && expired (x.repeatTimer d) && (match d with | .up => true | .down => !(expired x.repUp))

/-- REPEAT_TIMER_EXPIRY (R128): one more step while the input is ACTIVE, and the timer is reloaded with 250. -/
def State.takeRepeatTimer (b : Fin 4) (d : Dir) (s : State) : State :=
  let x := s.bcu.get b
  if x.repeatDue d then
    if (x.input (volInput d)).active = true then (s.setBerth b (x.withRepeat d (some 250))).stepVolume b d
    else s.setBerth b (x.withRepeat d none)
  else s

def execRepeatTimerExpiry (b : Fin 4) (d : Dir) (s : State) : Host.Outcome State Fault Refusal :=
  .next (s.takeRepeatTimer b d)

/-! ### Channel stepping (R129, R130) -/

/-- R129: the circular order OFF, 0, …, n - 1. -/
def stepChoice (n : Nat) (d : Dir) (c : Choice) : Choice :=
  match d, c with
  | .up, .off => if n = 0 then .off else .entry 0
  | .up, .entry i => if i + 1 < n then .entry (i + 1) else .off
  | .down, .off => if n = 0 then .off else .entry (n - 1)
  | .down, .entry 0 => .off
  | .down, .entry (i + 1) => .entry i

/-- R130: a landed choice is applied: a cancellation, or a new pending choice with its timer at 3000. -/
def Berth.land (x : Berth) (ch : Choice) : Berth :=
  if ch = x.choice then { x with pendingChoice := none, pendingTimer := none }
  else { x with pendingChoice := some ch, pendingTimer := some 3000 }

def chInput : Dir → PanelInput
  | .up => .chUp
  | .down => .chDown

/-- CHANNEL_PRESS (R129, R130): due when the press is accepted. -/
def State.takeChannelPress (b : Fin 4) (d : Dir) (s : State) : State :=
  if s.inputDue b (chInput d) true then
    let x := (s.bcu.get b).acceptInput (chInput d)
    s.setBerth b (x.land (stepChoice s.cfg.programme.length d (x.pendingChoice.getD x.choice)))
  else s

def execChannelPress (b : Fin 4) (d : Dir) (s : State) : Host.Outcome State Fault Refusal := .next (s.takeChannelPress b d)

/-! ### Completing a switch (R131 to R133) -/

/-- Chapter 7.5: the pending choice becomes the current choice, and the SFU takes a choice notice. -/
def State.completeSwitch (b : Fin 4) (ch : Choice) (cause : SwitchCause) (s : State) : State :=
  (s.setBerth b { s.bcu.get b with choice := ch, pendingChoice := none, pendingTimer := none }).choiceNotice b ch cause

/-- R132: a pending choice without video completes. -/
def State.completeWithoutVideo (b : Fin 4) (s : State) : State :=
  match (s.bcu.get b).pendingChoice with
  | some ch => if (s.cfg.videoOf ch).isNone then s.completeSwitch b ch .mapUpdate else s
  | none => s

/-- SWITCH_COMPLETION_MAP_UPDATE (R132): at a map update, and at a cycle tick in LISTEN (R126, step 1). -/
def State.bcuCompletions (s : State) : State := s.configuredBerths.foldl (fun s b => s.completeWithoutVideo b) s

/-- R126: the pending timer has expired and its turn in the tick has come. -/
def Berth.pendingDue (x : Berth) : Bool :=
  x.inputsTaken && !(expired x.repUp) && !(expired x.repDown) && expired x.pendingTimer

/-- PENDING_TIMER_EXPIRY (R133): the pending choice becomes current with cause timeout. -/
def State.takePendingTimer (b : Fin 4) (s : State) : State :=
  let x := s.bcu.get b
  if x.pendingDue then
    match x.pendingChoice with
    | some ch => s.completeSwitch b ch .timeout
    | none => s.setBerth b { x with pendingTimer := none }
  else s

def execPendingTimerExpiry (b : Fin 4) (s : State) : Host.Outcome State Fault Refusal := .next (s.takePendingTimer b)

/-! ### ACK, releases and headset detect (R125, R134, R135) -/

/-- ACK_PRESS (R134): due when the press is accepted; routed by the berth's wake state. -/
def State.takeAckPress (b : Fin 4) (s : State) : State :=
  if s.inputDue b .ack true then
    let s := s.setBerth b ((s.bcu.get b).acceptInput .ack)
    match (s.wku.get b).state with
    | .calling | .missed => s.acknowledge b
    | .idle | .armed | .acked => s.dismiss b
  else s

def execAckPress (b : Fin 4) (s : State) : Host.Outcome State Fault Refusal := .next (s.takeAckPress b)

def buttonInput : Button → PanelInput
  | .chUp => .chUp
  | .chDown => .chDown
  | .ack => .ack

/-- BUTTON_RELEASE (R125, R129, R134): the debounced state returns to INACTIVE, with no further effect. -/
def State.takeButtonRelease (b : Fin 4) (k : Button) (s : State) : State :=
  if s.inputDue b (buttonInput k) false then s.setBerth b ((s.bcu.get b).acceptInput (buttonInput k)) else s

def execButtonRelease (b : Fin 4) (k : Button) (s : State) : Host.Outcome State Fault Refusal :=
  .next (s.takeButtonRelease b k)

/-- HEADSET_DETECT_CHANGE (R135, R155): the debounced state changes and is handed to the Mixer. -/
def State.takeHeadsetDetect (b : Fin 4) (s : State) : State :=
  let x := s.bcu.get b
  if x.inputTurn .headset then
    let y := x.acceptInput .headset
    (s.setBerth b y).setMix b { s.mix.get b with flag := (y.input .headset).active }
  else s

def execHeadsetDetectChange (b : Fin 4) (s : State) : Host.Outcome State Fault Refusal := .next (s.takeHeadsetDetect b)

/-! ### The flash phase (R138) -/

/-- R126: the flash phase counter has expired and its turn in the tick has come. -/
def Berth.flashDue (x : Berth) : Bool :=
  x.inputsTaken && !(expired x.repUp) && !(expired x.repDown) && !(expired x.pendingTimer) && expired x.flash

/-- FLASH_PHASE_EXPIRY (R138): the lamp toggles between lit and dark for another 250 ticks. -/
def State.takeFlashPhase (b : Fin 4) (s : State) : State :=
  let x := s.bcu.get b
  if x.flashDue then s.setBerth b { x with lit := !x.lit, flash := some 250 } else s

def execFlashPhaseExpiry (b : Fin 4) (s : State) : Host.Outcome State Fault Refusal := .next (s.takeFlashPhase b)

/-! ### Delivery of records (R131, R179, R183) -/

/-- R179: the types the SFU takes from the trunk; an END with a payload is none of them. -/
def deliverable (r : List Byte) : Bool :=
  let t := r.getD 0 0
  decide (t = typeKey ∨ t = typeDelta ∨ (t = typeEnd ∧ recordLength r = 0))

/-- R179: the record is offered to one berth: a KEY of the pending video completes its switch, a record of the feed
video is taken by the feed. -/
def State.offerRecord (tag : Byte) (r : List Byte) (b : Fin 4) (s : State) : State :=
  match (s.bcu.get b).pendingChoice with
  | some ch =>
    if r.getD 0 0 = typeKey ∧ s.cfg.videoOf ch = some tag then
      (s.keySwitchFeed b tag r).completeSwitch b ch .keyRecord
    else if (s.feed b).video = some tag then s.feedTake b r
    else s
  | none => if (s.feed b).video = some tag then s.feedTake b r else s

/-- RECORD_DELIVERED (R179): the record at the head of the SFU's inbox. -/
def State.takeRecord (s : State) : State :=
  match s.sfu.inbox with
  | [] => s
  | (tag, r) :: rest =>
    let s := { s with sfu := { s.sfu with inbox := rest } }
    if deliverable r then s.configuredBerths.foldl (fun s b => s.offerRecord tag r b) s
    else s.bump .recordCheckErrors

def execRecordDelivered (s : State) : Host.Outcome State Fault Refusal := .next s.takeRecord

/-! ### Resets (R139) -/

/-- R139: the berth reset of a context. -/
def State.bcuReset (b : Fin 4) (s : State) : State :=
  s.setBerth b { Berth.unconfigured with
    choice := (s.berthCfg b).defaultChoice, userLevel := (s.berthCfg b).resetLevel }

/-- R205: the berth reset of every block in one instant. -/
def State.berthReset (b : Fin 4) (s : State) : State :=
  ((((s.bcuReset b).anuReset b).mixReset b).wkuReset b).sfuReset b

end Sys2Proof.Machine
end

