-- ==== Sys2Proof/Machine/Tlu.lean ====
section
/-!
DEFINITION. Machine/Tlu.lean: the Trunk Line Unit's own operations: the cycle tick, the entry to LISTEN with its teardown,
the link counts and their expiries, the marks the node drives, the frame numbers (chapter 1).
-/

namespace Sys2Proof.Machine

/-! ### Frame numbers, ticks and counts -/

/-- R8: frame 24 is followed by frame 0. -/
def nextFrame (n : Nat) : Nat := (n + 1) % 25

/-- R8: the frame number that a start gives: a C mark 0, an F mark or a flywheel start the next. -/
def frameAfter (form : MarkForm) (n : Nat) : Nat :=
  match form with
  | .c => 0
  | .f => nextFrame n

/-- R8: a C mark where advancing by one would not have given 0. -/
def isSlip (form : MarkForm) (n : Nat) : Bool := decide (form = .c ∧ nextFrame n ≠ 0)

/-- R8, R17, R19: the TLU's part of a cycle tick. -/
def Tlu.tick (t : Tlu) : Tlu :=
  { t with cycleCount := t.cycleCount + 1, cyc := !t.cyc, silenced := Table.replicate 11 false }

/-- R14: the frames-since-foreign count at a frame start in LOCKED or LEADING. -/
def countForeign (foreign : Bool) (n : Nat) : Nat := if foreign then 0 else min (n + 1) 25

/-- R5, R9: a frame begins with this number, and the bit time reached when it does; `marked` tells whether a mark or a
flywheel start opens it. -/
def Tlu.newFrame (n bitTime : Nat) (marked : Bool) (t : Tlu) : Tlu :=
  { t with
    frame := n, bitTime := bitTime, ownMark := none, guard := .recessive, mismatch := Table.replicate 40 none
    slotsDone := 0, expired := false, lateRun := false, marked := marked }

/-! ### LISTEN (R12) -/

/-- R12: the TLU's own state on an entry to LISTEN. -/
def Tlu.listen (t : Tlu) : Tlu :=
  { t with
    link := .listen, silenced := Table.replicate 11 false, mismatch := Table.replicate 40 none, ownMark := none, candidate := none
    inListen := 0, sinceForeign := 0 }

/-- TEARDOWN (R12): the entry to LISTEN, with the notice to the SMU, LCU, ANU and CMU. -/
def State.enterListen (s : State) : State :=
  ({ s with tlu := s.tlu.listen }.smuTeardown.lcuTeardown.anuTeardown).cmuTeardown

/-! ### Link expiries (R13, R14) -/

/-- R14: the count has reached 25 in LOCKED. -/
def State.foreignDue (s : State) : Bool := decide (s.tlu.link = .locked ∧ 25 ≤ s.tlu.sinceForeign)

/-- R13: an eligible node is in LISTEN at the start of its 76th frame there. -/
def State.listenDue (s : State) : Bool := s.cfg.eligible && decide (s.tlu.link = .listen ∧ 76 ≤ s.tlu.inListen)

def State.setLink (l : LinkState) (s : State) : State := { s with tlu := { s.tlu with link := l } }

/-- FRAMES_SINCE_FOREIGN_EXPIRY (R14): an eligible node enters LEADING; a follow-only node drops to LISTEN. -/
def State.takeFramesSinceForeign (s : State) : State :=
  if s.foreignDue then
    if s.cfg.eligible then s.setLink .leading else (s.bump .linkDrops).enterListen
  else s

def execFramesSinceForeignExpiry (s : State) : Host.Outcome State Fault Refusal := .next s.takeFramesSinceForeign

/-- FRAMES_IN_LISTEN_EXPIRY (R13): an eligible node enters LEADING. -/
def State.takeFramesInListen (s : State) : State := if s.listenDue then s.setLink .leading else s

def execFramesInListenExpiry (s : State) : Host.Outcome State Fault Refusal := .next s.takeFramesInListen

/-! ### Acquisition (R13) -/

/-- R13: the table for one recognised mark: the new candidate, and whether the mark locks the link. -/
def acquire (form : MarkForm) (mid : Bool) (c : Option Nat) : Option Nat × Bool :=
  match form, c with
  | .c, some n => if n = 24 ∧ mid = false then (some n, true) else (some 0, false)
  | .c, none => (some 0, false)
  | .f, none => (none, false)
  | .f, some n => if mid = false ∧ n < 24 then (some (n + 1), false) else (none, false)

/-! ### Driving marks (R6) -/

/-- R6: a node that may mark frames: eligible, and LOCKED or LEADING. -/
def State.mayMark (s : State) : Bool := s.cfg.eligible && s.onTrunk

/-- R6: the node begins a mark of its own: C when the next frame number is 0, F otherwise; the timer is reloaded. -/
def Tlu.driveMark (t : Tlu) : Tlu :=
  { t with
    ownMark := some (if nextFrame t.frame = 0 then .c else .f), guard := .recessive, bitTime := 0, expired := false }

/-- R5: the timer has expired: what was seen of the guard is recorded, and the bit time counts on from 480. -/
def Tlu.expire (g : GuardReading) (t : Tlu) : Tlu := { t with bitTime := 480, guard := g, expired := true }

/-- R5, R6: the expiry of the frame timer: drive, or record the guard and wait. A timer that has expired runs no more. A node
under IGNORE drives at 480 after a mark that began at 404 to 415 as well, the model's choice (notes/assumptions/28.md). -/
def State.timerExpiry (g : GuardReading) (s : State) : State :=
  if s.tlu.expired then s
  else if s.mayMark ∧ g ≠ .inProgress then { s with tlu := s.tlu.driveMark }
  else { s with tlu := s.tlu.expire g }

/-- R6: the run that the node yielded to ends short: the node drives its own mark. -/
def State.guardRunEnds (s : State) : State :=
  if s.mayMark ∧ s.tlu.guard = .inProgress then { s with tlu := s.tlu.driveMark } else s

/-! ### Read-back (R16, R17) -/

/-- R16, R17: the holding is silenced, and the slot keeps the mismatch for its completion. -/
def State.silence (k : Fin 40) (h : Fin 11) (s : State) : State :=
  { s with tlu := { s.tlu with silenced := s.tlu.silenced.set h true, mismatch := s.tlu.mismatch.set k (some h) } }

/-- R16, R17: a driven bit of slot `k` read back different. A slot that has completed, or that the node did not drive, has
no driven bit. -/
def State.readBack (k : Fin 40) (s : State) : State :=
  match s.drove k with
  | some (h, _) => if s.tlu.slotsDone ≤ k.val then s.silence k h else s
  | none => s

end Sys2Proof.Machine
end

