-- ==== Sys2Proof/Machine/Svl.lean ====
section
/-!
DEFINITION. Machine/Svl.lean: the service link: commands, replies and their data (chapter 11.4, R67).
-/

namespace Sys2Proof.Machine

/-! ### Reported fields (R204) -/

def b8 (n : Nat) : Byte := BitVec.ofNat 8 n

/-- R204: an absent index, slot, tag, choice, class, source or phase is sent as 0xFE. -/
def orAbsent (x : Option Byte) : Byte := x.getD 0xFE

def Bool.code (b : Bool) : Byte := if b then 1 else 0

def nodeCode : NodeState → Byte
  | .loading => 0 | .running => 1

def linkCode : LinkState → Byte
  | .loading => 0 | .listen => 1 | .locked => 2 | .leading => 3

def holdingCode : HoldingState → Byte
  | .inactive => 0 | .seeking => 1 | .backoff => 2 | .held => 3

def annStateCode : AnnState → Byte
  | .free => 0 | .described => 1 | .undescribed => 2 | .active => 3 | .fading => 4 | .idle => 5

def classCode : AnnClass → Byte
  | .alert => 0 | .crew => 1 | .wake => 2 | .service => 3

def lampCode : Lamp → Byte
  | .off => 0 | .on => 1 | .flash => 2

def wakeCode : WakeState → Byte
  | .idle => 0 | .armed => 1 | .calling => 2 | .acked => 3 | .missed => 4

def feedCode : FeedState → Byte
  | .off => 0 | .following => 1 | .waitKey => 2 | .ended => 3

def baseCode : BaseCard → Byte
  | .none => 0 | .rest => 1 | .unavailable => 2

def sourceCode : OverlaySource → Byte
  | .alert => 0 | .announcement => 1 | .wake => 2 | .message => 3

def phaseCode : OverlayPhase → Byte
  | .live => 0 | .linger => 1

def duckCode : DuckState → Byte
  | .unducked => 0 | .ducked => 1 | .holding => 2

def levelCode : Level → Byte
  | .mute => 0xFF
  | .lvl n => b8 n

def choiceCode : Choice → Byte
  | .off => 0xFF
  | .entry i => b8 i

/-- R204: a timer's remaining count, or 0xFFFF when stopped. -/
def timerBytes : Timer → List Byte
  | some n => be16 n
  | none => [0xFF, 0xFF]

/-- R204: a presence byte and the value, or 0 and as many zero bytes. -/
def withPresence (n : Nat) : Option (List Byte) → List Byte
  | some v => 1 :: v
  | none => 0 :: List.replicate n 0

/-- R204: an activation stamp, with 2 for a pending one. -/
def stampBytes : Stamp → List Byte
  | .absent => [0, 0, 0, 0, 0]
  | .pending => [2, 0, 0, 0, 0]
  | .at_ c => 1 :: be32 c.toNat

/-! ### Reply data (R204) -/

/-- READ NODE. -/
def State.nodeData (s : State) : List Byte :=
  [nodeCode s.cfl.node, linkCode s.tlu.link, b8 s.cfl.address, Bool.code s.cfl.fault, b8 s.cmu.queue.length] ++
    be32 s.tlu.cycleCount.toNat ++ s.counters.toList.flatMap fun c => be16 c.toNat

def SlotEntry.data (e : SlotEntry) : List Byte :=
  [e.tag, b8 e.age, orAbsent (e.own.map fun h => b8 h.val), b8 e.parityErrors]

def Holding.data (h : Holding) : List Byte :=
  [holdingCode h.state, orAbsent (h.first.map b8), b8 h.attempts, b8 h.backoff]

/-- READ SLOTS. -/
def State.slotsData (s : State) : List Byte :=
  (s.smu.map.toList.flatMap SlotEntry.data) ++ s.smu.holdings.toList.flatMap Holding.data

def AnnEntry.data (e : AnnEntry) : List Byte :=
  withPresence 1 (e.tag.map fun t => [t]) ++ [annStateCode e.state] ++ withPresence 1 (e.seq.map fun q => [q]) ++
    withPresence 1 (e.cls.map fun c => [classCode c]) ++ withPresence 3 (e.target.map Target.bytes) ++
    stampBytes e.stamp ++ [b8 e.absence] ++ be16 e.age ++ [b8 e.text.length] ++ e.text

/-- The zones whose mode is NIGHT, as a mask. -/
def nightMask (zones : Table 16 ZoneMode) : Nat :=
  ((indices 16).map fun z => if zones.get z = .night then 2 ^ z.val else 0).sum

/-- READ TABLE. -/
def State.tableData (s : State) : List Byte :=
  (s.anu.entries.toList.flatMap AnnEntry.data) ++ be16 (nightMask s.anu.zones)

/-- READ BERTH, context. -/
def State.contextData (s : State) (b : Fin 4) : List Byte :=
  let x := s.bcu.get b
  [b8 (s.berthCfg b).zone, choiceCode x.choice, orAbsent (x.pendingChoice.map choiceCode)] ++
    timerBytes x.pendingTimer ++
    [levelCode x.userLevel, Bool.code (s.headsetPresent b), b8 x.stop, lampCode x.lamp]

/-- READ BERTH, wake. -/
def State.wakeData (s : State) (b : Fin 4) : List Byte :=
  let w := s.wku.get b
  [wakeCode w.state, b8 w.base] ++ timerBytes (w.hold.map (·.2))

/-- READ BERTH, feed. -/
def State.feedData (s : State) (b : Fin 4) : List Byte :=
  let f := s.feed b
  [feedCode f.state, orAbsent f.video] ++ be16 (queueBytes f.queue) ++ timerBytes f.waitKey ++
    [baseCode f.base, orAbsent (f.overlay.map fun o => sourceCode o.source),
      orAbsent (f.overlay.map fun o => phaseCode o.phase)]

/-- READ BERTH, levels. -/
def State.levelData (s : State) (b : Fin 4) : List Byte :=
  let m := s.mix.get b
  [levelCode m.programme.cur, levelCode m.programme.target, levelCode m.headset.cur, levelCode m.headset.target,
    levelCode m.pillow.cur, levelCode m.pillow.target, duckCode m.duck] ++ timerBytes m.hold

/-- READ BERTH, follow record. -/
def Follow.data (f : Follow) : List Byte :=
  [orAbsent (f.entry.map fun i => b8 i.val), Bool.code f.headset, Bool.code f.pillow, orAbsent (f.cls.map classCode)]

/-- READ BERTH. -/
def State.berthData (s : State) (b : Fin 4) : List Byte :=
  s.contextData b ++ s.wakeData b ++ s.feedData b ++ s.levelData b ++ (s.anu.follow.get b).data

def MissedEntry.data (e : MissedEntry) : List Byte := [b8 e.node, b8 e.berth, b8 e.stop] ++ be16 e.age

/-- READ MISSED. -/
def State.missedData (s : State) : List Byte := b8 s.cmu.missed.length :: s.cmu.missed.flatMap MissedEntry.data

/-! ### Commands (R203, R204) -/

/-- A reply begins (R203): its bytes are those of one instant. -/
def State.reply (code : Byte) (st : Status) (data : List Byte) (s : State) : State :=
  { s with svl := { s.svl with reply := some (replyFrame code st data) } }

def State.replyOk (code : Byte) (data : List Byte) (s : State) : State := s.reply code .ok data

/-- R203: a completed command of kind `k` is taken: it executes, or it is discarded while a reply is in progress. A
command of another kind, or none, is not this event. -/
def State.takeCommand (k : ServiceCommand) (effect : List Byte → State → State) (s : State) : State :=
  match s.svl.command with
  | none => s
  | some c =>
    if classify c = k then
      let s' := { s with svl := { s.svl with command := none } }
      if s'.replying then s'.bump .linkDiscards else effect c s'
    else s

/-- SEND (R67): arguments kind, length, payload. -/
def State.sendEffect (c : List Byte) (s : State) : State :=
  let kind := c.getD 1 0
  let payload := c.drop 3
  match if (c.getD 2 0).toNat = payload.length then parseMessage kind payload else none with
  | none => s.reply 0x01 .bad []
  | some m =>
    if 4 ≤ s.cmu.serviceItems then s.reply 0x01 .busy [] else (s.appendServiceMessage m).replyOk 0x01 []

def State.takeSend (s : State) : State := s.takeCommand .send State.sendEffect

def execSend (s : State) : Host.Outcome State Fault Refusal := .next s.takeSend

/-- READ NODE. -/
def State.takeReadNode (s : State) : State := s.takeCommand .readNode fun _ s => s.replyOk 0x02 s.nodeData

def execReadNode (s : State) : Host.Outcome State Fault Refusal := .next s.takeReadNode

/-- READ SLOTS. -/
def State.takeReadSlots (s : State) : State := s.takeCommand .readSlots fun _ s => s.replyOk 0x03 s.slotsData

def execReadSlots (s : State) : Host.Outcome State Fault Refusal := .next s.takeReadSlots

/-- READ TABLE. -/
def State.takeReadTable (s : State) : State := s.takeCommand .readTable fun _ s => s.replyOk 0x04 s.tableData

def execReadTable (s : State) : Host.Outcome State Fault Refusal := .next s.takeReadTable

/-- R204: a command that names a berth: BAD above 3, ABSENT when it is not configured. -/
def State.withBerth (code : Byte) (effect : Fin 4 → State → State) (c : List Byte) (s : State) : State :=
  let n := (c.getD 1 0).toNat
  if h : n < 4 then if s.configured ⟨n, h⟩ then effect ⟨n, h⟩ s else s.reply code .absent [] else s.reply code .bad []

/-- READ BERTH. -/
def State.takeReadBerth (s : State) : State :=
  s.takeCommand .readBerth (State.withBerth 0x05 fun b s => s.replyOk 0x05 (s.berthData b))

def execReadBerth (s : State) : Host.Outcome State Fault Refusal := .next s.takeReadBerth

/-- READ MISSED. -/
def State.takeReadMissed (s : State) : State := s.takeCommand .readMissed fun _ s => s.replyOk 0x06 s.missedData

def execReadMissed (s : State) : Host.Outcome State Fault Refusal := .next s.takeReadMissed

/-- RESET BERTH (R205): the berth reset of every block, and then the reply. -/
def State.takeResetBerth (s : State) : State :=
  s.takeCommand .resetBerth (State.withBerth 0x07 fun b s => (s.berthReset b).replyOk 0x07 [])

def execResetBerth (s : State) : Host.Outcome State Fault Refusal := .next s.takeResetBerth

/-- R206: every counter becomes 0. -/
def State.clearCounters (s : State) : State := { s with counters := Table.replicate 24 0 }

/-- CLEAR COUNTERS. -/
def State.takeClearCounters (s : State) : State := s.takeCommand .clearCounters fun _ s => s.clearCounters.replyOk 0x08 []

def execClearCounters (s : State) : Host.Outcome State Fault Refusal := .next s.takeClearCounters

/-- UNKNOWN_COMMAND (R204): BAD with the command code that was received. -/
def State.takeUnknown (s : State) : State := s.takeCommand .unknown fun c s => s.reply (c.getD 0 0) .bad []

def execUnknownCommand (s : State) : Host.Outcome State Fault Refusal := .next s.takeUnknown

/-! ### The receiver (R202) -/

/-- R202: a cycle tick counts the gap timer. -/
def State.svlTick (s : State) : State := { s with svl := { s.svl with gap := countDown s.svl.gap } }

/-- GAP_TIMER_EXPIRY (R202): due when the gap timer has run out: the frame in progress is abandoned. -/
def State.takeGap (s : State) : State :=
  if expired s.svl.gap then { s with svl := { s.svl with gap := none, rx := [] } } else s

def execGapTimerExpiry (s : State) : Host.Outcome State Fault Refusal := .next s.takeGap

/-- R202: the receiver reads SRX: in RUNNING with the link configured on. -/
def State.linkReads (s : State) : Bool := s.running && s.cfg.linkOn

/-- R202: one byte at its stop bit. A frame in progress is its length byte and what has followed it. -/
def ServiceLink.receive (byte : Byte) (stop : Bool) (x : ServiceLink) : ServiceLink :=
  let x := { x with gap := some 21 }
  if stop = false then { x with rx := [] }
  else
    match x.rx with
    | [] => if 1 ≤ byte.toNat ∧ byte.toNat ≤ 64 then { x with rx := [byte] } else x
    | n :: body =>
      if body.length = n.toNat then
        if byte = xorAll (n :: body) then { x with rx := [], command := some body } else { x with rx := [] }
      else { x with rx := n :: body ++ [byte] }

def State.linkByte (byte : Byte) (stop : Bool) (s : State) : State :=
  if s.linkReads then { s with svl := s.svl.receive byte stop } else s

/-- R203: the stop bit of the reply's last byte has gone out. -/
def State.replyDone (s : State) : State := { s with svl := { s.svl with reply := none } }

end Sys2Proof.Machine
end

