-- ==== Sys2Proof/Machine/Events.lean ====
section
/-!
DEFINITION. Machine/Events.lean: the events that the machine's own state has made due (accepted inputs, expired timers,
dispatched messages, delivered records, a completed service frame), and taking them.
-/

namespace Sys2Proof.Machine

/-- One due event is taken, as its row's command takes it; an event that is not due changes nothing. -/
def takeEvent (e : Event) (s : State) : State :=
  match e with
  | .framesSinceForeign => s.takeFramesSinceForeign
  | .framesInListen => s.takeFramesInListen
  | .recordDelivered => s.takeRecord
  | .present => s.takePresent
  | .withdraw => s.takeWithdraw
  | .berthSet => s.takeBerthSet
  | .zoneMode => s.takeZoneMode
  | .card => s.takeCard
  | .wakeMissed => s.takeWakeMissed
  | .wakeClear => s.takeWakeClear
  | .fading i => s.takeFading i
  | .descriptionAge i => s.takeDescriptionAge i
  | .entry0Fade => s.takeEntry0Fade
  | .missCount l => s.takeMissCount l
  | .backoff h => s.takeBackoff h
  | .secondsPrescaler => s.takeSecondsPrescaler
  | .talkActivation c => s.takeTalkActivation c
  | .talkDeactivation c => s.takeTalkDeactivation c
  | .alertAccepted => s.takeAlert
  | .headsetDetect b => s.takeHeadsetDetect b
  | .volPress b d => s.takeVolPress b d
  | .volRelease b d => s.takeVolRelease b d
  | .channelPress b d => s.takeChannelPress b d
  | .ackPress b => s.takeAckPress b
  | .buttonRelease b k => s.takeButtonRelease b k
  | .repeatTimer b d => s.takeRepeatTimer b d
  | .pendingTimer b => s.takePendingTimer b
  | .flashPhase b => s.takeFlashPhase b
  | .rampStep b l => s.takeRampStep b l
  | .duckHold b => s.takeDuckHold b
  | .holdTimer b => s.takeHoldTimer b
  | .waitKeyTimer b => s.takeWaitKeyTimer b
  | .cardDuration b => s.takeCardDuration b
  | .linger b => s.takeLinger b
  | .gapTimer => s.takeGap
  | .command k =>
    match k with
    | .send => s.takeSend
    | .readNode => s.takeReadNode
    | .readSlots => s.takeReadSlots
    | .readTable => s.takeReadTable
    | .readBerth => s.takeReadBerth
    | .readMissed => s.takeReadMissed
    | .resetBerth => s.takeResetBerth
    | .clearCounters => s.takeClearCounters
    | .unknown => s.takeUnknown

/-! ### What is due -/

/-- An event, if its condition holds. -/
def dueIf (c : Bool) (e : Event) : List Event := if c then [e] else []

/-- R76: the row that a dispatched message belongs to. -/
def messageEvent : Message → Event
  | .present .. => .present
  | .withdraw .. => .withdraw
  | .berthSet .. => .berthSet
  | .zoneMode .. => .zoneMode
  | .card .. => .card
  | .wakeMissed .. => .wakeMissed
  | .wakeClear .. => .wakeClear

/-- R125: the row that an accepted change of an input belongs to. -/
def inputEvent (b : Fin 4) (i : PanelInput) (press : Bool) : Event :=
  match i with
  | .headset => .headsetDetect b
  | .volUp => if press then .volPress b .up else .volRelease b .up
  | .volDown => if press then .volPress b .down else .volRelease b .down
  | .chUp => if press then .channelPress b .up else .buttonRelease b .chUp
  | .chDown => if press then .channelPress b .down else .buttonRelease b .chDown
  | .ack => if press then .ackPress b else .buttonRelease b .ack

def panelInputs : List PanelInput := [.headset, .volUp, .volDown, .chUp, .chDown, .ack]

/-- R126: what one berth's tick has made due, in the order of that rule. -/
def Berth.due (b : Fin 4) (x : Berth) : List Event :=
  (panelInputs.flatMap fun i => dueIf (x.input i).due (inputEvent b i (!(x.input i).active))) ++
    dueIf (expired x.repUp) (.repeatTimer b .up) ++ dueIf (expired x.repDown) (.repeatTimer b .down) ++
    dueIf (expired x.pendingTimer) (.pendingTimer b) ++ dueIf (expired x.flash) (.flashPhase b)

def MixBerth.due (b : Fin 4) (m : MixBerth) : List Event :=
  dueIf (expired m.programme.counter) (.rampStep b .programme) ++ dueIf (expired m.headset.counter) (.rampStep b .headset) ++
    dueIf (expired m.pillow.counter) (.rampStep b .pillow) ++ dueIf (expired m.hold) (.duckHold b)

def Feed.due (b : Fin 4) (f : Feed) : List Event :=
  dueIf (expired f.waitKey) (.waitKeyTimer b) ++ dueIf (f.overlay.any Overlay.durationOver) (.cardDuration b) ++
    dueIf (f.overlay.any Overlay.lingerOver) (.linger b)

def Talk.due (c : Fin 4) (t : Talk) : List Event :=
  dueIf t.deb.due (if t.deb.active then .talkDeactivation c else .talkActivation c)

/-- R92: what an evaluation has made due of one entry among 1 to 15. -/
def AnnEntry.due (i : Fin 16) (e : AnnEntry) : List Event :=
  dueIf (decide (e.state = .fading ∧ 8 ≤ e.absence)) (.fading i) ++
    dueIf (decide (e.state = .described ∧ 2000 ≤ e.age)) (.descriptionAge i)

/-- The link, the records and the messages. -/
def State.dueTrunk (s : State) : List Event :=
  dueIf s.foreignDue .framesSinceForeign ++ dueIf s.listenDue .framesInListen ++
    s.sfu.inbox.map (fun _ => Event.recordDelivered) ++ s.cmu.dispatch.map messageEvent

/-- The announcement table, the lanes, the holdings, the prescaler and the debounced lines. -/
def State.dueTables (s : State) : List Event :=
  (announcementIndices.flatMap fun i => (s.anu.entries.get i).due i) ++
    dueIf (decide ((s.anu.entries.get 0).state = .fading ∧ 8 ≤ (s.anu.entries.get 0).absence)) .entry0Fade ++
    ((indices 24).flatMap fun l => dueIf (s.lcu.lanes.get l).missDue (.missCount l)) ++
    ((indices 11).flatMap fun h => dueIf ((s.holding h).backoffDue && decide ((s.holding h).state = .backoff)) (.backoff h)) ++
    dueIf (decide (s.cmu.prescaler = 0)) .secondsPrescaler ++
    ((indices 4).flatMap fun c => (s.asp.talk.get c).due c) ++
    dueIf s.anu.alert.due .alertAccepted

/-- The berths: panel, mixer, wake and screen. -/
def State.dueBerths (s : State) : List Event :=
  ((indices 4).flatMap fun b => (s.bcu.get b).due b) ++ ((indices 4).flatMap fun b => (s.mix.get b).due b) ++
    ((indices 4).flatMap fun b => dueIf (s.wku.get b).holdOver (.holdTimer b)) ++
    (indices 4).flatMap fun b => (s.feed b).due b

/-- The service link. -/
def State.dueLink (s : State) : List Event :=
  dueIf (expired s.svl.gap) .gapTimer ++
    match s.svl.command with
    | some c => [.command (classify c)]
    | none => []

/-- Every event that is due, in the order in which the model takes them (notes/assumptions/2.md). -/
def State.dueEvents (s : State) : List Event := s.dueTrunk ++ s.dueTables ++ s.dueBerths ++ s.dueLink

/-- Every due event is taken. -/
def State.settle (s : State) : State := s.dueEvents.foldl (fun s e => takeEvent e s) s

/-- R5 to R7: the bit time that the current frame reaches before the line must answer: the recognition of the node's own
mark; the expiry of the frame timer; the look at bit time 496; and after a late run found there, the latest end of it. -/
def Tlu.bitTimeLimit (t : Tlu) : Nat :=
  if t.ownMark.isSome then 13 else if t.expired = false then 480 else if t.lateRun = false then 496 else 508

/-- One bit time passes (R5), up to the instant at which a command of the line is due. -/
def Tlu.bitTimePasses (t : Tlu) : Tlu :=
  if t.bitTime < t.bitTimeLimit then { t with bitTime := t.bitTime + 1 } else t

/-- R196: one CCLK period of the configuration read passes, of 1040. -/
def Loader.periodPasses (l : Loader) : Loader :=
  if l.reading = true ∧ l.period < 1040 then { l with period := l.period + 1 } else l

/-- The block's clock (notes/assumptions/3.md): a bit time of the frame, or in LOADING, where the frame timer does not run
(R5), a period of CCLK. -/
def State.timePasses (s : State) : State :=
  if s.tlu.link = .loading then { s with cfl := s.cfl.periodPasses } else { s with tlu := s.tlu.bitTimePasses }

/-- What happens when no command waits: the first due event, or the clock. -/
def State.idle (s : State) : State :=
  match s.dueEvents with
  | e :: _ => takeEvent e s
  | [] => s.timePasses

end Sys2Proof.Machine
end

