-- ==== Sys2Proof/Machine/Frame.lean ====
section
/-!
DEFINITION. Machine/Frame.lean: what a frame start does to every block (R18 and the steps that spec/95 lists within
MARK_RECOGNISED, FLYWHEEL and LOADING_END): the cycle tick, the data frame end, the feeds and the grant point.
-/

namespace Sys2Proof.Machine

/-- What a frame start ends: the frame number, whether a mark cut it, how many of its slots had completed, and whether the
link was in LISTEN before the start. -/
structure FrameEnd where
  ended : Nat
  abandoned : Bool
  done : Nat
  wasListen : Bool
deriving DecidableEq, Repr

/-- R18: the frame that ends is numbered 1 to 24. -/
def FrameEnd.isData (e : FrameEnd) : Bool := decide (1 ≤ e.ended)

def takeAll (es : List Event) (s : State) : State := es.foldl (fun s e => takeEvent e s) s

/-- R13, R14: the link expiry that this frame start may make due. -/
def State.takeLink (s : State) : State := s.takeFramesSinceForeign.takeFramesInListen

/-- R51, R94, R125, R126 and the millisecond timers: what is counted and sampled at a cycle tick. It comes before everything
that falls at the same instant, so a counter loaded there first counts at the next tick (R145, R147); that the hold timer
does so too is read from those rules (notes/assumptions/25.md). -/
def State.cycleTick (fs : FrameStart) (s : State) : State :=
  let s := { s with tlu := s.tlu.tick }
  let s := (s.bcuTick fs.pins).sampleTalk fs.pins.talkHigh
  let s := if fs.order.alrtLate then s else s.sampleAlrt fs.pins.alrtPeer
  let s := s.mixTick.wkuTick.sfuTick
  let s := { s with cmu := { s.cmu with prescaler := s.cmu.prescaler - 1 } }
  s.svlTick

/-- R18, R61, R71, R156: the data frame end reaches the Mixer, the RSP and the CMU. -/
def State.dataFrameEnd (e : FrameEnd) (o : FrameOrder) (s : State) : State :=
  let s := s.mixFrameEnd.rspFrameEnd e.ended
  if o.cmuStartFirst then s else s.cmuFrameEnd e.ended e.abandoned

/-- R36, R44, R48, R60, R70, R158: the frame start reaches the ports, the CMU and the Mixer's outputs. The start of frame
0 fixes no byte. -/
def State.feedFrame (e : FrameEnd) (o : FrameOrder) (s : State) : State :=
  let s := s.aspFrameStart.mixFrameStart
  let s := if s.tlu.frame = 0 then s else s.rspFeed.cmuFeed
  if e.isData && o.cmuStartFirst then s.cmuFrameEnd e.ended e.abandoned else s

/-- R25, R29, R89: the SMU's tick, and the evaluation of a cycle tick in LISTEN. -/
def State.tablesTick (listen : Bool) (s : State) : State :=
  let s := s.smuTick
  if listen then s.evaluate else s

/-- The link is LISTEN at this point, or a block takes the tick with the link as it was (R89, R132). -/
def State.listens (s : State) (e : FrameEnd) (old : Bool) : Bool := decide (s.tlu.link = .listen) || (e.wasListen && old)

/-- FRAME_START (R8): everything that falls at the start of the frame whose number the TLU has just set, in the order that
`fs` names where the manual leaves one open. -/
def State.startFrame (fs : FrameStart) (e : FrameEnd) (s : State) : State :=
  let o := fs.order
  let tick := decide (s.tlu.frame = 0)
  let s := s.discardCollected
  let s := if tick then s.cycleTick fs else s
  let s := if o.linkFirst then s.takeLink else s
  let s := if tick && s.listens e o.bcuOld then s.bcuCompletions else s
  let s := if e.isData then s.lcuFrameEnd e.abandoned e.done else s
  let s := takeAll o.beforeEnd s
  let s := if tick && o.alrtLate then s.sampleAlrt fs.pins.alrtPeer else s
  let s := if e.isData then s.dataFrameEnd e o else s
  let s := takeAll o.beforeTick s
  let s := if tick then s.tablesTick (s.listens e o.anuOld) else s
  let s := s.feedFrame e o
  if s.tlu.frame = 13 ∧ s.onTrunk then s.grantPoint else s

end Sys2Proof.Machine
end

