-- ==== Sys2Proof/Machine/Trunk.lean ====
section
/-!
DEFINITION. Machine/Trunk.lean: the trunk's commands: the timer's expiry, marks, the flywheel, slot completions and
read-back (chapters 1 and 2). Each stands at an instant of the frame: what fell due before it is taken first.
-/

namespace Sys2Proof.Machine

/-! ### The frame timer and the guard (R5, R6) -/

/-- FRAME_TIMER_EXPIRY (R6). The timer does not run in LOADING, and expires once (R5). -/
def execFrameTimerExpiry (g : GuardReading) (s : State) : Host.Outcome State Fault Refusal :=
  if s.tlu.link = .loading then .next s else .next (s.settle.timerExpiry g)

/-- GUARD_RUN_ENDS_SHORT (R6). -/
def execGuardRunEndsShort (s : State) : Host.Outcome State Fault Refusal := .next s.settle.guardRunEnds

/-- READ_BACK_MISMATCH (R16, R17). -/
def execReadBackMismatch (k : Fin 40) (s : State) : Host.Outcome State Fault Refusal := .next (s.settle.readBack k)

/-! ### Frame starts without a mark (R7) -/

/-- R7: the flywheel is for a node that does not drive marks: follow-only, or in LISTEN. -/
def State.flywheels (s : State) : Bool := decide (s.tlu.link ≠ .loading) && !s.mayMark

/-- R7, R12 to R14: the TLU at a flywheel start, at this bit time of the next frame. -/
def Tlu.flywheel (bitTime : Nat) (t : Tlu) : Tlu :=
  let t := { t with candidate := none }
  let t := if t.link = .listen then { t with inListen := t.inListen + 1 }
    else { t with sinceForeign := countForeign false t.sinceForeign }
  t.newFrame (nextFrame t.frame) bitTime true

/-- What a frame start ends, as the state before it shows. -/
def State.frameEnd (s : State) (abandoned : Bool) : FrameEnd :=
  ⟨s.tlu.frame, abandoned, s.tlu.slotsDone, decide (s.tlu.link = .listen)⟩

def State.flywheelStart (bitTime : Nat) (fs : FrameStart) (s : State) : State :=
  { s with tlu := s.tlu.flywheel bitTime }.startFrame fs (s.frameEnd false)

/-- R5, R7: at bit time 496 a dominant run that began from 480 on stands: the node waits for it. -/
def Tlu.standAt496 (t : Tlu) : Tlu := { t with bitTime := 496, lateRun := true }

/-- FLYWHEEL (R7). The frame that it starts is dated from bit time 480: bit time 496 is its bit time 16, and the end of a
late run at bit time 497 + n is its bit time 17 + n. Once a late run has been found at 496, only its end starts the frame. -/
def execFlywheel (fs : FlywheelStart) (s : State) : Host.Outcome State Fault Refusal :=
  let s := s.settle
  if s.flywheels then
    match fs.late with
    | .clear => if s.tlu.lateRun then .next s else .next (s.flywheelStart 16 fs.start)
    | .standing => .next { s with tlu := s.tlu.standAt496 }
    | .ended n => .next (s.flywheelStart (17 + n.val) fs.start)
  else .next s

/-! ### Marks (R3, R4, R8, R10 to R14) -/

/-- R3: the mark that a dominant run makes: none short of 12 bit times, F when the bit time after the twelfth reads
recessive, and C when the run reaches 13. Dominant data bits directly before a mark lengthen its run, and marks driven
together have the longer of their runs. -/
def markForm (run : Nat) : Option MarkForm :=
  if run < 12 then none else if run = 12 then some .f else some .c

/-- R4: a mark that began at bit times 1 to 415. -/
def isMidFrame (start : Nat) : Bool := decide (1 ≤ start ∧ start ≤ 415)

/-- R4: the mark that the node itself began to drive at this bit time. -/
def State.isOwnMark (s : State) (start : Nat) : Bool := decide (start = 0) && s.tlu.ownMark.isSome

/-- R12 to R14: the link state and its counts after a mark that is followed. -/
def Tlu.followMark (form : MarkForm) (mid foreign : Bool) (t : Tlu) : Tlu :=
  match t.link with
  | .loading => t
  | .listen =>
    let a := acquire form mid t.candidate
    if a.2 then { t with candidate := a.1, link := .locked, sinceForeign := 0 }
    else { t with candidate := a.1, inListen := t.inListen + 1 }
  | .locked => { t with sinceForeign := countForeign foreign t.sinceForeign }
  | .leading =>
    if foreign then { t with link := .locked, sinceForeign := 0 }
    else { t with sinceForeign := countForeign false t.sinceForeign }

/-- R8, R10: the counters of a mark that is followed: none in LISTEN. -/
def State.countMark (form : MarkForm) (mid : Bool) (s : State) : State :=
  if s.onTrunk then
    let s' := if mid then s.bump .earlyMarks else s
    if isSlip form s.tlu.frame then s'.bump .cycleSlips else s'
  else s

/-- R3, R10: a mark is followed: the frame it ends is abandoned when it is a mid-frame mark, and its own frame begins,
at bit time 13 when it is recognised. -/
def State.markStart (form : MarkForm) (start : Nat) (fs : FrameStart) (s : State) : State :=
  let mid := isMidFrame start
  let e := s.frameEnd mid
  let s' := s.countMark form mid
  { s' with tlu := (s'.tlu.followMark form mid (!s.isOwnMark start)).newFrame (frameAfter form s.tlu.frame) 13 true }.startFrame
    fs e

/-- R4: the mark that opened the current frame, which has been taken already. -/
def State.isOpeningMark (s : State) (start : Nat) : Bool :=
  decide (start = 0) && s.tlu.ownMark.isNone && s.tlu.marked

/-- R3, R4, R10 to R14: a recognised mark. In LOADING none is followed. Under IGNORE a mid-frame mark is disregarded on the
trunk (R11). -/
def State.takeMark (form : MarkForm) (start : Nat) (fs : FrameStart) (s : State) : State :=
  if s.tlu.link = .loading ∨ s.isOpeningMark start then s
  else if isMidFrame start ∧ s.onTrunk ∧ s.cfg.trunkPolicy = .ignore then s.bump .ignoredMarks
  else s.markStart form start fs

/-- MARK_RECOGNISED (R3). A run that makes no mark changes nothing. -/
def execMarkRecognised (run start : Nat) (fs : FrameStart) (s : State) : Host.Outcome State Fault Refusal :=
  if markStartWf start then
    let s := s.settle
    match markForm run with
    | some form => .next (s.takeMark form start fs)
    | none => .next s
  else .fault .illFormedCommand

/-! ### Slot completions (R9) -/

/-- R5: the bit time at which slot k has ended, its turnaround included. -/
def slotEnd (k : Fin 40) : Nat := 26 + 10 * k.val

/-- R16, R17: the bits driven against the bits read: eight in frame 0, nine in a data frame. Slot 0 of a frame that started at
the end of a late run is compared whole too, the model's choice (notes/assumptions/35.md). -/
def State.readsDifferent (s : State) (k : Fin 40) (line : SlotBits) : Bool :=
  match s.drove k with
  | some (_, b, n) => decide (b ≠ line.byte) || (decide (s.tlu.frame ≠ 0) && decide (n ≠ line.ninth))
  | none => false

/-- R16, R17: a mismatch that no READ_BACK_MISMATCH has reported shows in the bits of the completion. -/
def State.withReadBack (k : Fin 40) (line : SlotBits) (s : State) : State :=
  if s.readsDifferent k line then s.readBack k else s

/-- R16, R17: the holding that lost slot `k`. -/
def State.loserOf (s : State) (k : Fin 40) : Option (Fin 11) := s.tlu.mismatch.get k

/-- R16: the read-back result of a slot of the tag frame: lost, clean, or none for a slot the node did not drive. -/
def State.resultOf (s : State) (k : Fin 40) : Option SlotResult :=
  match s.loserOf k with
  | some h => some ⟨k.val, h, true⟩
  | none => (s.drove k).map fun d => ⟨k.val, d.1, false⟩

/-- R5, R9: the slot is over, `wait` bit times after its turnaround, and with it a mismatch in it; the bit time never runs
back. -/
def State.slotOver (k : Fin 40) (wait : Fin 13) (s : State) : State :=
  { s with tlu := { s.tlu with
      slotsDone := k.val + 1
      bitTime := max s.tlu.bitTime (slotEnd k + wait.val)
      mismatch := s.tlu.mismatch.set k none } }

/-- MAP_UPDATE (R30): the SMU, then the LCU, the receivers, the BCU and the ANU take the new map. -/
def State.mapUpdate (s : State) : State := s.smuMapUpdate.receiversReassign.lcuMapUpdate.bcuCompletions.evaluate

/-- R22, R30: a slot of the tag frame; slot 39 gives the map update. -/
def State.tagSlot (k : Fin 40) (byte : Byte) (wait : Fin 13) (s : State) : State :=
  let s := (s.collect k byte (s.resultOf k)).slotOver k wait
  if k.val = 39 then s.mapUpdate else s

/-- R25, R38, R74, R113: a slot of a data frame. -/
def State.dataSlot (k : Fin 40) (byte : Byte) (ninth : Bool) (wait : Fin 13) (s : State) : State :=
  let loser := s.loserOf k
  let s := (s.slotOver k wait).countParity k byte ninth
  let s := match loser with
    | some h => s.collide h
    | none => s
  (s.lcuTake k.val byte ninth).receiversTake k.val byte ninth

/-- SLOT_COMPLETION (R9): in LOCKED and LEADING. Slots complete in order: one that has completed in this frame, or was passed
over, completes no more. -/
def execSlotCompletion (k : Fin 40) (line : SlotBits) (wait : Fin 13) (s : State) : Host.Outcome State Fault Refusal :=
  let s := s.settle
  if s.onTrunk ∧ s.tlu.slotsDone ≤ k.val then
    let s := s.withReadBack k line
    .next (if s.tlu.frame = 0 then s.tagSlot k line.byte wait else s.dataSlot k line.byte line.ninth wait)
  else .next s

end Sys2Proof.Machine
end

