-- ==== Sys2Proof/Machine/Cfl.lean ====
section
/-!
DEFINITION. Machine/Cfl.lean: device reset, the configuration read and the end of LOADING (chapter 11.1 to 11.3); and the
service link's bytes and reply end, which come after whatever fell due before them (R202, R203).
-/

namespace Sys2Proof.Machine

/-! ### Reset and loading (R195 to R200) -/

/-- R195: every block in its reset state; the commands that wait are the sender's and stay. -/
def State.deviceReset (s : State) : State := { State.reset with pending := s.pending }

/-- DEVICE_RESET (R195). -/
def execDeviceReset (s : State) : Host.Outcome State Fault Refusal := .next s.deviceReset

/-- R196: the read begins, at its first CCLK period. -/
def Loader.start (l : Loader) : Loader := { l with reading := true, period := 0 }

/-- LOADING_START (R195, R196): RST rises and the read begins. In RUNNING, and while the read goes on, RST is high already. -/
def execLoadingStart (s : State) : Host.Outcome State Fault Refusal :=
  if s.running ∨ s.cfl.reading then .next s else .next { s with cfl := s.cfl.start }

/-- R196, R200: the configuration of an image, with the corrections counted. -/
def loadImage (image : List Byte) : Config × Nat := if imageGood image then readImage image else (Config.defaults, 0)

/-- R197: straps of 0 or 63 give no address. -/
def noAddress (straps : BitVec 6) : Bool := decide (straps = 0 ∨ straps = 63)

/-- R197, R200: the loader at the end of LOADING. -/
def Loader.finish (image : List Byte) (straps : BitVec 6) (_old : Loader) : Loader where
  node := .running
  reading := false
  period := 0
  address := straps.toNat
  config := if noAddress straps then (loadImage image).1.withoutAddress else (loadImage image).1
  fault := !imageGood image || noAddress straps

/-- R96: the zone night mask. -/
def zonesOf (mask : BitVec 16) : Table 16 ZoneMode :=
  Table.ofFn fun z => if mask.getLsbD z.val then .night else .day

/-- R140, R161, R175, R194: a configured berth takes its berth reset values; another takes the base level W0. -/
def State.loadBerth (b : Fin 4) (s : State) : State :=
  if s.configured b then (((s.bcuReset b).mixReset b).wkuReset b).sfuReset b else s.wkuReset b

/-- R200: the configuration is handed to every block. -/
def State.configure (image : List Byte) (straps : BitVec 6) (s : State) : State :=
  let s := { s with cfl := s.cfl.finish image straps }.bumpN .configurationFixes (loadImage image).2
  let s := { s with anu := { s.anu with zones := zonesOf s.cfg.nightMask } }
  (indices 4).foldl (fun s b => s.loadBerth b) s

/-- R12, R195: the TLU enters LISTEN and starts frame 0, its first frame in LISTEN, without a mark. -/
def State.firstFrame (fs : FrameStart) (s : State) : State :=
  let s := s.enterListen
  { s with tlu := { (s.tlu.newFrame 0 0 false) with inListen := 1 } }.startFrame fs ⟨0, false, 0, false⟩

/-- LOADING_END (R196). Without a read in progress there is no last bit. -/
def execLoadingEnd (image : List Byte) (straps : BitVec 6) (fs : FrameStart) (s : State) :
    Host.Outcome State Fault Refusal :=
  if imageWf image then
    if s.cfl.reading then .next ((s.configure image straps).firstFrame fs) else .next s
  else .fault .illFormedCommand

/-! ### The service link's line (R202, R203) -/

/-- SERVICE_LINK_BYTE (R202). -/
def execServiceLinkByte (byte : Byte) (stop : Bool) (s : State) : Host.Outcome State Fault Refusal :=
  .next (s.settle.linkByte byte stop)

/-- REPLY_END (R203). -/
def execReplyEnd (s : State) : Host.Outcome State Fault Refusal := .next s.settle.replyDone

end Sys2Proof.Machine
end

