-- ==== Sys2Proof/Machine/Dispatch.lean ====
section
/-!
DEFINITION. Machine/Dispatch.lean: one arm per command, each one direct call of its meaning.
-/

namespace Sys2Proof.Machine

def exec (i : Instr) (s : State) : Host.Outcome State Fault Refusal :=
  match i with
  | .deviceReset => Sys2Proof.Machine.execDeviceReset s
  | .loadingStart => Sys2Proof.Machine.execLoadingStart s
  | .loadingEnd image straps fs => Sys2Proof.Machine.execLoadingEnd image straps fs s
  | .frameTimerExpiry g => Sys2Proof.Machine.execFrameTimerExpiry g s
  | .flywheel fs => Sys2Proof.Machine.execFlywheel fs s
  | .markRecognised run start fs => Sys2Proof.Machine.execMarkRecognised run start fs s
  | .framesSinceForeignExpiry => Sys2Proof.Machine.execFramesSinceForeignExpiry s
  | .framesInListenExpiry => Sys2Proof.Machine.execFramesInListenExpiry s
  | .slotCompletion k line wait => Sys2Proof.Machine.execSlotCompletion k line wait s
  | .fadingExpiry e => Sys2Proof.Machine.execFadingExpiry e s
  | .descriptionAgeExpiry e => Sys2Proof.Machine.execDescriptionAgeExpiry e s
  | .entry0FadeExpiry => Sys2Proof.Machine.execEntry0FadeExpiry s
  | .missCountLimit l => Sys2Proof.Machine.execMissCountLimit l s
  | .recordDelivered => Sys2Proof.Machine.execRecordDelivered s
  | .present => Sys2Proof.Machine.execPresent s
  | .withdraw => Sys2Proof.Machine.execWithdraw s
  | .berthSet => Sys2Proof.Machine.execBerthSet s
  | .zoneMode => Sys2Proof.Machine.execZoneMode s
  | .card => Sys2Proof.Machine.execCard s
  | .wakeMissed => Sys2Proof.Machine.execWakeMissed s
  | .wakeClear => Sys2Proof.Machine.execWakeClear s
  | .secondsPrescalerExpiry => Sys2Proof.Machine.execSecondsPrescalerExpiry s
  | .backoffExpiry h => Sys2Proof.Machine.execBackoffExpiry h s
  | .portFrameComplete bits => Sys2Proof.Machine.execPortFrameComplete bits s
  | .afsPulse => Sys2Proof.Machine.execAfsPulse s
  | .talkActivation c => Sys2Proof.Machine.execTalkActivation c s
  | .talkDeactivation c => Sys2Proof.Machine.execTalkDeactivation c s
  | .alertStateAccepted => Sys2Proof.Machine.execAlertStateAccepted s
  | .recordByteStrobe r rsor byte => Sys2Proof.Machine.execRecordByteStrobe r rsor byte s
  | .volPress b d => Sys2Proof.Machine.execVolPress b d s
  | .volRelease b d => Sys2Proof.Machine.execVolRelease b d s
  | .repeatTimerExpiry b d => Sys2Proof.Machine.execRepeatTimerExpiry b d s
  | .channelPress b d => Sys2Proof.Machine.execChannelPress b d s
  | .pendingTimerExpiry b => Sys2Proof.Machine.execPendingTimerExpiry b s
  | .ackPress b => Sys2Proof.Machine.execAckPress b s
  | .headsetDetectChange b => Sys2Proof.Machine.execHeadsetDetectChange b s
  | .flashPhaseExpiry b => Sys2Proof.Machine.execFlashPhaseExpiry b s
  | .rampStep b l => Sys2Proof.Machine.execRampStep b l s
  | .duckHoldExpiry b => Sys2Proof.Machine.execDuckHoldExpiry b s
  | .holdTimerExpiry b => Sys2Proof.Machine.execHoldTimerExpiry b s
  | .waitKeyTimerExpiry b => Sys2Proof.Machine.execWaitKeyTimerExpiry b s
  | .cardDurationExpiry b => Sys2Proof.Machine.execCardDurationExpiry b s
  | .lingerExpiry b => Sys2Proof.Machine.execLingerExpiry b s
  | .screenRecordSent e => Sys2Proof.Machine.execScreenRecordSent e s
  | .send => Sys2Proof.Machine.execSend s
  | .readNode => Sys2Proof.Machine.execReadNode s
  | .readSlots => Sys2Proof.Machine.execReadSlots s
  | .readTable => Sys2Proof.Machine.execReadTable s
  | .readBerth => Sys2Proof.Machine.execReadBerth s
  | .readMissed => Sys2Proof.Machine.execReadMissed s
  | .resetBerth => Sys2Proof.Machine.execResetBerth s
  | .clearCounters => Sys2Proof.Machine.execClearCounters s
  | .gapTimerExpiry => Sys2Proof.Machine.execGapTimerExpiry s
  | .replyEnd => Sys2Proof.Machine.execReplyEnd s
  | .buttonRelease b k => Sys2Proof.Machine.execButtonRelease b k s
  | .serviceLinkByte byte stop => Sys2Proof.Machine.execServiceLinkByte byte stop s
  | .unknownCommand => Sys2Proof.Machine.execUnknownCommand s
  | .screenRecordStart b => Sys2Proof.Machine.execScreenRecordStart b s
  | .readBackMismatch k => Sys2Proof.Machine.execReadBackMismatch k s
  | .guardRunEndsShort => Sys2Proof.Machine.execGuardRunEndsShort s

end Sys2Proof.Machine
end

