-- ==== Sys2Proof/Machine/Step.lean ====
section
/-!
DEFINITION. Machine/Step.lean: one step: the command at the front of the queue, or, when none waits, what falls due next.
-/

namespace Sys2Proof.Machine

/-- The first command that waits is executed on the rest of the queue. On an empty queue the first due event is taken, or
the clock runs (notes/assumptions/3.md). -/
def step (s : State) : Host.Outcome State Fault Refusal :=
  match s.pending with
  | c :: rest => exec c { s with pending := rest }
  | [] => .next s.idle

/-- The state with the command that a word spells at the front of its queue; unchanged where the word spells none. -/
def State.withFetchWord (s : State) (nbits w : Nat) : State :=
  match decodeTableWord nbits w with
  | some c => { s with pending := c :: s.pending }
  | none => s

end Sys2Proof.Machine
end

