-- ==== Sys2Proof/Safety.lean ====
section
/-!
DEFINITION. Safety.lean: the terms the claims use: when nothing waits; which commands start a frame; what a cycle tick, an
evaluation and a follow change leave; what the sources send; where the image lays its fields, and what a configuration gives
the berths; the demand list and its grants; the tables of the receivers and assemblers; and what a node's state keeps, from the
ranges that the manual gives its fields.
-/

namespace Sys2Proof

/-- A frame start at which no event and no link expiry is asked to come before the others. -/
def FrameStart.plain (fs : FrameStart) : Prop :=
  fs.order.linkFirst = false ∧ fs.order.beforeEnd = [] ∧ fs.order.beforeTick = []

namespace Machine

/-- No event has fallen due that its row's command has not taken. -/
def State.nothingDue (s : State) : Prop := s.dueEvents = []

/-- Command `c` starts frame `n` after a frame that no mark cut: the flywheel of a node that drives no marks (R7), or a mark (R3,
R4): the node's own on the trunk, or one that began at bit times 416 to 495; an F mark gives the next frame and a C mark
frame 0 (R8). -/
def StartsFrame (s : State) (fs : FrameStart) (n : Nat) (c : Instr) : Prop :=
  (c = .flywheel ⟨.clear, fs⟩ ∧ n = (s.tlu.frame + 1) % 25 ∧ s.tlu.lateRun = false ∧
    (s.tlu.link = .listen ∨ (s.tlu.link = .locked ∧ s.cfg.eligible = false))) ∨
  ∃ run start, c = .markRecognised run start fs ∧ 12 ≤ run ∧ n = (if run = 12 then (s.tlu.frame + 1) % 25 else 0) ∧
    ((416 ≤ start ∧ start ≤ 495 ∧ s.tlu.link ≠ .loading) ∨
      (start = 0 ∧ s.tlu.ownMark ≠ none ∧ (s.tlu.link = .locked ∨ s.tlu.link = .leading)))

/-- R16: the read-back result of slot 39 of the tag frame, read as `byte`: lost where it reads back different or its mismatch was
reported, clean where its tag reads back, and none where this node did not drive it. -/
def lastSlotResult (s : State) (byte : Byte) : List SlotResult :=
  match s.drove 39, s.tlu.mismatch.get 39 with
  | some (h, tag, _), reported =>
    if tag ≠ byte then [⟨39, h, true⟩] else [⟨39, reported.getD h, reported.isSome⟩]
  | none, some h => [⟨39, h, true⟩]
  | none, none => []

/-- An entry among 1 to 15 is FREE in `t` as R82 gives it, every follow of `s` that names it has ended, and the other
entries and follows are as they were (R88, R92, R101). -/
def EntryFreed (s t : State) (i : Fin 16) : Prop :=
  t.anu.entries.get i = { AnnEntry.free with freed := true } ∧
    (∀ j, j ≠ i → t.anu.entries.get j = s.anu.entries.get j) ∧
    (∀ b, (s.anu.follow.get b).entry = some i → t.anu.follow.get b = ⟨none, false, false, none⟩) ∧
    (∀ b, (s.anu.follow.get b).entry ≠ some i → t.anu.follow.get b = s.anu.follow.get b)

/-! ### What the configuration image says -/

/-- R199: 1 for a value out of its range, 0 for one in it. -/
def outOf (lo hi v : Nat) : Nat := if v < lo ∨ hi < v then 1 else 0

/-- R43: the tags that an ASP channel may carry. -/
def MayCarry (ch : Fin 8) (tag : Byte) : Prop :=
  tagKind tag = .audio ∨ (ch.val < 4 ∧ (tagKind tag = .alert ∨ tagKind tag = .announcement))

/-- R43, R56, R198, R199: the fields that the configuration `c` takes from a good image: each from its offset, brought into its
range. Fields that are not read are left open (notes/assumptions/31.md). -/
def ImageLaidOut (image : List Byte) (c : Config) : Prop :=
  let at_ (k : Nat) : Byte := image.getD k 0xFF
  let byte (k : Nat) : Nat := (at_ k).toNat
  let word (k : Nat) : Nat := 256 * byte k + byte (k + 1)
  let bit (k i : Nat) : Bool := (at_ k).getLsbD i
  let within (lo hi v : Nat) : Nat := max lo (min hi v)
  let tag (kind : TagKind) (k : Nat) : Option Byte := if tagKind (at_ k) = kind then some (at_ k) else none
  let n := within 0 16 (byte 19)
  (c.eligible = bit 1 0 ∧ (c.trunkPolicy = .ignore ↔ bit 1 1 = true) ∧ (c.portPolicy = .ignore ↔ bit 1 2 = true) ∧
    (c.aspTiming = .device ↔ bit 1 3 = true) ∧ c.linkOn = bit 1 4 ∧ c.berthCount = within 0 4 (byte 2)) ∧
  (∀ b : Fin 4, b.val < c.berthCount → let o := 3 + 4 * b.val
    c.berths.get b = ⟨within 1 16 (byte o), if byte (o + 1) < n then .entry (byte (o + 1)) else .off,
      within 0 48 (byte (o + 2) % 64), bit (o + 2) 7, within 0 48 (byte (o + 3))⟩) ∧
  (c.programme.length = n ∧ ∀ i p, c.programme[i]? = some p → let o := 20 + 3 * i
    p.audio = tag .audio o ∧ p.video = tag .video (o + 1) ∧ (p.video ≠ none → p.run = within 1 8 (byte (o + 2)))) ∧
  (∀ ch : Fin 8, let x := c.asp.get ch; let o := 68 + 4 * ch.val
    (x.enabled = true ↔ bit (o + 1) 0 = true ∧ MayCarry ch (at_ o)) ∧
    (x.enabled = true → x.tag = at_ o ∧ x.autoDescribe = bit (o + 1) 1) ∧
    (x.enabled = true → x.autoDescribe = true →
      x.cls = (if byte (o + 1) / 4 % 4 = 2 then .wake else if byte (o + 1) / 4 % 4 = 3 then .service else .crew) ∧
      x.target = (if byte (o + 1) / 16 % 4 = 0 then .all
        else if byte (o + 1) / 16 % 4 = 1 then .zones (BitVec.ofNat 16 (max 1 (word (o + 2))))
        else .stop (within 1 250 (word (o + 2)))))) ∧
  (∀ r : Fin 2, let x := c.rsp.get r; let o := 100 + 2 * r.val
    (x.enabled = true ↔ bit (o + 1) 7 = true ∧ tagKind (at_ o) = .video) ∧
    (x.enabled = true → x.tag = at_ o ∧ x.run = within 1 8 (byte (o + 1) % 16))) ∧
  (c.duckDepth = within 0 49 (byte 104) ∧ c.duckRate = within 1 255 (byte 105) ∧ c.duckHold = within 0 2000 (word 106) ∧
    c.w0 = within 0 48 (byte 108) ∧ c.w1 = max c.w0 (within 0 48 (byte 109)) ∧ c.escalation = within 0 16 (byte 110) ∧
    c.wakeRate = within 1 255 (byte 111) ∧ c.wakeHold = within 30 600 (word 112) ∧ c.crewHeadset = within 0 48 (byte 114) ∧
    c.crewPillow = within 0 48 (byte 115) ∧ c.wakeHeadset = within 0 48 (byte 116) ∧
    c.serviceHeadset = within 0 48 (byte 117) ∧ c.nightMask.toNat = word 118)

/-- R43, R56, R199: how many fields of a good image are corrected. The run length of an entry whose video tag is corrected is not
checked, and the other fields of a channel that its tag disables are (notes/assumptions/11.md). -/
def imageFixes (image : List Byte) : Nat :=
  let at_ (k : Nat) : Byte := image.getD k 0xFF
  let byte (k : Nat) : Nat := (at_ k).toNat
  let word (k : Nat) : Nat := 256 * byte k + byte (k + 1)
  let bit (k i : Nat) : Bool := (at_ k).getLsbD i
  let n := min 16 (byte 19)
  let w0 := min 48 (byte 108)
  let choice (k : Nat) : Nat := if at_ k = 0xFF ∨ byte k < n then 0 else 1
  let tag (kind : TagKind) (k : Nat) : Nat := if at_ k = 0xFF ∨ tagKind (at_ k) = kind then 0 else 1
  let berth (b : Nat) : Nat := let o := 3 + 4 * b
    outOf 1 16 (byte o) + choice (o + 1) + outOf 0 48 (byte (o + 2) % 64) + outOf 0 48 (byte (o + 3))
  let entry (i : Nat) : Nat := let o := 20 + 3 * i
    tag .audio o + tag .video (o + 1) + if tagKind (at_ (o + 1)) = .video then outOf 1 8 (byte (o + 2)) else 0
  let target (kind value : Nat) : Nat :=
    if kind = 0 then outOf 0 0 value else if kind = 1 then outOf 1 65535 value
    else outOf 1 250 value + if kind = 3 then 1 else 0
  let carries (ch : Nat) (t : Byte) : Bool :=
    decide (tagKind t = .audio ∨ (ch < 4 ∧ (tagKind t = .alert ∨ tagKind t = .announcement)))
  let asp (ch : Nat) : Nat := let o := 68 + 4 * ch
    if bit (o + 1) 0 = false then 0
    else (if carries ch (at_ o) = true then 0 else 1) +
      if bit (o + 1) 1 = true then outOf 1 3 (byte (o + 1) / 4 % 4) + target (byte (o + 1) / 16 % 4) (word (o + 2)) else 0
  let rsp (r : Nat) : Nat := let o := 100 + 2 * r
    if bit (o + 1) 7 = true then (if tagKind (at_ o) = .video then 0 else 1) + outOf 1 8 (byte (o + 1) % 16) else 0
  let sum (k : Nat) (f : Nat → Nat) : Nat := ((List.range k).map f).sum
  outOf 0 4 (byte 2) + outOf 0 16 (byte 19) + sum (min 4 (byte 2)) berth + sum n entry + sum 8 asp + sum 2 rsp +
    outOf 0 49 (byte 104) + outOf 1 255 (byte 105) + outOf 0 2000 (word 106) + outOf 0 48 (byte 108) + outOf w0 48 (byte 109) +
    outOf 0 16 (byte 110) + outOf 1 255 (byte 111) + outOf 30 600 (word 112) + outOf 0 48 (byte 114) + outOf 0 48 (byte 115) +
    outOf 0 48 (byte 116) + outOf 0 48 (byte 117)

/-! ### What a cycle tick takes -/

/-- The next state of a debounced input sampled at this level (R51, R94, R125). -/
def Debouncer.sampledAt (d : Debouncer) (level : Bool) : Debouncer :=
  ⟨d.active, if level = d.active then 0 else min (d.run + 1) 3⟩

/-- A cycle tick counts a timer that runs. -/
def counted (x : Timer) : Timer := x.map (· - 1)

/-- R25: a cycle tick copies the running parity counts and starts them again; the tags and their ages stay. -/
def ParityCopied (s t : State) : Prop :=
  ∀ k, (t.smu.map.get k).parityErrors = s.smu.running.get k ∧ t.smu.running.get k = 0 ∧
    (t.smu.map.get k).tag = (s.smu.map.get k).tag ∧ (t.smu.map.get k).age = (s.smu.map.get k).age

/-- R29, R39: a holding at a cycle tick, by whether its source wants the trunk. -/
def WantTaken (s t : State) (h : Fin 11) (wanted : Bool) : Prop :=
  let x := s.holding h
  let y := t.holding h
  (wanted = true →
    (x.state = .inactive → y = { x with state := .seeking, first := none }) ∧
    (x.state = .seeking ∨ x.state = .held → y = x) ∧
    (x.state = .backoff → 2 ≤ x.backoff → y = { x with backoff := x.backoff - 1 }) ∧
    (x.state = .backoff → x.backoff ≤ 1 → y = { x with backoffDue := true })) ∧
  (wanted = false →
    (x.state = .inactive → y = x) ∧
    (x.state = .seeking → y = { x with state := .inactive, first := none, attempts := 0 }) ∧
    (x.state = .backoff → y = { x with state := .inactive, attempts := 0, backoffDue := false }) ∧
    (x.state = .held → y = { x with state := .inactive, first := none, attempts := 0 } ∧
      ∀ k, (t.smu.map.get k).own ≠ some h))

/-- R51, R94, R125: the inputs that a cycle tick samples. -/
def InputsSampled (fs : FrameStart) (s t : State) : Prop :=
  (∀ c : Fin 4, let x := s.asp.talk.get c
    t.asp.talk.get c =
      if (s.cfg.asp.get ⟨c.val, by omega⟩).enabled = true then { x with deb := x.deb.sampledAt (!fs.pins.talkHigh.get c) }
      else x) ∧
  t.anu.alert = s.anu.alert.sampledAt (fs.pins.alrtPeer || s.drivesAlrt) ∧
  ∀ (b : Fin 4) (i : Fin 6), (t.bcu.get b).inputs.get i =
    if s.configured b = true then
      ((s.bcu.get b).inputs.get i).sampledAt (decide ((fs.pins.panelHigh.get b).get i = (s.berthCfg b).polarityHigh))
    else (s.bcu.get b).inputs.get i

/-- R79, R126, R128, R133, R138, R146, R152, R164, R182, R189, R191, R202: the timers that a cycle tick counts. -/
def TimersCounted (s t : State) : Prop :=
  (∀ b, s.configured b = true → let x := s.bcu.get b
    t.bcu.get b = { x with
      inputs := (t.bcu.get b).inputs, repUp := counted x.repUp, repDown := counted x.repDown
      pendingTimer := counted x.pendingTimer, flash := counted x.flash }) ∧
  (∀ b, let m := s.mix.get b; let n := t.mix.get b
    (∀ l, n.level l = { m.level l with counter := counted (m.level l).counter }) ∧ n.hold = counted m.hold ∧
      n.duck = m.duck ∧ n.ann = m.ann) ∧
  (∀ b, let w := s.wku.get b
    (w.hold = none → t.wku.get b = w) ∧
    ∀ p q, w.hold = some (p, q) →
      t.wku.get b = { w with hold := some (if p ≤ 1 then (1000, q - 1) else (p - 1, q)) }) ∧
  (∀ b, let f := s.feed b
    t.feed b = { f with waitKey := counted f.waitKey, overlay := (t.feed b).overlay } ∧
    (f.overlay = none → (t.feed b).overlay = none) ∧
    ∀ o, f.overlay = some o →
      (o.phase = .linger → (t.feed b).overlay = some { o with linger := o.linger - 1 }) ∧
      (o.phase = .live → o.source ≠ .message → (t.feed b).overlay = some o) ∧
      (o.phase = .live → o.source = .message → (t.feed b).overlay = some
        (if o.prescaler ≤ 1 then { o with prescaler := 1000, seconds := o.seconds - 1 }
         else { o with prescaler := o.prescaler - 1 }))) ∧
  t.svl = { s.svl with gap := counted s.svl.gap } ∧ t.cmu.prescaler = s.cmu.prescaler - 1

/-- R96, R140, R161, R175, R194, R207: the berths at the end of a LOADING that found every block in its reset state: a configured
berth has its berth reset values, its inputs sampled once; another keeps the unconfigured values, with base level W0. A wait-key
timer of 3000 has counted the first cycle tick (notes/assumptions/18.md). -/
def BerthsLoaded (fs : FrameStart) (s t : State) : Prop :=
  ∀ b : Fin 4, let c := t.cfg.berths.get b
    let level : Level := .lvl (min c.defaultLevel c.maxLevel)
    (t.configured b = true →
      (let x := t.bcu.get b
       x.choice = c.defaultChoice ∧ x.pendingChoice = none ∧ x.pendingTimer = none ∧ x.userLevel = level ∧ x.stop = 0 ∧
       x.lamp = .off ∧ x.lit = false ∧ x.repUp = none ∧ x.repDown = none ∧
       ∀ i, x.inputs.get i = Debouncer.sampledAt ⟨false, 0⟩ (decide ((fs.pins.panelHigh.get b).get i = c.polarityHigh))) ∧
      (let m := t.mix.get b
       (∀ l, (m.level l).cur = (if l = .programme then level else .mute) ∧ (m.level l).target = (m.level l).cur ∧
         (m.level l).counter = none) ∧
       m.duck = .unducked ∧ m.hold = none ∧ m.ann = none ∧ m.flag = false) ∧
      t.wku.get b = ⟨.idle, t.cfg.w0, false, none⟩ ∧
      (let f := t.feed b
       f.video = t.cfg.videoOf c.defaultChoice ∧ f.base = .rest ∧ f.overlay = none ∧ f.tx = false ∧
       f.queue = [clearRecord 1, cardRecord 0 3 []] ∧ (f.video = none → f.state = .off ∧ f.waitKey = none) ∧
       (f.video ≠ none → f.state = .waitKey ∧ f.waitKey = some 2999))) ∧
    (t.configured b = false →
      t.bcu.get b = s.bcu.get b ∧ t.mix.get b = s.mix.get b ∧ t.feed b = s.feed b ∧
      t.wku.get b = ⟨.idle, t.cfg.w0, false, none⟩)

/-! ### What an evaluation does to the announcement table -/

/-- R90: an entry whose pending stamp is taken in this cycle, with its marks cleared at the evaluation's end. -/
def AnnEntry.evaluated (cycle : BitVec 32) (e : AnnEntry) : AnnEntry :=
  { e with stamp := if e.stamp = .pending then .at_ cycle else e.stamp, freed := false, textMark := false }

/-- R93: an entry that an evaluation has allocated to a heard announcement tag. -/
def AnnEntry.isAllocated (heard : List Byte) (e : AnnEntry) : Prop :=
  ∃ g ∈ heard, tagKind g = .announcement ∧
    e = ⟨some g, .undescribed, none, none, none, [], .absent, 0, 0, false, false⟩

/-- R91, R92: entry `e`, among 1 to 15, becomes `n` at an evaluation. A count that reaches its limit is left to its expiry
(notes/assumptions/1.md), and the entry can be allocated to a heard tag at once (R90). -/
def EntryEvaluated (heard : List Byte) (cycle : BitVec 32) (e n : AnnEntry) : Prop :=
  let x := e.evaluated cycle
  let isHeard : Prop := ∃ g ∈ heard, e.tag = some g
  (isHeard →
    (e.state = .described → n = { x with state := .active, stamp := .at_ cycle, absence := 0 }) ∧
    (e.state = .active → n = { x with absence := 0 }) ∧
    (e.state = .fading → n = { x with state := .active, absence := 0 }) ∧
    (e.state = .undescribed → n = x)) ∧
  (¬isHeard →
    (e.state = .active → n = { x with state := .fading, absence := 1 }) ∧
    (e.state = .fading → e.absence < 7 → n = { x with absence := e.absence + 1 }) ∧
    (e.state = .fading → e.absence = 7 → n = { x with absence := 8 } ∨ n.isAllocated heard) ∧
    (e.state = .described → e.age < 1999 → n = { x with age := e.age + 1 }) ∧
    (e.state = .described → e.age = 1999 → n = { x with age := 2000 } ∨ n.isAllocated heard) ∧
    (e.state = .undescribed → n = AnnEntry.free ∨ n.isAllocated heard)) ∧
  (e.state = .free → n = x ∨ n.isAllocated heard)

/-- R95: entry 0 becomes `n` at an evaluation, by whether the alert is present. -/
def AlertEvaluated (isPresent : Prop) (cycle : BitVec 32) (e n : AnnEntry) : Prop :=
  let x := e.evaluated cycle
  (isPresent →
    (e.state = .idle → n = { x with state := .active, stamp := .at_ cycle, absence := 0 }) ∧
    (e.state = .active → n = { x with absence := 0 }) ∧
    (e.state = .fading → n = { x with state := .active, absence := 0 })) ∧
  (¬isPresent →
    (e.state = .idle → n = x) ∧
    (e.state = .active → n = { x with state := .fading, absence := 1 }) ∧
    (e.state = .fading → n = { x with absence := e.absence + 1 }))

/-- R90 to R93, R95: what the evaluation after `s` leaves in `t`, whose locator gives the tags heard: every entry, and an entry
for every heard announcement tag unless none is FREE. -/
def TableEvaluated (s t : State) : Prop :=
  let heard := t.smu.locator.map (·.tag)
  let c := s.tlu.cycleCount
  AlertEvaluated (s.anu.alert.active = true ∨ 0x00 ∈ heard) c (s.anu.entries.get 0) (t.anu.entries.get 0) ∧
  (∀ i, i ≠ 0 → EntryEvaluated heard c (s.anu.entries.get i) (t.anu.entries.get i)) ∧
  (∀ g ∈ heard, tagKind g = .announcement →
    (∃ i, i ≠ 0 ∧ (t.anu.entries.get i).tag = some g ∧ (t.anu.entries.get i).state ≠ .free) ∨
    ∀ i, i ≠ 0 → (t.anu.entries.get i).state ≠ .free)

/-! ### Levels: ramps and the user level -/

/-- R145, R146: level state `y` has just started a ramp from `cur` to `target`: its step count N, its edge count q and the interval
of its first step; with no step to take it is at rest. -/
def RampStarted (cur target : Level) (shape : Shape) (r : Nat) (y : LevelState) : Prop :=
  let n := cur.distance target
  y.cur = cur ∧ y.target = target ∧ y.shape = shape ∧ y.interval = r ∧ y.steps = n ∧ y.taken = 0 ∧
  y.edge = (if shape = .s then n / 4 else 0) ∧
  y.counter = (if n = 0 then none else if shape = .s ∧ 1 ≤ n / 4 then some (2 * r) else some r)

/-- R127, R128, R153: berth `b` of `s` has its new user level in `t`, and a level that changed has been handed to the Mixer, which
takes it by its duck state. -/
def LevelHandedOver (s t : State) (b : Fin 4) : Prop :=
  let old := (s.bcu.get b).userLevel
  let new := (t.bcu.get b).userLevel
  let m := s.mix.get b
  let n := t.mix.get b
  (∀ c, c ≠ b → t.bcu.get c = s.bcu.get c ∧ t.mix.get c = s.mix.get c) ∧
  (new = old → t.mix = s.mix) ∧
  (new ≠ old → n = { m with programme := n.programme } ∧
    (m.duck = .unducked → n.programme.cur = new ∧ n.programme.target = new ∧ n.programme.counter = none) ∧
    (m.duck = .ducked ∨ m.duck = .holding →
      let target := if m.lastClass = .alert then .mute else new.lowered s.cfg.duckDepth
      n.programme.cur = m.programme.cur ∧ n.programme.target = target ∧
      n.programme = m.programme.aim target .linear s.cfg.duckRate))

/-! ### What a follow change does -/

/-- R149, R154: the pillow of a berth begins an announcement of this class, with `base` the wake base level. -/
def PillowBegins (c : Config) (cls : AnnClass) (base : Nat) (p : LevelState) : Prop :=
  (cls = .alert → p.cur = .lvl 48 ∧ p.target = .lvl 48 ∧ p.counter = none) ∧
  (cls = .crew → p.cur = .lvl c.crewPillow ∧ p.target = .lvl c.crewPillow ∧ p.counter = none) ∧
  (cls = .wake → RampStarted (.lvl base) (.lvl c.w1) .s c.wakeRate p)

/-- R148 to R151: the Mixer takes a follow change of berth `b` to the record `new`. A repeat of a wake call restarts the pillow
beside it (R154, R167). -/
def MixerTakesFollow (s t : State) (b : Fin 4) (new : Follow) : Prop :=
  let c := s.cfg
  let user := (s.bcu.get b).userLevel
  let before := (s.anu.follow.get b).pillow
  let base := (t.wku.get b).base
  let m := s.mix.get b
  let n := t.mix.get b
  let repeats : Prop := new.cls = some .wake ∧ (s.wku.get b).following = false ∧ (s.wku.get b).state = .calling
  n = { m with
    programme := n.programme, headset := n.headset, pillow := n.pillow, duck := n.duck, hold := n.hold, ann := n.ann
    lastClass := n.lastClass } ∧
  (∀ e cls, new.entry = some e → new.cls = some cls → m.ann ≠ some (e, cls) →
    let level : Level := match cls with
      | .alert => .lvl 48 | .wake => .lvl c.wakeHeadset | .crew => .lvl c.crewHeadset | .service => .lvl c.serviceHeadset
    n.ann = some (e, cls) ∧ n.duck = .ducked ∧ n.hold = none ∧ n.headset.cur = level ∧ n.headset.target = level ∧
    n.programme.cur = m.programme.cur ∧
    n.programme.target = (if cls = .alert then .mute else user.lowered c.duckDepth) ∧
    (new.pillow = true → PillowBegins c cls base n.pillow) ∧
    (new.pillow = false → ¬repeats → n.pillow.cur = .mute ∧ n.pillow.target = .mute)) ∧
  (∀ e cls, new.entry = some e → new.cls = some cls → m.ann = some (e, cls) →
    n = { m with pillow := n.pillow } ∧
    (before = new.pillow → ¬repeats → n.pillow = m.pillow) ∧
    (before = false → new.pillow = true → PillowBegins c cls base n.pillow) ∧
    (before = true → new.pillow = false → ¬repeats → n.pillow.target = .mute)) ∧
  (new.entry = none → new.cls = none →
    n.ann = none ∧ n.headset.target = .mute ∧ n.pillow.target = .mute ∧
    (m.duck = .ducked → c.duckHold = 0 → n.duck = .unducked ∧ n.hold = none ∧ n.programme.target = user) ∧
    (m.duck = .ducked → c.duckHold ≠ 0 → n.duck = .holding ∧ n.hold = some c.duckHold ∧ n.programme = m.programme) ∧
    (m.duck ≠ .ducked → n.duck = m.duck ∧ n.hold = m.hold ∧ n.programme = m.programme))

/-- R166 to R168: the Wake Unit takes a follow change of berth `b` to the record `new`. -/
def WakeTakesFollow (s t : State) (b : Fin 4) (new : Follow) : Prop :=
  let w := s.wku.get b
  let v := t.wku.get b
  let x : Wake := { w with following := decide (new.cls = some .wake) }
  let starts : Prop := new.cls = some .wake ∧ w.following = false
  let ends : Prop := new.cls ≠ some .wake ∧ w.following = true
  (starts → (w.state = .armed ∨ w.state = .missed → v = { x with state := .calling } ∧ (t.bcu.get b).lamp = .flash) ∧
    (w.state = .calling → v = { x with base := min (w.base + s.cfg.escalation) s.cfg.w1, hold := none }) ∧
    (w.state = .acked → v = { x with hold := none }) ∧ (w.state = .idle → v = x)) ∧
  (ends → (w.state = .calling ∨ w.state = .acked → v = { x with hold := some (1000, s.cfg.wakeHold) }) ∧
    (w.state ≠ .calling → w.state ≠ .acked → v = x)) ∧
  (¬starts → ¬ends → v = x) ∧
  (starts → w.state = .missed → t.cmu = s.cmu.put (.berth b) (Message.wakeClear s.cfl.address b.val).bytes) ∧
  (¬starts ∨ w.state ≠ .missed → t.cmu = s.cmu)

/-- R188, R189: the Screen Feed Unit takes a follow change of berth `b` to the record `new`: the card that the record asks for
replaces every card but the same one LIVE; where it asks for none, a LIVE card other than a message's lingers. -/
def ScreenTakesFollow (s t : State) (b : Fin 4) (new : Follow) : Prop :=
  let f := s.feed b
  let g := t.feed b
  let live (src : OverlaySource) (e : Fin 16) (n : Nat) : Overlay :=
    ⟨src, some e, n, (s.anu.entries.get e).text, .live, 0, 0, 0⟩
  let asked : Option Overlay := new.entry.bind fun e =>
    if e = 0 then some (live .alert e 1)
    else if new.cls = some .wake ∧ new.pillow = true then some (live .wake e 4)
    else if (s.anu.entries.get e).text = [] then none
    else some (live .announcement e 0)
  let ranks (o : Overlay) : Prop := o.phase = .live ∧ o.source ≠ .message
  (∀ o, asked = some o →
    (∀ x, f.overlay = some x → ranks x → ¬(x.entry = o.entry ∧ x.card = o.card ∧ x.text = o.text)) →
    g.overlay = some o ∧ cardRecord layerOverlay o.card o.text ∈ g.queue) ∧
  (∀ o x, asked = some o → f.overlay = some x → ranks x → x.entry = o.entry → x.card = o.card → x.text = o.text → g = f) ∧
  (∀ x, asked = none → f.overlay = some x → ranks x →
    g = { f with overlay := some { x with phase := .linger, linger := 2000 } }) ∧
  (asked = none → (∀ x, f.overlay = some x → ¬ranks x) → g = f)

/-- R138: the notice lamp of berth `b` in `t`. Where the wake state has changed since `s`, or an overlay card record has started or
ended, it is derived afresh: FLASH while CALLING or MISSED, lit and with 250 ticks to count on its entry; otherwise ON while a
record is held, and OFF when none is. Where neither was reported, and while FLASH lasts, it is as it was. -/
def LampFollows (s t : State) (b : Fin 4) : Prop :=
  let x := s.bcu.get b
  let y := t.bcu.get b
  let flashes : Prop := (t.wku.get b).state = .calling ∨ (t.wku.get b).state = .missed
  let shown := (t.feed b).overlay.isSome
  let reported : Prop := (s.wku.get b).state ≠ (t.wku.get b).state ∨ (s.feed b).overlay.isSome ≠ shown
  let becomes (lamp : Lamp) (lit : Bool) (flash : Timer) : Prop := y.lamp = lamp ∧ y.lit = lit ∧ y.flash = flash
  (reported → ¬flashes → shown = true → becomes .on true none) ∧
  (reported → ¬flashes → shown = false → becomes .off false none) ∧
  (reported → flashes → x.lamp ≠ .flash → becomes .flash true (some 250)) ∧
  ((reported → flashes ∧ x.lamp = .flash) → becomes x.lamp x.lit x.flash)

/-- Nothing of berth `b`'s own context differs from `s` but the lamp. -/
def OnlyLampChanged (s t : State) (b : Fin 4) : Prop :=
  let y := t.bcu.get b
  y = { s.bcu.get b with lamp := y.lamp, lit := y.lit, flash := y.flash }

/-! ### What a node asks of the trunk -/

/-- R35, R36: the SMU names holding `h` for slot `k` of the current frame: SEEKING or HELD in frame 0, and HELD in a data frame, on
slots that include `k`. -/
def NamedFor (s : State) (k : Fin 40) (h : Fin 11) : Prop :=
  ((s.holding h).state = .held ∨ (s.tlu.frame = 0 ∧ (s.holding h).state = .seeking)) ∧
  ∃ f, (s.holding h).first = some f ∧ f ≤ k.val ∧ k.val < f + s.holdingRun h

/-- R107, R108: the demand list of `s`: the tags of the six steps in their order, each once. -/
def DemandsListed (s : State) : Prop :=
  let berths := (List.finRange 4).filter s.configured
  let hearing := berths.filter s.headsetPresent
  let audio (ch : Choice) : Option Grant := (s.cfg.audioOf ch).map fun a => ⟨a, 1⟩
  let video (ch : Choice) : Option Grant := match ch with
    | .off => none
    | .entry i => (s.cfg.programme[i]?).bind fun p => p.video.map fun v => ⟨v, p.run⟩
  let rank (i : Fin 16) : Nat := match (s.anu.entries.get i).cls with
    | some .alert => 0 | some .wake => 1 | some .crew => 2 | some .service => 3 | none => 4
  let steps (followed : List (Fin 16)) : List Grant :=
    (if (locate s.smu.locator 0x00).isSome = true then [⟨0x00, 1⟩] else []) ++
    (followed.filterMap fun i => (s.anu.entries.get i).tag.map fun a => ⟨a, 1⟩) ++
    (hearing.filterMap fun b => audio (s.bcu.get b).choice) ++
    (hearing.filterMap fun b => (s.bcu.get b).pendingChoice.bind audio) ++
    ((berths.filter fun b => decide ((s.feed b).state ≠ .off)).filterMap fun b => video (s.bcu.get b).choice) ++
    (berths.filterMap fun b => (s.bcu.get b).pendingChoice.bind video)
  ∃ followed : List (Fin 16),
    (∀ i, i ∈ followed ↔ ∃ b, s.configured b = true ∧ (s.anu.follow.get b).entry = some i) ∧
    (followed.Pairwise fun i j => rank i < rank j ∨
      (rank i = rank j ∧ (s.stampOf i < s.stampOf j ∨ (s.stampOf i = s.stampOf j ∧ i < j)))) ∧
    s.demands = (steps followed).foldl (fun list g => if g.tag ∈ list.map (·.tag) then list else list ++ [g]) []

/-- R109: the demand list is granted tag by tag, `got` being granted and `n` denied so far. -/
def GrantedInOrder (loc : List LocItem) : Prop :=
  (∀ p, grantDown loc [] p = p) ∧
  ∀ (g : Grant) (rest got : List Grant) (n : Nat),
    let skipped : Prop := locate loc g.tag = none ∨ (isVideo g.tag = true ∧ ∀ i, locate loc g.tag = some i → i.run ≠ g.run)
    let fits : Prop := (got.map Grant.lanes).sum + g.lanes ≤ 24 ∧ (got.map Grant.assemblers).sum + g.assemblers ≤ 8
    (isVideo g.tag = true → g.lanes = g.run ∧ g.assemblers = 1) ∧ (isVideo g.tag = false → g.lanes = 1 ∧ g.assemblers = 0) ∧
    (skipped → grantDown loc (g :: rest) (got, n) = grantDown loc rest (got, n)) ∧
    (¬skipped → fits → grantDown loc (g :: rest) (got, n) = grantDown loc rest (got ++ [g], n)) ∧
    (¬skipped → ¬fits → grantDown loc (g :: rest) (got, n) = grantDown loc rest (got, n + 1))

/-! ### What receivers and assemblers make of a slot -/

/-- R74, R75: what a receiver becomes, how many bad messages it counts, and the message it completes, at one byte. -/
def ReceiverFollowsTheTable (r : Receiver) (byte : Byte) (mark : Bool) : Prop :=
  let out := r.take byte mark
  let kept : Receiver := { r with bytes := r.bytes ++ [byte], xor := r.xor ^^^ byte }
  let idle (st : RxState) : Receiver := { r with state := st, bytes := [], xor := 0 }
  let inProgress := r.state = .length ∨ r.state = .body ∨ r.state = .check
  let short := if inProgress then 1 else 0
  (mark = true → 1 ≤ byte.toNat → byte.toNat ≤ 7 →
    out = ({ r with state := .length, bytes := [byte], xor := byte }, short, none)) ∧
  (mark = true → byte = 0xFF → out = (idle .hunt, short, none)) ∧
  (mark = true → byte = 0 ∨ 7 < byte.toNat → byte ≠ 0xFF → out = (idle .skip, short + 1, none)) ∧
  (mark = false → r.state = .hunt ∨ r.state = .skip → out = (r, 0, none)) ∧
  (mark = false → r.state = .length →
    (60 < byte.toNat → out = (idle .skip, 1, none)) ∧ (byte = 0 → out = ({ kept with state := .check }, 0, none)) ∧
    (byte ≠ 0 → byte.toNat ≤ 60 → out = ({ kept with state := .body }, 0, none))) ∧
  (mark = false → r.state = .body →
    (kept.bytes.length = 2 + (r.bytes.getD 1 0).toNat → out = ({ kept with state := .check }, 0, none)) ∧
    (kept.bytes.length ≠ 2 + (r.bytes.getD 1 0).toNat → out = (kept, 0, none))) ∧
  (mark = false → r.state = .check →
    (byte ≠ r.xor → out = (idle .hunt, 1, none)) ∧
    (byte = r.xor → parseMessage (r.bytes.getD 0 0) (r.bytes.drop 2) = none → out = (idle .hunt, 1, none)) ∧
    ∀ m, byte = r.xor → parseMessage (r.bytes.getD 0 0) (r.bytes.drop 2) = some m → out = (idle .hunt, 0, some m))

/-- R74, R75: slot `k` of a data frame at the receivers: each that follows it takes it, in order. -/
def ReceiversTake (k : Fin 40) (byte : Byte) (ninth : Bool) (s t : State) : Prop :=
  let outs := (List.finRange 4).map fun i => let r := s.cmu.rx.get i
    if r.tag.isSome = true ∧ r.slot = k.val then r.take byte ninth else (r, 0, none)
  t.cmu.rx.toList = outs.map (·.1) ∧
  t.counter .badMessages = satInc^[(outs.map (·.2.1)).sum] (s.counter .badMessages) ∧
  t.cmu.dispatch = s.cmu.dispatch ++ outs.filterMap (·.2.2)

/-- R118 to R120: what an assembler becomes, and what it reports or delivers, at one byte. -/
def AssemblerFollowsTheTable (a : Assembler) (byte : Byte) (mark : Bool) : Prop :=
  let out := a.take byte mark
  let kept : Assembler := { a with bytes := a.bytes ++ [byte], xor := a.xor ^^^ byte }
  let idle (st : AsmState) : Assembler := ⟨a.tag, st, [], 0⟩
  let inProgress := a.state = .header ∨ a.state = .body ∨ a.state = .check
  (mark = true → byte = 0xFF → (inProgress → out = (idle .hunt, .short)) ∧ (¬inProgress → out = (a, .nothing))) ∧
  (mark = true → byte ≠ 0xFF → out = (⟨a.tag, .header, [byte], byte⟩, if inProgress then .short else .nothing)) ∧
  (mark = false → a.state = .hunt ∨ a.state = .skip → out = (a, .nothing)) ∧
  (mark = false → a.state = .header →
    (kept.bytes.length < 3 → out = (kept, .nothing)) ∧
    (kept.bytes.length = 3 → 1019 < recordLength kept.bytes → out = (idle .skip, .overlong)) ∧
    (kept.bytes.length = 3 → recordLength kept.bytes = 0 → out = ({ kept with state := .check }, .nothing)) ∧
    (kept.bytes.length = 3 → 1 ≤ recordLength kept.bytes → recordLength kept.bytes ≤ 1019 →
      out = ({ kept with state := .body }, .nothing))) ∧
  (mark = false → a.state = .body →
    (kept.bytes.length = 3 + recordLength kept.bytes → out = ({ kept with state := .check }, .nothing)) ∧
    (kept.bytes.length ≠ 3 + recordLength kept.bytes → out = (kept, .nothing))) ∧
  (mark = false → a.state = .check →
    (byte = a.xor → out = (idle .hunt, .good kept.bytes)) ∧ (byte ≠ a.xor → out = (idle .hunt, .checkError)))

/-- R181: in `t` the FOLLOWING feeds of a lost video tag wait for a KEY. -/
def LossesReported (lost : Byte → Prop) (s t : State) : Prop :=
  ∀ b, let f := s.feed b
    let loses : Prop := s.configured b = true ∧ f.state = .following ∧ ∃ v, f.video = some v ∧ lost v
    (loses → (t.feed b).state = .waitKey ∧ (t.feed b).waitKey = some 3000) ∧ (¬loses → (t.feed b).state = f.state)

/-- R118 to R121: slot `k` of a data frame at the assemblers: each of whose stream a lane captures it takes it, in order. -/
def AssemblersTake (k : Fin 40) (byte : Byte) (ninth : Bool) (s t : State) : Prop :=
  let captures (a : Assembler) : Bool :=
    a.tag.isSome && s.lcu.lanes.toList.any fun l => decide (l.tag = a.tag ∧ l.slot = some k.val)
  let outs := (List.finRange 8).map fun i => let a := s.lcu.asm.get i
    if captures a = true then a.take byte ninth else (a, .nothing)
  let counted (c : Counter) (o : AsmOut) : Prop :=
    t.counter c = satInc^[(outs.filter fun x => decide (x.2 = o)).length] (s.counter c)
  t.lcu.asm.toList = outs.map (·.1) ∧
  counted .shortRecords .short ∧ counted .overlongRecords .overlong ∧ counted .recordCheckErrors .checkError ∧
  t.sfu.inbox = s.sfu.inbox ++ outs.filterMap (fun x => match x.1.tag, x.2 with
    | some v, .good r => some (v, r)
    | _, _ => none) ∧
  LossesReported (fun v => ∃ x ∈ outs, x.1.tag = some v ∧ (x.2 = .short ∨ x.2 = .overlong ∨ x.2 = .checkError)) s t ∧
  ∀ b, t.feed b = s.feed b ∨ t.feed b = { s.feed b with state := .waitKey, waitKey := some 3000 }

/-- R120: a record in progress at the end of an abandoned data frame, of which slots from `done` on did not complete. -/
def CutByTheFrame (s : State) (done : Nat) (a : Assembler) : Prop :=
  (a.state = .header ∨ a.state = .body ∨ a.state = .check) ∧
  ∃ v, a.tag = some v ∧ ∃ l, (s.lcu.lanes.get l).tag = some v ∧ ∃ k, (s.lcu.lanes.get l).slot = some k ∧ done ≤ k

/-- R132, R184: a pending choice without video has become current in `t`, and the others still pend. -/
def CompletedWithoutVideo (s t : State) : Prop :=
  ∀ b, let x := s.bcu.get b; let y := t.bcu.get b; let f := t.feed b
    (∀ ch, s.configured b = true → x.pendingChoice = some ch → s.cfg.videoOf ch = none →
      y.choice = ch ∧ y.pendingChoice = none ∧ y.pendingTimer = none ∧
      f.state = .off ∧ f.video = none ∧ f.waitKey = none ∧ f.base = .rest) ∧
    (s.configured b = false ∨ x.pendingChoice = none ∨ (∃ ch v, x.pendingChoice = some ch ∧ s.cfg.videoOf ch = some v) →
      y.choice = x.choice ∧ y.pendingChoice = x.pendingChoice)

/-! ### What the nodes' sources send -/

/-- R60: the bytes of a run, slot by slot: the next byte of the first record whose bytes are not all taken, marked when it is
the record's first, or filler. -/
def RunBytesFollowRecords : Prop :=
  ∀ (frame : Nat) (recs : List SourceRecord),
    takeRun frame 0 recs = ([], recs) ∧
    (∀ n, (∀ x ∈ recs, x.bytes.length ≤ x.taken) →
      takeRun frame (n + 1) recs = ((0x00, false) :: (takeRun frame n recs).1, (takeRun frame n recs).2)) ∧
    ∀ n before x after, recs = before ++ x :: after → (∀ y ∈ before, y.bytes.length ≤ y.taken) → x.taken < x.bytes.length →
      let x' := { x with
        taken := x.taken + 1, checkIn := if x.taken + 1 = x.bytes.length then some frame else none }
      let rest := takeRun frame n (before ++ x' :: after)
      takeRun frame (n + 1) recs = ((x.bytes.getD x.taken 0, decide (x.taken = 0)) :: rest.1, rest.2)

/-- R70 to R72: the CMU at the start of data frame `next`, with `queue` what is left after the frame that ended. -/
def MessageByteFixed (held silenced : Bool) (next : Nat) (pos : Option Nat) (queue : List QueueItem) (t : Cmu) : Prop :=
  let filler : Prop := t.fixed = some (0x00, false) ∧ t.queue = queue
  let gives (q : QueueItem) (rest : List QueueItem) (i : Nat) : Prop :=
    t.fixed = some (q.bytes.getD i 0, decide (i = 0)) ∧
    (i + 1 = q.bytes.length → t.pos = none ∧ t.queue = { q with sentIn := some next } :: rest) ∧
    (i + 1 ≠ q.bytes.length → t.pos = some (i + 1) ∧ t.queue = queue)
  (held = true → silenced = false →
    (queue = [] → filler) ∧
    ∀ q rest, queue = q :: rest →
      (∀ i, pos = some i → gives q rest i) ∧ (pos = none → q.sentIn = none → gives q rest 0) ∧
      (pos = none → q.sentIn ≠ none → filler)) ∧
  (held = true → silenced = true → t.fixed = none ∧ t.pos = none ∧ ∀ q, t.queue.head? = some q → q.sentIn = none) ∧
  (held = false → t.fixed = none ∧ t.pos = pos ∧ t.queue = queue)

/-! ### What every step keeps -/

/-- R5, R7 to R9, R13, R14: the Trunk Line Unit's numbers are in their ranges; a frame runs past bit time 480 by a late mark
that begins at 495 and is recognised after 13 bit times. -/
def State.trunkInRange (s : State) : Prop :=
  s.tlu.frame ≤ 24 ∧ s.tlu.bitTime ≤ 508 ∧ s.tlu.sinceForeign ≤ 25 ∧ (∀ n, s.tlu.candidate = some n → n ≤ 24) ∧
    s.tlu.slotsDone ≤ 40

/-- R195 and chapter 1.7: the link is LOADING exactly while the node is. -/
def State.linkMatchesNode (s : State) : Prop := s.cfl.node = .loading ↔ s.tlu.link = .loading

/-- R14: only an eligible node leads the trunk. -/
def State.leaderEligible (s : State) : Prop := s.tlu.link = .leading → s.cfg.eligible = true

/-- R78: the missed-wake list is at most 16 entries long, and no two entries have the same node and berth. -/
def State.missedListOk (s : State) : Prop :=
  s.cmu.missed.length ≤ 16 ∧ s.cmu.missed.Pairwise fun a b => ¬(a.node = b.node ∧ a.berth = b.berth)

/-- R44, R46: a channel's FIFO holds up to 4 codes, and an open port frame fewer than 128 bits. -/
def State.fifosBounded (s : State) : Prop :=
  (∀ c : Fin 8, (s.asp.ch.get c).fifo.length ≤ 4) ∧ s.asp.bits.length < 128

/-- R163: a berth whose alighting stop is 0 is in wake state IDLE. -/
def State.stopZeroIdle (s : State) : Prop :=
  ∀ b : Fin 4, (s.bcu.get b).stop = 0 → (s.wku.get b).state = .idle

/-- R66: at most 4 items of the out queue have the service link as origin, and at most one has each other origin. -/
def State.queueWithinLimits (s : State) : Prop :=
  (s.cmu.queue.filter fun q => decide (q.origin = .serviceLink)).length ≤ 4 ∧
    ∀ o : Origin, o ≠ .serviceLink → (s.cmu.queue.filter fun q => decide (q.origin = o)).length ≤ 1

/-- R82: entry 0 is A0's: class ALERT, target ALL, and IDLE, ACTIVE or FADING. -/
def State.entryZeroIsAlert (s : State) : Prop :=
  let e := s.anu.entries.get 0
  e.tag = some 0x00 ∧ e.cls = some .alert ∧ e.target = some .all ∧ e.seq = none ∧
    (e.state = .idle ∨ e.state = .active ∨ e.state = .fading)

end Machine
end Sys2Proof
end

