-- ==== Sys2Proof/Certificates/Slice0/Obligations.lean ====
section
/-!
DEFINITION. Certificates/Slice0/Obligations.lean: what the manual's rules say of the commands and of the machine, as
statements for the provers. `t = { s with x := t.x, ... }` says which parts of the state may change: no other does.
-/

section
open Sys2Proof Sys2Proof.Machine

/-! ### The queue and the outcomes -/

/-- A step takes the command at the front of the queue and executes it on the queue's rest. -/
def Obligations.StepRunsTheFrontCommand : Prop :=
  ∀ (c : Instr) (q : List Instr) (s : State), step { s with pending := c :: q } = exec c { s with pending := q }

/-- The model's choice (log 3): with no command waiting, a step takes the first event that is due; with none due, a bit time
passes until the line must answer, and in LOADING, where the frame timer does not run (R5), a CCLK period of the read (R196). -/
def Obligations.EmptyQueueTakesWhatIsDue : Prop :=
  ∀ s : State, s.pending = [] →
    (∀ e es, s.dueEvents = e :: es → step s = .next (takeEvent e s)) ∧
    (s.nothingDue → s.tlu.link ≠ .loading →
      let limit := if s.tlu.ownMark ≠ none then 13 else if s.tlu.expired = false then 480
        else if s.tlu.lateRun = false then 496 else 508
      step s = .next
        (if s.tlu.bitTime < limit then { s with tlu := { s.tlu with bitTime := s.tlu.bitTime + 1 } } else s)) ∧
    (s.nothingDue → s.tlu.link = .loading → step s = .next
      (if s.cfl.reading = true ∧ s.cfl.period < 1040 then { s with cfl := { s.cfl with period := s.cfl.period + 1 } }
       else s))

/-- Every command that a line can carry has an effect in every state; the model's choice (log 17): operands that no line can
carry, and nothing else, end in the one fault. -/
def Obligations.EveryWellFormedCommandCompletes : Prop :=
  ∀ (c : Instr) (s : State),
    (c.wellFormed = true → ∃ t, exec c s = .next t) ∧ (c.wellFormed = false → exec c s = .fault .illFormedCommand)

/-- The model's choice (log 1): an event that is not due is no event: taking it changes nothing. -/
def Obligations.EventsNotDueChangeNothing : Prop :=
  ∀ (e : Event) (s : State), e ∉ s.dueEvents → takeEvent e s = s

/-! ### Reset and loading (chapter 11) -/

/-- The values after device reset that R20, R42, R55, R62, R81, R105, R123, R140, R161, R175, R194 and R207 give. That the
debouncers of a berth's five buttons are INACTIVE is the model's choice (log 7). -/
def Obligations.DeviceResetState : Prop :=
  ∀ s : State, ∃ t, exec .deviceReset s = .next t ∧ t.pending = s.pending ∧
    (t.cfl.node = .loading ∧ t.cfl.reading = false ∧ t.cfl.fault = false ∧ t.faultAsserted = false ∧ t.cclkRuns = false ∧
      t.cdat = none) ∧
    (t.svl.rx = [] ∧ t.svl.gap = none ∧ t.svl.reply = none ∧ t.replying = false) ∧ (∀ c, t.counter c = 0) ∧
    (t.tlu.link = .loading ∧ t.tlu.frame = 0 ∧ t.tlu.bitTime = 0 ∧ t.tlu.cycleCount = 0 ∧ t.tlu.sinceForeign = 0 ∧
      t.tlu.candidate = none ∧ t.tlu.inListen = 0 ∧ (∀ h, t.tlu.silenced.get h = false) ∧ t.tlu.cyc = false) ∧
    ((∀ k, t.smu.map.get k = ⟨0xFF, 0, none, 0⟩ ∧ t.smu.running.get k = 0 ∧ t.smu.collected.get k = none) ∧
      t.smu.results = [] ∧ t.smu.locator = [] ∧
      ∀ h, (t.holding h).state = .inactive ∧ (t.holding h).first = none ∧ (t.holding h).attempts = 0 ∧
        (t.holding h).backoff = 1) ∧
    ((∀ c, (t.asp.ch.get c).fifo = [] ∧ (t.asp.ch.get c).lastCode = 0 ∧ (t.asp.ch.get c).repeats = 0) ∧
      (∀ c, t.asp.talk.get c = ⟨⟨false, 0⟩, 0⟩) ∧ t.asp.portOpen = false ∧ t.abckDriven = false ∧ t.afsPin = none ∧
      t.drivesAlrt = false) ∧
    (∀ r, (t.rsp.get r).entry = .waitStart ∧ (t.rsp.get r).cur = [] ∧ (t.rsp.get r).recs = [] ∧ t.rrdy r = false) ∧
    (t.cmu.queue = [] ∧ t.cmu.pos = none ∧
      (∀ i, (t.cmu.rx.get i).tag = none ∧ (t.cmu.rx.get i).state = .hunt ∧ (t.cmu.rx.get i).bytes = []) ∧
      t.cmu.missed = [] ∧ t.cmu.prescaler = 1000) ∧
    ((let e := t.anu.entries.get 0
      e.state = .idle ∧ e.tag = some 0x00 ∧ e.cls = some .alert ∧ e.target = some .all ∧ e.text = [] ∧ e.stamp = .absent ∧
        e.absence = 0 ∧ e.freed = false ∧ e.textMark = false) ∧
      (∀ i, i ≠ 0 → (t.anu.entries.get i).state = .free ∧ (t.anu.entries.get i).freed = false ∧
        (t.anu.entries.get i).textMark = false) ∧
      (∀ z, t.anu.zones.get z = .day) ∧ t.anu.alert = ⟨false, 0⟩ ∧
      ∀ b, t.anu.follow.get b = ⟨none, false, false, none⟩) ∧
    (t.lcu.pendingSet = none ∧ t.lcu.active = [] ∧
      (∀ l, (t.lcu.lanes.get l).tag = none ∧ (t.lcu.lanes.get l).slot = none ∧ (t.lcu.lanes.get l).lastGood = 0 ∧
        (t.lcu.lanes.get l).miss = 0) ∧
      ∀ a, (t.lcu.asm.get a).tag = none ∧ (t.lcu.asm.get a).state = .hunt ∧ (t.lcu.asm.get a).bytes = []) ∧
    (∀ b, (t.bcu.get b).choice = .off ∧ (t.bcu.get b).pendingChoice = none ∧ (t.bcu.get b).pendingTimer = none ∧
      (t.bcu.get b).userLevel = .mute ∧ (t.bcu.get b).stop = 0 ∧ (t.bcu.get b).lamp = .off ∧
      (∀ i, (t.bcu.get b).inputs.get i = ⟨false, 0⟩) ∧ t.lampHigh b = false) ∧
    ((∀ b, (∀ l, let x := (t.mix.get b).level l
        x.cur = .mute ∧ x.target = .mute ∧ x.counter = none) ∧
      (t.mix.get b).duck = .unducked ∧ (t.mix.get b).hold = none ∧ (t.mix.get b).ann = none ∧
      (t.mix.get b).flag = false ∧ (t.mix.get b).hdat = 0 ∧ (t.mix.get b).pdat = 0) ∧
      t.bbckRuns = false ∧ t.bfs = false) ∧
    (∀ b, (t.wku.get b).state = .idle ∧ (t.wku.get b).base = 0 ∧ (t.wku.get b).following = false ∧
      (t.wku.get b).hold = none) ∧
    ((∀ b, (t.feed b).state = .off ∧ (t.feed b).video = none ∧ (t.feed b).queue = [] ∧ (t.feed b).waitKey = none ∧
      (t.feed b).base = .none ∧ (t.feed b).overlay = none ∧ (t.feed b).sdat = 0 ∧ (t.feed b).ssor = false) ∧
      t.sclkRuns = false)

/-- R195 to R197, R200, R201, R12, R19, R44, R158, R192: the rise of RST in LOADING starts the read of the configuration
memory, which sends 0x03 and 0x00 on CDAT; the end of the read configures the node, which enters LISTEN with frame 0 and drives
its port clocks. R96, R140, R161, R175, R194, R199, R206: it counts the corrections and gives the zones their modes and the
berths their values. That LOADING_START changes nothing while RST is high already is the model's choice (log 1), and so is that
the timers which the end of LOADING loads count at its cycle tick (log 18) and that straps of 0 or 63 count as no correction
(log 12). -/
def Obligations.LoadingConfiguresTheNode : Prop :=
  ∀ s : State,
    (s.cfl.node = .loading → s.cfl.reading = false →
      exec .loadingStart s = .next { s with cfl := { s.cfl with reading := true, period := 0 } }) ∧
    (s.cfl.node = .running ∨ s.cfl.reading = true → exec .loadingStart s = .next s) ∧
    (s.cclkRuns = s.cfl.reading ∧
      (s.cfl.reading = true → s.cfl.period < 16 → s.cdat = some (decide (s.cfl.period = 6 ∨ s.cfl.period = 7))) ∧
      (s.cfl.reading = false ∨ 16 ≤ s.cfl.period → s.cdat = none)) ∧
    ∀ (image : List Byte) (straps : BitVec 6) (fs : FrameStart), image.length = 128 → s.cfl.reading = true →
      ∃ t, exec (.loadingEnd image straps fs) s = .next t ∧ t.pending = s.pending ∧
        t.cfl.node = .running ∧ t.cfl.reading = false ∧ t.cfl.address = straps.toNat ∧
        (t.cfl.fault = true ↔ imageGood image = false ∨ straps = 0 ∨ straps = 63) ∧ t.faultAsserted = true ∧
        (let loaded := if imageGood image = true then (readImage image).1 else Config.defaults
         let c := t.cfl.config
         (straps ≠ 0 → straps ≠ 63 → c = loaded) ∧
         (straps = 0 ∨ straps = 63 → c = { loaded with eligible := false, asp := c.asp, rsp := c.rsp } ∧
           (∀ i, c.asp.get i = { loaded.asp.get i with enabled := false }) ∧
           ∀ r, c.rsp.get r = { loaded.rsp.get r with enabled := false })) ∧
        (fs.plain →
          t.counter .configurationFixes =
            satInc^[if imageGood image = true then (readImage image).2 else 0] (s.counter .configurationFixes) ∧
          ∀ z : Fin 16, t.anu.zones.get z = if t.cfl.config.nightMask.getLsbD z.val = true then .night else .day) ∧
        (fs.plain → s = { State.reset with
            pending := s.pending, cfl := { Loader.reset with reading := true, period := s.cfl.period } } →
          BerthsLoaded fs s t) ∧
        t.cclkRuns = false ∧ t.cdat = none ∧ t.bbckRuns = true ∧ t.sclkRuns = true ∧
        (t.abckDriven = true ↔ t.cfg.aspTiming = .node) ∧ (t.afsPin = none ↔ t.cfg.aspTiming ≠ .node) ∧
        t.tlu.link = .listen ∧ t.tlu.frame = 0 ∧ t.tlu.inListen = 1 ∧ t.tlu.candidate = none ∧
        t.tlu.cyc = (!s.tlu.cyc) ∧ t.tlu.cycleCount = s.tlu.cycleCount + 1

/-- R43, R56, R196, R198, R199: every field of a good image is taken from its offset and ends in its range, and the corrections
are counted; a good image starts with 0x01 and ends with its check byte. R200: the defaults. That an entry without video has run 1,
and which fields of a disabled channel are still checked, is the model's choice (log 11), and so is the value of a field that is
not read, as run 1 of a disabled record channel (log 31). -/
def Obligations.ImageFieldsEndInRange : Prop :=
  (∀ image : List Byte, image.length = 128 →
    (imageGood image = true ↔ image.getD 0 0 = 0x01 ∧ image.getD 127 0 = xorAll (image.take 127)) ∧
    ImageLaidOut image (readImage image).1 ∧ (readImage image).2 = imageFixes image) ∧
  (let d := Config.defaults
   d.eligible = false ∧ d.trunkPolicy = .follow ∧ d.portPolicy = .follow ∧ d.aspTiming = .node ∧ d.linkOn = true ∧
   d.berthCount = 4 ∧ (∀ b, d.berths.get b = ⟨1, .off, 24, false, 40⟩) ∧ d.programme = [] ∧
   (∀ c, (d.asp.get c).enabled = false) ∧ (∀ r, (d.rsp.get r).enabled = false) ∧ d.duckDepth = 18 ∧ d.duckRate = 2 ∧
   d.duckHold = 400 ∧ d.w0 = 20 ∧ d.w1 = 40 ∧ d.escalation = 4 ∧ d.wakeRate = 50 ∧ d.wakeHold = 120 ∧ d.crewHeadset = 36 ∧
   d.crewPillow = 28 ∧ d.wakeHeadset = 36 ∧ d.serviceHeadset = 30 ∧ d.nightMask = 0) ∧
  ∀ image : List Byte, let c := (readImage image).1
    c.berthCount ≤ 4 ∧ c.programme.length ≤ 16 ∧ c.duckDepth ≤ 49 ∧ (1 ≤ c.duckRate ∧ c.duckRate ≤ 255) ∧
    c.duckHold ≤ 2000 ∧ (c.w0 ≤ c.w1 ∧ c.w1 ≤ 48) ∧ c.escalation ≤ 16 ∧ (1 ≤ c.wakeRate ∧ c.wakeRate ≤ 255) ∧
    (30 ≤ c.wakeHold ∧ c.wakeHold ≤ 600) ∧ c.crewHeadset ≤ 48 ∧ c.crewPillow ≤ 48 ∧ c.wakeHeadset ≤ 48 ∧
    c.serviceHeadset ≤ 48 ∧
    (∀ b, let x := c.berths.get b
      (1 ≤ x.zone ∧ x.zone ≤ 16) ∧ x.defaultLevel ≤ 48 ∧ x.maxLevel ≤ 48 ∧
      ∀ i, x.defaultChoice = .entry i → i < c.programme.length) ∧
    (∀ p ∈ c.programme, (∀ a, p.audio = some a → tagKind a = .audio) ∧ (∀ v, p.video = some v → tagKind v = .video) ∧
      1 ≤ p.run ∧ p.run ≤ 8) ∧
    (∀ ch, let a := c.asp.get ch
      (a.enabled = true → tagKind a.tag = .audio ∨
        (ch.val < 4 ∧ (tagKind a.tag = .alert ∨ tagKind a.tag = .announcement))) ∧
      (a.enabled = true → a.autoDescribe = true → a.cls ≠ .alert ∧ (∀ m, a.target = .zones m → m ≠ 0) ∧
        ∀ st, a.target = .stop st → 1 ≤ st ∧ st ≤ 250)) ∧
    (∀ r, let x := c.rsp.get r
      (1 ≤ x.run ∧ x.run ≤ 8) ∧ (x.enabled = true → tagKind x.tag = .video))

/-! ### The trunk (chapters 1 and 2) -/

/-- R5, R6: the frame timer expires once: an eligible node in LOCKED or LEADING drives C when its next frame is 0 and F
otherwise, or yields to a dominant run that stands, and drives when that run ends short; any other node waits; in LOADING the
timer does not run. `ended` is a run that ended before 480: short of 12 bit times, or a mark begun at 404 to 415 that IGNORE
disregards; that the node drives after the latter is the model's choice (log 28), for R6 does not name it. -/
def Obligations.FrameTimerExpiryDrivesOrYields : Prop :=
  ∀ (g : GuardReading) (s : State), s.nothingDue →
    let drives := { s with
      tlu := { s.tlu with
        ownMark := some (if (s.tlu.frame + 1) % 25 = 0 then .c else .f), guard := .recessive, bitTime := 0
        expired := false } }
    let waits := { s with tlu := { s.tlu with bitTime := 480, guard := g, expired := true } }
    (s.cfg.eligible = true → s.tlu.link = .locked ∨ s.tlu.link = .leading →
      (s.tlu.expired = false → g ≠ .inProgress → exec (.frameTimerExpiry g) s = .next drives) ∧
      (s.tlu.guard = .inProgress → exec .guardRunEndsShort s = .next drives)) ∧
    (s.tlu.link = .locked ∨ s.tlu.link = .leading → s.tlu.expired = false → g = .inProgress →
      exec (.frameTimerExpiry g) s = .next waits) ∧
    (s.tlu.link = .listen ∨ (s.tlu.link = .locked ∧ s.cfg.eligible = false) →
      (s.tlu.expired = false → exec (.frameTimerExpiry g) s = .next waits) ∧ exec .guardRunEndsShort s = .next s) ∧
    (s.tlu.link = .loading ∨ s.tlu.expired = true → exec (.frameTimerExpiry g) s = .next s)

/-- R7, R8, R13, R14, R17, R19: a node that does not drive marks starts the next frame itself, at bit time 496 or at the end of
a dominant run that stands there, dated from bit time 480. R25, R29, R39, R51, R79, R94, R125, R126, R128, R133, R138, R146,
R152, R164, R182, R189, R191, R202: what the cycle tick of a frame 0 takes that starts in LOCKED or LEADING, so or by a mark that
cut no frame, the node's own or one that it follows. That the talk input of a
disabled channel is not sampled is the model's choice (log 23), and so is that what falls due at the tick is latched until its
event is taken: a backoff that has run out, an input's third differing sample, a timer at 0 (log 1). That the link is kept where a
follow-only node's count reaches 25 (R14), or at an eligible node's 76th frame in LISTEN (R13), until the expiry is taken is the
model's choice too (log 1, with the order of log 5). The bit time 17 + n at the end of a late run is read from R7 (log 4). -/
def Obligations.FlywheelStartsTheNextFrame : Prop :=
  (∀ (c : Instr) (fs : FrameStart) (s : State), s.nothingDue → fs.plain → StartsFrame s fs 0 c →
    s.tlu.link = .locked ∨ s.tlu.link = .leading →
    ∃ t, exec c s = .next t ∧ t.tlu.frame = 0 ∧ t.tlu.cyc = (!s.tlu.cyc) ∧ t.tlu.cycleCount = s.tlu.cycleCount + 1 ∧
      (∀ h, t.tlu.silenced.get h = false) ∧ ParityCopied s t ∧ InputsSampled fs s t ∧ TimersCounted s t ∧
      ∀ h, h ≠ cmuHolding ∨ fs.order.cmuStartFirst = false → WantTaken s t h (t.wants h)) ∧
  ∀ (late : LateRun) (fs : FrameStart) (s : State), s.nothingDue →
    (s.tlu.link = .listen ∨ (s.tlu.link = .locked ∧ s.cfg.eligible = false)) →
    (late = .standing →
      exec (.flywheel ⟨late, fs⟩) s = .next { s with tlu := { s.tlu with bitTime := 496, lateRun := true } }) ∧
    (late = .clear → s.tlu.lateRun = true → exec (.flywheel ⟨late, fs⟩) s = .next s) ∧
    (late ≠ .standing → (late = .clear → s.tlu.lateRun = false) → fs.plain → s.tlu.frame ≤ 24 →
      ∃ t, exec (.flywheel ⟨late, fs⟩) s = .next t ∧ t.pending = s.pending ∧ t.cfl = s.cfl ∧
        t.tlu.link = s.tlu.link ∧ t.tlu.frame = (s.tlu.frame + 1) % 25 ∧ t.tlu.slotsDone = 0 ∧
        (late = .clear → t.tlu.bitTime = 16) ∧ (∀ n, late = .ended n → t.tlu.bitTime = 17 + n.val) ∧
        t.tlu.ownMark = none ∧ t.tlu.candidate = none ∧ t.tlu.expired = false ∧ t.tlu.lateRun = false ∧
        (s.tlu.link = .listen → t.tlu.inListen = s.tlu.inListen + 1 ∧ t.tlu.sinceForeign = s.tlu.sinceForeign) ∧
        (s.tlu.link = .locked → t.tlu.inListen = s.tlu.inListen ∧ t.tlu.sinceForeign = min (s.tlu.sinceForeign + 1) 25) ∧
        (s.tlu.frame = 24 → t.tlu.cyc = (!s.tlu.cyc) ∧ t.tlu.cycleCount = s.tlu.cycleCount + 1 ∧
          ∀ h, t.tlu.silenced.get h = false) ∧
        (s.tlu.frame < 24 → t.tlu.cyc = s.tlu.cyc ∧ t.tlu.cycleCount = s.tlu.cycleCount ∧
          t.tlu.silenced = s.tlu.silenced ∧ t.bcu = s.bcu ∧ t.wku = s.wku ∧ t.anu = s.anu ∧ t.sfu = s.sfu ∧
          t.svl = s.svl ∧ t.asp.talk = s.asp.talk) ∧
        (s.tlu.link = .locked → s.tlu.frame = 24 →
          ParityCopied s t ∧ InputsSampled fs s t ∧ TimersCounted s t ∧
          ∀ h, h ≠ cmuHolding ∨ fs.order.cmuStartFirst = false → WantTaken s t h (t.wants h)))

/-- R3 to R5, R8, R10, R14: a dominant run of 12 bit times is an F mark and a longer one a C mark, and a shorter one is none. A
mark is followed in LOCKED or LEADING: the frame number by its form, the cycle slip and the early mark counted, the foreign
count restarted, and LEADING left for LOCKED. R24: one that cuts frame 0 leaves the map, the locator and the holdings, but
for what the tick of a frame 0 takes, and discards what was collected; that a backoff which has run out there waits for its event
is the model's choice (log 1). The bit time 13 of its recognition is read from R3 and R5 (log 4). -/
def Obligations.ForeignMarkIsFollowedOnTheTrunk : Prop :=
  ∀ (run start : Nat) (fs : FrameStart) (s : State), s.nothingDue → start ≤ 495 →
    (run < 12 → exec (.markRecognised run start fs) s = .next s) ∧
    (12 ≤ run → fs.plain → 1 ≤ start → (s.tlu.link = .locked ∨ s.tlu.link = .leading) →
      (start ≤ 415 → s.cfg.trunkPolicy = .follow) →
      ∃ t, exec (.markRecognised run start fs) s = .next t ∧ t.pending = s.pending ∧ t.cfl = s.cfl ∧
        t.tlu.link = .locked ∧ t.tlu.sinceForeign = 0 ∧ t.tlu.bitTime = 13 ∧ t.tlu.slotsDone = 0 ∧
        t.tlu.ownMark = none ∧ t.tlu.expired = false ∧
        (13 ≤ run → t.tlu.frame = 0 ∧ t.tlu.cyc = (!s.tlu.cyc) ∧ t.tlu.cycleCount = s.tlu.cycleCount + 1) ∧
        (run = 12 → t.tlu.frame = (s.tlu.frame + 1) % 25) ∧
        (start ≤ 415 → t.counter .earlyMarks = satInc (s.counter .earlyMarks)) ∧
        (416 ≤ start → t.counter .earlyMarks = s.counter .earlyMarks) ∧
        (13 ≤ run → s.tlu.frame < 24 → t.counter .cycleSlips = satInc (s.counter .cycleSlips)) ∧
        (run = 12 ∨ s.tlu.frame = 24 → t.counter .cycleSlips = s.counter .cycleSlips) ∧
        t.counter .ignoredMarks = s.counter .ignoredMarks ∧ t.counter .linkDrops = s.counter .linkDrops ∧
        (run = 12 → s.tlu.frame = 24 → t.tlu.cyc = (!s.tlu.cyc) ∧ t.tlu.cycleCount = s.tlu.cycleCount + 1) ∧
        (run = 12 → s.tlu.frame < 24 → t.bcu = s.bcu ∧ t.wku = s.wku ∧ t.anu = s.anu ∧ t.svl = s.svl) ∧
        (start ≤ 415 → s.tlu.frame = 0 →
          t.smu = { s.smu with
            collected := Table.replicate 40 none, results := [], map := t.smu.map, running := t.smu.running
            holdings := t.smu.holdings } ∧
          (run = 12 → t.smu.map = s.smu.map ∧ t.smu.running = s.smu.running ∧ t.smu.holdings = s.smu.holdings ∧
            t.tlu.silenced = s.tlu.silenced) ∧
          (13 ≤ run → ParityCopied s t ∧ (∀ h, WantTaken s t h (t.wants h)) ∧
            ∀ k h, t.wants h = true → (s.smu.map.get k).own = some h → (t.smu.map.get k).own = some h) ∧
          t.counter .contentionLosses = s.counter .contentionLosses ∧ t.counter .slotsLost = s.counter .slotsLost))

/-- R3, R4, R6, R8, R11, R14: a node recognises its own mark, by the form it reads back: the start adds 1 to the
frames-since-foreign count; a C mark out of place, as an F mark that was overlapped by a peer's C mark, is a cycle slip; and frame
0 is a cycle tick. Under IGNORE a mid-frame mark in LOCKED or LEADING is only counted. The bit time 13 is read from R3 and R5 (log 4), and that the mark which
opened a frame is its own at bit time 0, and is not taken again, is read from R4 (log 19). That the link is kept where the count
reaches 25, until FRAMES_SINCE_FOREIGN_EXPIRY is taken, is the model's choice (log 1, with the order of log 5). -/
def Obligations.OwnMarksStartFramesAndIgnoredMarksCount : Prop :=
  ∀ (run : Nat) (fs : FrameStart) (s : State), s.nothingDue → 12 ≤ run →
    (s.tlu.link = .locked ∨ s.tlu.link = .leading) →
    (fs.plain → s.tlu.ownMark ≠ none →
      ∃ t, exec (.markRecognised run 0 fs) s = .next t ∧ t.pending = s.pending ∧ t.cfl = s.cfl ∧
        t.tlu.link = s.tlu.link ∧ t.tlu.sinceForeign = min (s.tlu.sinceForeign + 1) 25 ∧ t.tlu.ownMark = none ∧
        t.tlu.bitTime = 13 ∧ t.tlu.slotsDone = 0 ∧ t.tlu.marked = true ∧
        (13 ≤ run → t.tlu.frame = 0) ∧ (run = 12 → t.tlu.frame = (s.tlu.frame + 1) % 25) ∧
        (13 ≤ run → s.tlu.frame < 24 → t.counter .cycleSlips = satInc (s.counter .cycleSlips)) ∧
        (run = 12 ∨ s.tlu.frame = 24 → t.counter .cycleSlips = s.counter .cycleSlips) ∧
        (t.tlu.frame = 0 → t.tlu.cyc = (!s.tlu.cyc) ∧ t.tlu.cycleCount = s.tlu.cycleCount + 1) ∧
        (t.tlu.frame ≠ 0 → t.tlu.cyc = s.tlu.cyc ∧ t.tlu.cycleCount = s.tlu.cycleCount) ∧
        t.counter .earlyMarks = s.counter .earlyMarks ∧ t.counter .ignoredMarks = s.counter .ignoredMarks) ∧
    (s.tlu.ownMark = none → s.tlu.marked = true → exec (.markRecognised run 0 fs) s = .next s) ∧
    (∀ start : Nat, 1 ≤ start → start ≤ 415 → s.cfg.trunkPolicy = .ignore →
      exec (.markRecognised run start fs) s =
        .next { s with counters := s.counters.set 1 (satInc (s.counters.get 1)) })

/-- R3, R4, R12, R13: in LISTEN every mark is followed; nothing is counted, and the acquisition candidate moves by the table.
That a mark which begins with a frame that no mark opened is followed too, and is no mid-frame mark, is read from R4 and R12
(log 19). That an eligible node stays in LISTEN where the mark opens its 76th frame there, until FRAMES_IN_LISTEN_EXPIRY is
taken, is the model's choice (log 1, with the order of log 5). -/
def Obligations.AcquisitionFollowsTheTable : Prop :=
  ∀ (run start : Nat) (fs : FrameStart) (s : State), s.nothingDue → fs.plain → 12 ≤ run →
    (1 ≤ start ∨ s.tlu.marked = false) → start ≤ 495 → s.tlu.link = .listen →
    let mid : Prop := 1 ≤ start ∧ start ≤ 415
    ∃ t, exec (.markRecognised run start fs) s = .next t ∧
      (13 ≤ run → t.tlu.frame = 0) ∧ (run = 12 → t.tlu.frame = (s.tlu.frame + 1) % 25) ∧
      t.counter .earlyMarks = s.counter .earlyMarks ∧ t.counter .ignoredMarks = s.counter .ignoredMarks ∧
      t.counter .cycleSlips = s.counter .cycleSlips ∧
      (13 ≤ run → ¬mid → s.tlu.candidate = some 24 → t.tlu.link = .locked ∧ t.tlu.sinceForeign = 0) ∧
      (13 ≤ run → s.tlu.candidate = none ∨ (∃ n, n < 24 ∧ s.tlu.candidate = some n) ∨ (s.tlu.candidate = some 24 ∧ mid) →
        t.tlu.link = .listen ∧ t.tlu.candidate = some 0 ∧ t.tlu.inListen = s.tlu.inListen + 1) ∧
      (run = 12 → t.tlu.link = .listen ∧ t.tlu.inListen = s.tlu.inListen + 1) ∧
      (∀ n, run = 12 → ¬mid → n < 24 → s.tlu.candidate = some n → t.tlu.candidate = some (n + 1)) ∧
      (run = 12 → s.tlu.candidate = some 24 ∨ mid ∨ s.tlu.candidate = none → t.tlu.candidate = none)

/-- R13, R14: at 25 frames without a foreign mark an eligible node leads; after 76 frames in LISTEN an eligible node leads. -/
def Obligations.EligibleNodeTakesTheLead : Prop :=
  ∀ s : State, s.cfg.eligible = true →
    (s.tlu.link = .locked → 25 ≤ s.tlu.sinceForeign →
      exec .framesSinceForeignExpiry s = .next { s with tlu := { s.tlu with link := .leading } }) ∧
    (s.tlu.link = .listen → 76 ≤ s.tlu.inListen →
      exec .framesInListenExpiry s = .next { s with tlu := { s.tlu with link := .leading } })

/-- R12, R14, R41, R80, R103, R122: a follow-only node drops the link: the teardown of every block that depends on the trunk. -/
def Obligations.FollowOnlyNodeDropsTheLink : Prop :=
  ∀ s : State, s.cfg.eligible = false → s.tlu.link = .locked → 25 ≤ s.tlu.sinceForeign →
    ∃ t, exec .framesSinceForeignExpiry s = .next t ∧
      t.tlu = { s.tlu with
        link := .listen, silenced := t.tlu.silenced, mismatch := t.tlu.mismatch, ownMark := none, candidate := none
        inListen := 0, sinceForeign := 0 } ∧
      (∀ h, t.tlu.silenced.get h = false) ∧ (∀ k, t.tlu.mismatch.get k = none) ∧
      t.counter .linkDrops = satInc (s.counter .linkDrops) ∧
      t.counter .earlyMarks = s.counter .earlyMarks ∧ t.counter .cycleSlips = s.counter .cycleSlips ∧
      (∀ k, t.smu.map.get k = ⟨0xFF, 0, none, 0⟩ ∧ t.smu.running.get k = 0 ∧ t.smu.collected.get k = none) ∧
      t.smu.locator = [] ∧
      (∀ h, let x := s.holding h; let y := t.holding h
        y.attempts = x.attempts ∧ y.backoff = x.backoff ∧
        (x.state = .held ∨ x.state = .seeking → y.state = .seeking ∧ y.first = none) ∧
        (x.state = .inactive ∨ x.state = .backoff → y.state = x.state)) ∧
      t.lcu.pendingSet = none ∧ t.lcu.active = [] ∧ (∀ l, (t.lcu.lanes.get l).tag = none) ∧
      (∀ a, (t.lcu.asm.get a).tag = none) ∧
      (∀ b, ∀ g ∈ s.lcu.active, isVideo g.tag = true → s.configured b = true → (s.feed b).video = some g.tag →
        (s.feed b).state = .following → (t.feed b).state = .waitKey ∧ (t.feed b).waitKey = some 3000) ∧
      (∀ i, (t.cmu.rx.get i).tag = none) ∧ t.cmu.missed = s.cmu.missed ∧ t.cmu.prescaler = s.cmu.prescaler ∧
      (∀ i, i ≠ 0 → (t.anu.entries.get i).state = .free) ∧ t.anu.entries.get 0 = s.anu.entries.get 0 ∧
      t.anu.zones = s.anu.zones ∧ t.pending = s.pending ∧ t.cfl = s.cfl ∧ t.svl = s.svl ∧ t.asp = s.asp

/-- R15 to R17, R35: nothing is driven off the trunk or for a silenced holding, and in a tag frame what is driven is the
holding's tag. What was driven in a slot that waits on a run (R9) is what is driven there now, or what a holding silenced in a
later slot had driven there. R2, R15, R35, R36: on the trunk a holding that is named for a slot and not silenced does drive there:
its tag in frame 0, and in a data frame the byte that its source fixed, with odd parity for audio and the source's record mark for
control and video. Two holdings are never named for one slot (R32, R33); the clauses speak of the first that is. That slot 0 of a
frame which started at the end of a late run is driven as any other is the model's choice (log 35). -/
def Obligations.DrivesOnlyOnTheTrunk : Prop :=
  ∀ (s : State) (k : Fin 40),
    (s.tlu.link = .loading ∨ s.tlu.link = .listen → s.drives k = none ∧ s.drove k = none) ∧
    (∀ h byte ninth, s.drives k = some (h, byte, ninth) →
      s.tlu.silenced.get h = false ∧
      (s.tlu.frame = 0 → byte = s.holdingTag h ∧ ninth = true ∧
        ((s.holding h).state = .seeking ∨ (s.holding h).state = .held)) ∧
      (s.tlu.frame ≠ 0 → (s.holding h).state = .held)) ∧
    (∀ x, s.drives k = some x → s.drove k = some x) ∧
    (s.tlu.link = .locked ∨ s.tlu.link = .leading → ∀ h, NamedFor s k h → (∀ g, g < h → ¬NamedFor s k g) →
      s.tlu.silenced.get h = false →
      (s.tlu.frame = 0 → s.drives k = some (h, s.holdingTag h, true)) ∧
      (s.tlu.frame ≠ 0 → ∀ c, h = aspHolding c → let byte := (s.asp.ch.get c).fixed
        ∃ ninth, s.drives k = some (h, byte, ninth) ∧ oddParity byte ninth = true) ∧
      (s.tlu.frame ≠ 0 → ∀ r f, h = rspHolding r → (s.holding h).first = some f →
        s.drives k = ((s.rsp.get r).fixed[k.val - f]?).map fun x => (h, x)) ∧
      (s.tlu.frame ≠ 0 → h = cmuHolding → s.drives k = s.cmu.fixed.map fun x => (h, x))) ∧
    (∀ (b : Byte) (ninth : Bool), oddParity b ninth = true ↔
      (((List.range 8).filter fun i => b.getLsbD i).length + (if ninth = true then 1 else 0)) % 2 = 1) ∧
    ∀ h x, s.drove k = some (h, x) →
      s.drives k = some (h, x) ∨ (s.tlu.silenced.get h = true ∧ ∃ j, k < j ∧ s.tlu.mismatch.get j = some h)

/-- R9, R16, R17, R22: in a slot of the tag frame: a driven bit that reads back different silences the holding; a slot that this
node did not drive is collected; a slot that it drove gives a result, clean when its tag reads back and lost when not, whether
or not the mismatch was reported at its bit. The bit time a completion leaves is read from R5 and R9 (log 4), and that a
completion takes a mismatch that was not reported is read from R16 and R17 (log 21). That slot 0 of a frame which started at the
end of a late run is driven and compared whole is the model's choice (log 35). -/
def Obligations.TagSlotsAreCollectedAndReadBack : Prop :=
  ∀ (k : Fin 40) (byte : Byte) (ninth : Bool) (wait : Fin 13) (s : State), s.nothingDue → s.tlu.slotsDone ≤ k.val →
    (∀ h d, s.drove k = some (h, d) →
      exec (.readBackMismatch k) s = .next { s with
        tlu := { s.tlu with
          silenced := s.tlu.silenced.set h true, mismatch := s.tlu.mismatch.set k (some h) } }) ∧
    (s.drove k = none → exec (.readBackMismatch k) s = .next s) ∧
    (s.tlu.link = .locked ∨ s.tlu.link = .leading → s.tlu.frame = 0 → k.val < 39 →
      let done : Tlu := { s.tlu with
        slotsDone := k.val + 1, bitTime := max s.tlu.bitTime (26 + 10 * k.val + wait.val)
        mismatch := s.tlu.mismatch.set k none }
      let collected (results : List SlotResult) : Smu := { s.smu with
        collected := s.smu.collected.set k (some byte), results := s.smu.results ++ results }
      (s.drove k = none → s.tlu.mismatch.get k = none →
        exec (.slotCompletion k ⟨byte, ninth⟩ wait) s = .next { s with tlu := done, smu := collected [] }) ∧
      (∀ h, s.drove k = none → s.tlu.mismatch.get k = some h →
        exec (.slotCompletion k ⟨byte, ninth⟩ wait) s = .next { s with tlu := done, smu := collected [⟨k.val, h, true⟩] }) ∧
      ∀ h tag n, s.drove k = some (h, tag, n) → s.tlu.mismatch.get k = none →
        exec (.slotCompletion k ⟨byte, ninth⟩ wait) s = .next { s with
          tlu := { done with silenced := if tag = byte then s.tlu.silenced else s.tlu.silenced.set h true }
          smu := collected [⟨k.val, h, decide (tag ≠ byte)⟩] })

/-- R9, R18, R23, R26, R27: the completion of slot 39 of a tag frame is the map update: every tag is replaced, its age counted,
the locator rebuilt and its duplicates counted. R89 to R93, R95: the evaluation that follows it: entries are heard, fade, age
and are allocated. R138, R163, R166: a berth that begins to follow a WAKE announcement is CALLING, with its lamp flashing. An
entry that reaches absence 8 or description age 2000 here is freed when its expiry event is taken, the model's choice (log 1);
the bit time of the completion is read from R5 and R9 (log 4). R89: the cycle tick of a frame 0 that starts in LISTEN is an
evaluation too, by the locator that stands. -/
def Obligations.MapUpdateReplacesTheTags : Prop :=
  (∀ (c : Instr) (fs : FrameStart) (s : State), s.nothingDue → fs.plain → s.tlu.link = .listen → StartsFrame s fs 0 c →
    ∃ t, exec c s = .next t ∧ (t.tlu.link = .listen →
      t.smu.locator = s.smu.locator ∧ t.tlu.cycleCount = s.tlu.cycleCount + 1 ∧
      TableEvaluated { s with tlu := t.tlu } t)) ∧
  ∀ (byte : Byte) (ninth : Bool) (wait : Fin 13) (s : State), s.nothingDue →
    (s.tlu.link = .locked ∨ s.tlu.link = .leading) → s.tlu.frame = 0 → s.tlu.slotsDone ≤ 39 →
    (∀ k : Fin 40, k.val < 39 → (s.smu.collected.get k).isSome = true) →
    ∃ t, exec (.slotCompletion 39 ⟨byte, ninth⟩ wait) s = .next t ∧
      (∀ k, let old := s.smu.map.get k; let new := t.smu.map.get k
        some new.tag = (if k = 39 then some byte else s.smu.collected.get k) ∧
        new.age = (if new.tag = old.tag then min (old.age + 1) 255 else 0) ∧
        new.parityErrors = old.parityErrors) ∧
      t.smu.locator = buildLocator (t.smu.map.toList.map (·.tag)) ∧
      t.counter .duplicateTags =
        satInc^[(t.smu.locator.filter fun (i : LocItem) => i.dup).length] (s.counter .duplicateTags) ∧
      (∀ k, t.smu.collected.get k = none) ∧ t.smu.results = [] ∧ t.tlu.slotsDone = 40 ∧
      t.tlu.bitTime = max s.tlu.bitTime (416 + wait.val) ∧
      t.tlu.link = s.tlu.link ∧ t.tlu.frame = 0 ∧ t.pending = s.pending ∧ t.cfl = s.cfl ∧ t.asp = s.asp ∧ t.svl = s.svl ∧
      t.bfs = s.bfs ∧
      TableEvaluated s t ∧
      (let missing := (List.finRange 16).filter fun i => decide (i ≠ 0 ∧ (s.anu.entries.get i).state = .undescribed ∧
         ∀ g ∈ t.smu.locator, (s.anu.entries.get i).tag ≠ some g.tag)
       t.counter .undescribed = satInc^[missing.length] (s.counter .undescribed)) ∧
      ∀ b, s.configured b = true → (s.wku.get b).following = false → (s.anu.follow.get b).cls ≠ some .wake →
        (s.wku.get b).state = .armed ∨ (s.wku.get b).state = .missed → (t.anu.follow.get b).cls = some .wake →
        t.wku.get b = { s.wku.get b with state := .calling, following := true } ∧ (t.bcu.get b).lamp = .flash

/-- R31 to R34, R37: the holdings at a map update: a SEEKING holding whose whole target read back clean is HELD on it; one that
lost a slot of its target has lost a contention; a HELD holding that lost a slot is SEEKING and owns no slot; and a holding that
is then SEEKING without a target takes a candidate, or a victim if it may preempt, or waits. The slots that the rules call
candidates, and the victim. R16: the read-back result of slot 39 itself counts with the others (log 21 where its mismatch was not
reported). That a slot which a losing holding of this node drove clean can be a victim of another is the model's choice
(log 33). -/
def Obligations.HoldingsSettleAtTheMapUpdate : Prop :=
  (∀ (map : Table 40 SlotEntry) (targeted : List Nat) (run : Nat),
    (candidates map targeted run).Pairwise (· < ·) ∧
    (∀ k, k ∈ candidates map targeted run ↔ k + run ≤ 40 ∧
      ∀ j : Fin 40, k ≤ j.val → j.val < k + run → (map.get j).tag = 0xFF ∧ j.val ∉ targeted) ∧
    (let eligible (j : Fin 40) : Prop := let e := map.get j
       0x80 ≤ e.tag.toNat ∧ e.tag.toNat ≤ 0xFD ∧ e.own = none ∧ j.val ∉ targeted
     (victim map targeted = none ↔ ∀ j, ¬eligible j) ∧
     ∀ v, victim map targeted = some v → ∃ j : Fin 40, j.val = v ∧ eligible j ∧ ∀ i, eligible i →
       (map.get i).tag.toNat < (map.get j).tag.toNat ∨ ((map.get i).tag = (map.get j).tag ∧ i ≤ j))) ∧
  ∀ (byte : Byte) (ninth : Bool) (wait : Fin 13) (s : State), s.nothingDue →
    (s.tlu.link = .locked ∨ s.tlu.link = .leading) → s.tlu.frame = 0 → s.tlu.slotsDone ≤ 39 →
    let results := s.smu.results ++ lastSlotResult s byte
    let lost (h : Fin 11) : Prop := ∃ r ∈ results, r.holding = h ∧ r.lost = true
    let settled (h : Fin 11) (x : Holding) : Prop := let old := s.holding h
      (old.state = .seeking → lost h → x = { old with first := none, attempts := min (old.attempts + 1) 255 }) ∧
      (old.state = .held → lost h → x = { old with state := .seeking, first := none }) ∧
      (old.state = .seeking ∨ old.state = .held → ¬lost h → x = old) ∧
      (old.state = .inactive ∨ old.state = .backoff → x = old)
    ∃ t, exec (.slotCompletion 39 ⟨byte, ninth⟩ wait) s = .next t ∧
      t.tlu.silenced = (match s.drove 39 with
        | some (h, tag, _) => if tag = byte then s.tlu.silenced else s.tlu.silenced.set h true
        | none => s.tlu.silenced) ∧
      (∀ h f, (s.holding h).state = .seeking → (s.holding h).first = some f → ¬lost h →
        (results.filter fun r => decide (r.holding = h)).length = s.holdingRun h →
        t.holding h = { s.holding h with state := .held, attempts := 0 } ∧
        ∀ k : Fin 40, f ≤ k.val → k.val < f + s.holdingRun h →
          (∀ g, g ≠ h → (s.holding g).state ≠ .seeking) → (t.smu.map.get k).own = some h) ∧
      (∀ h, (s.holding h).state = .held → lost h → (t.holding h).state = .seeking ∧ ∀ k, (t.smu.map.get k).own ≠ some h) ∧
      (∀ h, (s.holding h).state = .held → ¬lost h → t.holding h = s.holding h) ∧
      (∀ losers : List (Fin 11), losers.Nodup → (∀ h, h ∈ losers ↔ (s.holding h).state = .seeking ∧ lost h) →
        t.counter .contentionLosses = satInc^[losers.length] (s.counter .contentionLosses)) ∧
      (∀ losers : List (Fin 11), losers.Nodup → (∀ h, h ∈ losers ↔ (s.holding h).state = .held ∧ lost h) →
        t.counter .slotsLost = satInc^[losers.length] (s.counter .slotsLost)) ∧
      ∀ h x, settled h x → x.state = .seeking → x.first = none →
        (∀ g, g ≠ h → ¬lost g ∧ ((s.holding g).state = .seeking → (s.holding g).first ≠ none)) →
        let cs := candidates t.smu.map [] (s.holdingRun h)
        let waits := t.holding h = { x with attempts := min (x.attempts + 1) 255 }
        (cs ≠ [] → t.holding h = { x with first := cs[(s.cfl.address + x.attempts) % cs.length]? }) ∧
        (cs = [] → mayPreempt (s.holdingTag h) = true →
          (∀ v, victim t.smu.map [] = some v → t.holding h = { x with first := some v }) ∧
          (victim t.smu.map [] = none → waits)) ∧
        (cs = [] → mayPreempt (s.holdingTag h) = false → waits)

/-- R26: the stream locator of a tag frame lists exactly the locatable tags that appear in it, each once and in tag order, with
the lowest slot that carries it, the length of the run from there, and whether it appears beyond that run. -/
def Obligations.LocatorListsTheLowestRuns : Prop :=
  ∀ tags : List Byte,
    ((buildLocator tags).Pairwise fun a b => a.tag.toNat < b.tag.toNat) ∧
    (∀ t : Byte, (∃ i ∈ buildLocator tags, i.tag = t) ↔ locatable t = true ∧ t ∈ tags) ∧
    ∀ i ∈ buildLocator tags, tags[i.first]? = some i.tag ∧ (∀ k, k < i.first → tags[k]? ≠ some i.tag) ∧ 1 ≤ i.run ∧
      (∀ k, i.first ≤ k → k < i.first + i.run → tags[k]? = some i.tag) ∧ tags[i.first + i.run]? ≠ some i.tag ∧
      (i.dup = true ↔ ∃ k, i.first + i.run ≤ k ∧ tags[k]? = some i.tag)

/-- R17, R38, R39, R61, R72: a data collision sends a HELD holding to BACKOFF, its slots are its own no more, and its source
sends its taken records, or its message, again from the start; a backoff that has run out leaves the holding SEEKING without a
target. -/
def Obligations.DataCollisionStartsABackoff : Prop :=
  ∀ (h : Fin 11) (s : State),
    (∀ (k : Fin 40) (byte : Byte) (ninth : Bool) (wait : Fin 13), s.nothingDue →
      s.tlu.link = .locked ∨ s.tlu.link = .leading → s.tlu.frame ≠ 0 → s.tlu.slotsDone ≤ k.val →
      s.tlu.mismatch.get k = some h → s.drove k = none → (s.holding h).state = .held →
      ∃ t, exec (.slotCompletion k ⟨byte, ninth⟩ wait) s = .next t ∧
        (t.holding h).state = .backoff ∧ (t.holding h).backoff = s.cfl.address % 8 + 1 ∧ (t.holding h).first = none ∧
        (t.holding h).attempts = (s.holding h).attempts ∧ (∀ j, (t.smu.map.get j).own ≠ some h) ∧
        (∀ g, g ≠ h → t.holding g = s.holding g) ∧
        t.counter .dataCollisions = satInc (s.counter .dataCollisions) ∧ t.tlu.mismatch.get k = none ∧
        (∀ j, j ≠ k → t.tlu.mismatch.get j = s.tlu.mismatch.get j) ∧ t.tlu.silenced = s.tlu.silenced ∧
        (∀ r, t.rsp.get r = if h = rspHolding r then { s.rsp.get r with
            recs := (s.rsp.get r).recs.map fun x => { x with taken := 0, checkIn := none } } else s.rsp.get r) ∧
        (h = cmuHolding → t.cmu.pos = none ∧ t.cmu.queue.map (·.bytes) = s.cmu.queue.map (·.bytes) ∧
          ∀ q, t.cmu.queue.head? = some q → q.sentIn = none) ∧
        (h ≠ cmuHolding → t.cmu.pos = s.cmu.pos ∧ t.cmu.queue = s.cmu.queue)) ∧
    ((s.holding h).state = .backoff → (s.holding h).backoffDue = true →
      exec (.backoffExpiry h) s = .next
        (s.setHolding h { s.holding h with state := .seeking, first := none, backoffDue := false }))

/-! ### Source ports (chapter 3) -/

/-- R44 to R46, R48 to R50: the bits of a port frame fill it, and its 128th completes it: each enabled channel takes its word
as a log code, unless its FIFO is full; bits that arrive while no port frame is open are ignored; under DEVICE timing a pulse
opens a port frame, and an early one counts a port mark error and, by the policy, begins the frame again or leaves it filling.
A data frame start feeds every channel: a HELD one sends its oldest code, with an empty FIFO it repeats its last code 24 times
and is silent from the 25th on. Each full FIFO counts a source overrun and each empty one a source underrun. R60, R61: it fixes
the bytes of every HELD run from the records that wait in order. -/
def Obligations.SourceChannelsFillAndFeed : Prop :=
  (∀ (bits : List Bool) (c : Fin 8) (i : Nat), 128 ≤ bits.length → i < 16 →
    some ((portWord bits c).getMsbD i) = bits[16 * c.val + i]?) ∧
  (∀ (bits : List Bool) (s : State), s.cfl.node = .running →
    (s.asp.portOpen = true → 128 ≤ (s.asp.bits ++ bits).length →
      ∃ t, exec (.portFrameComplete bits) s = .next t ∧
        t = { s with asp := t.asp, counters := t.counters } ∧ t.asp.portOpen = false ∧ t.asp.bits = [] ∧
        t.asp.afs = s.asp.afs ∧ t.asp.talk = s.asp.talk ∧
        (∀ c : Fin 8, t.asp.ch.get c =
          (let x := s.asp.ch.get c
           if (s.cfg.asp.get c).enabled = true ∧ x.fifo.length < 4 then
             { x with fifo := x.fifo ++ [logEncode (portWord (s.asp.bits ++ bits) c)] }
           else x)) ∧
        (let full := (List.finRange 8).filter fun c =>
           decide ((s.cfg.asp.get c).enabled = true ∧ 4 ≤ (s.asp.ch.get c).fifo.length)
         t.counter .sourceOverruns = satInc^[full.length] (s.counter .sourceOverruns)) ∧
        ∀ k, k ≠ .sourceOverruns → t.counter k = s.counter k) ∧
    (s.asp.portOpen = true → (s.asp.bits ++ bits).length < 128 →
      exec (.portFrameComplete bits) s = .next { s with asp := { s.asp with bits := s.asp.bits ++ bits } }) ∧
    (s.asp.portOpen = false → exec (.portFrameComplete bits) s = .next s)) ∧
  (∀ s : State, s.cfl.node = .running →
    (s.cfg.aspTiming = .device → s.asp.portOpen = true → exec .afsPulse s = .next { s with
      counters := s.counters.set 18 (satInc (s.counters.get 18))
      asp := { s.asp with bits := if s.cfg.portPolicy = .follow then [] else s.asp.bits } }) ∧
    (s.cfg.aspTiming = .device → s.asp.portOpen = false →
      exec .afsPulse s = .next { s with asp := { s.asp with portOpen := true, bits := [] } }) ∧
    (s.cfg.aspTiming = .node → exec .afsPulse s = .next s)) ∧
  RunBytesFollowRecords ∧
  ∀ (c : Instr) (n : Nat) (fs : FrameStart) (s : State), s.nothingDue → fs.plain → StartsFrame s fs n c → n ≠ 0 →
    ∃ t, exec c s = .next t ∧
      (s.cfg.aspTiming = .node → t.asp.portOpen = true ∧ t.asp.bits = [] ∧ t.asp.afs = true) ∧
      (s.cfg.aspTiming = .device → t.asp.portOpen = s.asp.portOpen ∧ t.asp.bits = s.asp.bits) ∧
      (∀ c : Fin 8, let x := s.asp.ch.get c; let y := t.asp.ch.get c
        (s.held (aspHolding c) = true → ∀ code rest, x.fifo = code :: rest → y = ⟨rest, code, 0, code⟩) ∧
        (s.held (aspHolding c) = true → x.fifo = [] → x.repeats < 24 →
          y = { x with repeats := x.repeats + 1, fixed := x.lastCode }) ∧
        (s.held (aspHolding c) = true → x.fifo = [] → 24 ≤ x.repeats →
          y = { x with repeats := 25, fixed := 0x00, lastCode := 0x00 }) ∧
        (s.held (aspHolding c) = false → (s.cfg.asp.get c).enabled = true →
          y = { x with fifo := [], lastCode := 0x00, repeats := 0 })) ∧
      (let empty := (List.finRange 8).filter fun c => decide (s.held (aspHolding c) = true ∧ (s.asp.ch.get c).fifo = [])
       t.counter .sourceUnderruns = satInc^[empty.length] (s.counter .sourceUnderruns)) ∧
      ∀ r : Fin 2, let h := rspHolding r; let x := s.rsp.get r
        let left := if 1 ≤ s.tlu.frame ∧ s.held h = true then
          x.recs.filter fun y => decide (y.checkIn ≠ some s.tlu.frame) else x.recs
        let run := takeRun n (s.holdingRun h) left
        (s.held h = true → s.tlu.silenced.get h = false → t.rsp.get r = { x with fixed := run.1, recs := run.2 }) ∧
        (s.held h = false ∨ s.tlu.silenced.get h = true → t.rsp.get r = { x with fixed := [], recs := left })

/-- R51 to R54: an accepted talk change: the talk count, the PRESENT of an auto-described announcement channel, and ALRT. -/
def Obligations.TalkChangesAreTaken : Prop :=
  ∀ (c : Fin 4) (s : State), (s.asp.talk.get c).deb.run = 3 →
    let x := s.asp.talk.get c
    let a := s.cfg.asp.get ⟨c.val, by omega⟩
    let announces : Bool := a.enabled && decide (tagKind a.tag = .announcement)
    (x.deb.active = false → ∃ t, exec (.talkActivation c) s = .next t ∧ t = { s with asp := t.asp, cmu := t.cmu } ∧
      t.asp = { s.asp with
        talk := s.asp.talk.set c ⟨⟨true, 0⟩, if announces = true then x.count + 1 else x.count⟩ } ∧
      (announces = true → a.autoDescribe = true →
        t.cmu = s.cmu.put (.channel c) (Message.present a.tag x.count a.cls a.target []).bytes) ∧
      (announces = false ∨ a.autoDescribe = false → t.cmu = s.cmu) ∧
      (a.enabled = true → a.tag = 0x00 → t.drivesAlrt = true)) ∧
    (x.deb.active = true → exec (.talkDeactivation c) s =
      .next { s with asp := { s.asp with talk := s.asp.talk.set c ⟨⟨false, 0⟩, x.count⟩ } })

/-- R57 to R59: a strobe at an enabled record channel: what it opens, extends, finishes and discards. R56: a byte written to a
disabled channel, or in LOADING, is discarded. -/
def Obligations.RecordStrobesBuildRecords : Prop :=
  (∀ (r : Fin 2) (rsor : Bool) (byte : Byte) (s : State), s.cfl.node ≠ .running ∨ (s.cfg.rsp.get r).enabled = false →
    exec (.recordByteStrobe r rsor byte) s = .next s) ∧
  ∀ (r : Fin 2) (rsor : Bool) (byte : Byte) (s : State), s.cfl.node = .running → (s.cfg.rsp.get r).enabled = true →
    ∃ t, exec (.recordByteStrobe r rsor byte) s = .next t ∧ t = { s with rsp := t.rsp, counters := t.counters } ∧
      (∀ q, q ≠ r → t.rsp.get q = s.rsp.get q) ∧
      (let x := s.rsp.get r; let y := t.rsp.get r
       let held := (x.recs.map (·.bytes.length)).sum
       let stored := x.cur ++ [byte]
       let counts (n : Nat) : Prop := t = (s.setRsp r y).bumpN .sourceRecordErrors n
       let discards (n : Nat) : Prop := y = { x with cur := [], entry := .discard } ∧ counts n
       let discarded : Prop := discards 1
       let finished : Prop := counts 0 ∧ y = { x with
         recs := x.recs ++ [⟨stored ++ [xorAll stored], 0, none⟩], cur := [], entry := .waitStart }
       (x.entry = .waitStart ∨ x.entry = .discard → rsor = true → (byte = 0x01 ∨ byte = 0x02 ∨ byte = 0x7F) →
         2 ≤ 2048 - held → y = { x with cur := [byte], entry := .header } ∧ counts 0) ∧
       (x.entry = .waitStart ∨ x.entry = .discard → rsor = true → byte ≠ 0x01 → byte ≠ 0x02 → byte ≠ 0x7F → discarded) ∧
       (x.entry = .waitStart ∨ x.entry = .discard → rsor = true → 2048 < held + 2 → discarded) ∧
       (x.entry = .waitStart → rsor = false → discarded) ∧
       (x.entry = .discard → rsor = false → y = x ∧ counts 0) ∧
       (x.entry = .header ∨ x.entry = .payload → rsor = true → (byte = 0x01 ∨ byte = 0x02 ∨ byte = 0x7F) →
         2 ≤ 2048 - held → y = { x with cur := [byte], entry := .header } ∧ counts 1) ∧
       (x.entry = .header ∨ x.entry = .payload → rsor = true → byte ≠ 0x01 → byte ≠ 0x02 → byte ≠ 0x7F → discards 2) ∧
       (x.entry = .header ∨ x.entry = .payload → rsor = true → 2048 < held + 2 → discards 2) ∧
       (x.entry = .header ∨ x.entry = .payload → rsor = false → 2048 < held + x.cur.length + 2 → discarded) ∧
       (x.entry = .header → rsor = false → held + x.cur.length + 2 ≤ 2048 →
         (x.cur.length ≠ 2 → y = { x with cur := stored } ∧ counts 0) ∧
         (x.cur.length = 2 → recordLength stored = 0 → finished) ∧
         (x.cur.length = 2 → 1019 < recordLength stored → discarded) ∧
         (x.cur.length = 2 → recordLength stored ≤ 1019 → recordLength stored ≠ 0 → x.cur.getD 0 0 = 0x7F → discarded) ∧
         (x.cur.length = 2 → recordLength stored ≤ 1019 → recordLength stored ≠ 0 → x.cur.getD 0 0 ≠ 0x7F →
           y = { x with cur := stored, entry := .payload } ∧ counts 0)) ∧
       (x.entry = .payload → rsor = false → held + x.cur.length + 2 ≤ 2048 →
         (stored.length ≠ 3 + recordLength stored → y = { x with cur := stored } ∧ counts 0) ∧
         (stored.length = 3 + recordLength stored → finished)))

/-! ### Control messages (chapter 4) -/

/-- R63 to R65: every kind of message laid out in bytes is read back as the message it was, its text replaced. -/
def Obligations.MessagesReadBackAsWritten : Prop :=
  ∀ (kind : Byte) (p : List Byte) (m : Message), parseMessage kind p = some m →
    parseMessage (m.body.getD 0 0) (m.body.drop 2) = some m ∧ (m.body.getD 0 0) = kind ∧
      (m.body.getD 1 0).toNat = p.length ∧ (m.body.drop 2).length = p.length

/-- R63, R74, R75: a receiver in HUNT that is given a message byte by byte, the first byte marked, completes that message at
its check byte and counts nothing; the table of the receive states, with short and bad messages; and what a slot of a data
frame does to the receivers that follow it, the *bad messages* counter and the dispatch. R73: at a map update the receivers are
given the four lowest control tags located. That a completed message waits in line for the command that takes it is the model's
choice (logs 1 and 20). -/
def Obligations.ReceiverCompletesASentMessage : Prop :=
  (∀ (kind : Byte) (p : List Byte) (m : Message) (r : Receiver), parseMessage kind p = some m → r.state = .hunt →
    let feed := fun (x : Receiver × Nat × List Message) (b : Byte × Bool) =>
      let y := x.1.take b.1 b.2
      (y.1, x.2.1 + y.2.1, x.2.2 ++ y.2.2.toList)
    let sent := m.bytes.mapIdx fun i b => (b, decide (i = 0))
    (sent.foldl feed (r, 0, [])).2 = (0, [m]) ∧ (sent.foldl feed (r, 0, [])).1.state = .hunt) ∧
  (∀ (r : Receiver) (byte : Byte) (mark : Bool), ReceiverFollowsTheTable r byte mark) ∧
  (∀ (k : Fin 40) (byte : Byte) (ninth : Bool) (wait : Fin 13) (s : State), s.nothingDue →
    (s.tlu.link = .locked ∨ s.tlu.link = .leading) → s.tlu.frame ≠ 0 → s.tlu.slotsDone ≤ k.val →
    ∃ t, exec (.slotCompletion k ⟨byte, ninth⟩ wait) s = .next t ∧ ReceiversTake k byte ninth s t) ∧
  ∀ (byte : Byte) (ninth : Bool) (wait : Fin 13) (s : State), s.nothingDue →
    (s.tlu.link = .locked ∨ s.tlu.link = .leading) → s.tlu.frame = 0 → s.tlu.slotsDone ≤ 39 →
    ∃ t, exec (.slotCompletion 39 ⟨byte, ninth⟩ wait) s = .next t ∧
      let heard := ((t.smu.locator.filter fun (i : LocItem) => decide (tagKind i.tag = .control)).take 4).map
        fun (i : LocItem) => (i.tag, i.first)
      let old := fun i => s.cmu.rx.get i
      let new := fun i => t.cmu.rx.get i
      (∀ i a, (new i).tag = some a → (a, (new i).slot) ∈ heard) ∧
      (∀ a k, (a, k) ∈ heard → (∃ i, (new i).tag = some a) ∨ ∀ i, (new i).tag ≠ none) ∧
      (∀ i a, (old i).tag = some a → (a, (old i).slot) ∈ heard → new i = old i) ∧
      (∀ i a k, (old i).tag = some a → (a, k) ∈ heard → k ≠ (old i).slot → new i = ⟨some a, k, .hunt, [], 0⟩) ∧
      (∀ i a, (old i).tag = some a → (∀ k, (a, k) ∉ heard) → (new i).tag ≠ some a) ∧
      (∀ i a, (old i).tag = none → (new i).tag = some a → (new i).state = .hunt ∧ (new i).bytes = [])

/-- R78, R79: a dispatched WAKE MISSED refreshes its entry, or joins the list, the oldest leaving a full one; the seconds
prescaler's expiry ages every entry by one second, up to 65,535, and reloads. -/
def Obligations.MissedWakesAreListedAndAge : Prop :=
  ∀ s : State,
    (∀ (n b st : Nat) (rest : List Message), s.cmu.dispatch = .wakeMissed n b st :: rest →
      let same : MissedEntry → Bool := fun e => decide (e.node = n ∧ e.berth = b)
      let listed (l : List MissedEntry) : State := { s with
        cmu := { s.cmu with dispatch := rest, missed := l ++ [⟨n, b, st, 0⟩] } }
      (s.cmu.missed.any same = true →
        exec .wakeMissed s = .next (listed (s.cmu.missed.filter fun e => !same e))) ∧
      (s.cmu.missed.any same = false → s.cmu.missed.length < 16 → exec .wakeMissed s = .next (listed s.cmu.missed)) ∧
      (s.cmu.missed.any same = false → 16 ≤ s.cmu.missed.length →
        exec .wakeMissed s = .next ((listed (s.cmu.missed.drop 1)).bump .listEvictions))) ∧
    (s.cmu.prescaler = 0 →
      exec .secondsPrescalerExpiry s = .next { s with
        cmu := { s.cmu with
          prescaler := 1000, missed := s.cmu.missed.map fun e => { e with age := min (e.age + 1) 65535 } } })

/-- R79, R172: a dispatched WAKE CLEAR removes its entry, and moves a MISSED berth of this node to IDLE with stop 0; its
notice lamp follows (R138). -/
def Obligations.WakeClearClosesAMissedCall : Prop :=
  ∀ (n b : Nat) (rest : List Message) (s : State), s.cmu.dispatch = .wakeClear n b :: rest →
    ∃ t, exec .wakeClear s = .next t ∧ t = { s with cmu := t.cmu, bcu := t.bcu, wku := t.wku } ∧
      t.cmu = { s.cmu with
        dispatch := rest, missed := s.cmu.missed.filter fun e => !decide (e.node = n ∧ e.berth = b) } ∧
      (∀ i : Fin 4, i.val = b → n = s.cfl.address → s.configured i = true → (s.wku.get i).state = .missed →
        t.wku.get i = { s.wku.get i with state := .idle } ∧ (t.bcu.get i).stop = 0 ∧
        (t.bcu.get i).userLevel = (s.bcu.get i).userLevel ∧ LampFollows s t i) ∧
      (∀ i : Fin 4, i.val ≠ b ∨ n ≠ s.cfl.address ∨ s.configured i = false ∨ (s.wku.get i).state ≠ .missed →
        t.wku.get i = s.wku.get i ∧ t.bcu.get i = s.bcu.get i)

/-! ### Announcements (chapter 5) -/

/-- R82, R84 to R87: a dispatched PRESENT: A0's card text; a renewed or a new description of a tag that has an entry; an entry
for a tag that has none, the lowest FREE one or the DESCRIBED one of the greatest age; or *table full*. That an entry whose expiry
is due and not taken counts as FREE is the model's choice (log 1). -/
def Obligations.PresentDescribesAnAnnouncement : Prop :=
  (∀ s : State,
    let entry := fun i => s.anu.entries.get i
    let free := fun i => (entry i).state = .free ∨ ((entry i).state = .fading ∧ 8 ≤ (entry i).absence) ∨
      ((entry i).state = .described ∧ 2000 ≤ (entry i).age)
    (∀ tag,
      (∀ i, s.entryOf tag = some i → i ≠ 0 ∧ (entry i).tag = some tag ∧ ¬free i ∧
        ∀ j, j ≠ 0 → j < i → (entry j).tag = some tag → free j) ∧
      (s.entryOf tag = none ↔ ∀ i, i ≠ 0 → (entry i).tag = some tag → free i)) ∧
    (∀ i, s.freeEntry = some i → i ≠ 0 ∧ free i ∧ ∀ j, j ≠ 0 → j < i → ¬free j) ∧
    (s.freeEntry = none ↔ ∀ i, i ≠ 0 → ¬free i) ∧
    (∀ i, s.oldestDescribed = some i → i ≠ 0 ∧ (entry i).state = .described ∧
      ∀ j, j ≠ 0 → (entry j).state = .described → (entry j).age < (entry i).age ∨ ((entry j).age = (entry i).age ∧ i ≤ j)) ∧
    (s.oldestDescribed = none ↔ ∀ i, i ≠ 0 → (entry i).state ≠ .described)) ∧
  ∀ (tag seq : Byte) (cls : AnnClass) (target : Target) (text : List Byte) (rest : List Message) (s : State),
    s.cmu.dispatch = .present tag seq cls target text :: rest →
    let s' := { s with cmu := { s.cmu with dispatch := rest } }
    let taken : AnnClass := if cls = .wake ∧ target.kindByte ≠ 2 then .crew else cls
    let entry := fun i => s.anu.entries.get i
    (tag = 0x00 → exec .present s = .next (s'.setEntry 0 { entry 0 with text := text, textMark := true })) ∧
    (∀ i, tag ≠ 0x00 → s.entryOf tag = some i → (entry i).seq = some seq →
      exec .present s = .next (s'.setEntry i { entry i with age := 0 })) ∧
    (∀ i, tag ≠ 0x00 → s.entryOf tag = some i → (entry i).seq ≠ some seq → (entry i).state ≠ .undescribed →
      exec .present s = .next (s'.setEntry i { entry i with
        seq := some seq, cls := some taken, target := some target, text := text, age := 0, textMark := true })) ∧
    (∀ i, tag ≠ 0x00 → s.entryOf tag = some i → (entry i).seq ≠ some seq → (entry i).state = .undescribed →
      exec .present s = .next (s'.setEntry i { entry i with
        seq := some seq, cls := some taken, target := some target, text := text, age := 0, textMark := true
        state := .active, stamp := .pending, absence := 0 })) ∧
    (∀ i, tag ≠ 0x00 → s.entryOf tag = none →
      s.freeEntry = some i ∨ (s.freeEntry = none ∧ s.oldestDescribed = some i) →
      exec .present s = .next (s'.setEntry i ⟨some tag, .described, some seq, some taken, some target, text, .absent, 0, 0,
        (entry i).freed, true⟩)) ∧
    (tag ≠ 0x00 → s.entryOf tag = none → s.freeEntry = none → s.oldestDescribed = none →
      exec .present s = .next (s'.bump .tableFull))

/-- R88, R92, R101: a dispatched WITHDRAW with the entry's sequence, the eighth miss of a FADING entry and the age limit of a
DESCRIBED one make the entry FREE and end the follows that name it; a WITHDRAW with any other sequence changes nothing. -/
def Obligations.EntriesAreFreed : Prop :=
  ∀ s : State,
    let framed (t : State) : Prop := t = { s with
      anu := t.anu, mix := t.mix, wku := t.wku, sfu := t.sfu, bcu := t.bcu, cmu := t.cmu, counters := t.counters }
    (∀ (tag seq : Byte) (rest : List Message), s.cmu.dispatch = .withdraw tag seq :: rest →
      (∀ i, s.entryOf tag = some i → (s.anu.entries.get i).seq = some seq →
        ∃ t, exec .withdraw s = .next t ∧ EntryFreed s t i ∧ framed t ∧ t.cmu.dispatch = rest ∧
          t.cmu.missed = s.cmu.missed ∧ t.anu.zones = s.anu.zones) ∧
      ((∀ i, s.entryOf tag = some i → (s.anu.entries.get i).seq ≠ some seq) →
        exec .withdraw s = .next { s with cmu := { s.cmu with dispatch := rest } })) ∧
    ∀ i : Fin 16, i ≠ 0 →
      ((s.anu.entries.get i).state = .fading → 8 ≤ (s.anu.entries.get i).absence →
        ∃ t, exec (.fadingExpiry i) s = .next t ∧ EntryFreed s t i ∧ framed t ∧ t.anu.zones = s.anu.zones) ∧
      ((s.anu.entries.get i).state = .described → 2000 ≤ (s.anu.entries.get i).age →
        ∃ t, exec (.descriptionAgeExpiry i) s = .next t ∧ EntryFreed s t i ∧ framed t ∧ t.anu.zones = s.anu.zones)

/-- R94 to R96: entry 0 returns to IDLE and keeps its card text; a change of the alert line is accepted at its third sample; a
dispatched ZONE MODE sets every zone whose bit is set in the mask, and no other. -/
def Obligations.AlertAndZonesChange : Prop :=
  ∀ s : State,
    ((s.anu.entries.get 0).state = .fading → 8 ≤ (s.anu.entries.get 0).absence →
      exec .entry0FadeExpiry s = .next
        (s.setEntry 0 { s.anu.entries.get 0 with state := .idle, absence := 0, stamp := .absent })) ∧
    (s.anu.alert.run = 3 →
      exec .alertStateAccepted s = .next { s with anu := { s.anu with alert := ⟨!s.anu.alert.active, 0⟩ } }) ∧
    ∀ (mask : BitVec 16) (mode : ZoneMode) (rest : List Message), s.cmu.dispatch = .zoneMode mask mode :: rest →
      ∃ t, exec .zoneMode s = .next t ∧
        t = { s with cmu := { s.cmu with dispatch := rest }, anu := { s.anu with zones := t.anu.zones } } ∧
        ∀ z, t.anu.zones.get z = if mask.getLsbD z.val = true then mode else s.anu.zones.get z

/-- R97, R98: whom a target includes; the routing matrix; and that an entry admits a berth when it is ACTIVE or FADING, its
target includes the berth and an output is admitted. R98, R100: the record of an entry that admits a berth names the entry and
its class, and has the outputs of the routing matrix. That a FADING entry whose expiry is due and not taken admits no berth is
the model's choice (log 1). -/
def Obligations.TargetsAndMatrixAdmit : Prop :=
  (∀ (s : State) (b : Fin 4),
    (s.configured b = true →
      s.targetIncludes .all b = true ∧
      (∀ m, s.targetIncludes (.zones m) b = m.getLsbD ((s.berthCfg b).zone - 1)) ∧
      (∀ st, s.targetIncludes (.stop st) b = true ↔ (s.bcu.get b).stop = st) ∧
      (∀ st, 1 ≤ st → st ≤ 250 → (s.bcu.get b).stop = 0 → s.targetIncludes (.stop st) b = false)) ∧
    (s.configured b = false → (∀ t, s.targetIncludes t b = false) ∧ s.selectFollow b = ⟨none, false, false, none⟩)) ∧
  (∀ z w, routing .alert z w = (true, true)) ∧
  (∀ z, routing .wake z .armed = (true, true) ∧ routing .wake z .calling = (true, true) ∧
    routing .wake z .missed = (true, true) ∧ routing .wake z .acked = (true, false) ∧
    routing .wake z .idle = (false, false)) ∧
  (∀ w, routing .crew .day w = (true, true) ∧ routing .crew .night w = (true, false) ∧
    routing .service .day w = (true, false) ∧ routing .service .night w = (false, false)) ∧
  ∀ (s : State) (b : Fin 4) (i : Fin 16) (c : AnnClass) (t : Target), (s.anu.entries.get i).cls = some c →
    (s.anu.entries.get i).target = some t →
    ((s.admission b i).isSome = true ↔
      ((s.anu.entries.get i).state = .active ∨
        ((s.anu.entries.get i).state = .fading ∧ (s.anu.entries.get i).absence < 8)) ∧
      s.targetIncludes t b = true ∧ (routing c (s.zoneMode b) (s.wku.get b).state).1 = true) ∧
    ∀ f, s.admission b i = some f → f.entry = some i ∧ f.cls = some c ∧
      (f.headset, f.pillow) = routing c (s.zoneMode b) (s.wku.get b).state

/-- R99: a berth with no admissible entry follows nothing; otherwise it follows an admissible entry that no other beats: no
entry is of a better class, and within the class it is the incumbent, or has the earliest stamp, the lower index winning; an
incumbent of the best class is kept. R100: an evaluation publishes a record that differs, or whose entry has its text mark set,
and what its publication does in the Mixer, the Wake Unit and the Screen Feed Unit (R149 to R151, R166 to R168, R188),
with the notice lamp derived where the call or the card began (R138). That the
counts which a LIVE card of the follow record does not use are 0 is the model's choice (log 30). -/
def Obligations.FollowIsOfTheBestClass : Prop :=
  (∀ (s : State) (b : Fin 4),
    ((∀ i, s.admission b i = none) → s.selectFollow b = ⟨none, false, false, none⟩) ∧
    (∀ i f, s.admission b i = some f →
      ∃ j, s.admission b j = some (s.selectFollow b) ∧
        (classRank (s.selectFollow b) < classRank f ∨
          (classRank (s.selectFollow b) = classRank f ∧
            (s.incumbent b = some (s.selectFollow b) ∨ s.stampOf j < s.stampOf i ∨
              (s.stampOf j = s.stampOf i ∧ j ≤ i))))) ∧
    (∀ g, s.incumbent b = some g ↔
      ∃ i, (s.anu.follow.get b).entry = some i ∧ (s.anu.entries.get i).freed = false ∧ s.admission b i = some g) ∧
    ∀ g, s.incumbent b = some g → (∀ i f, s.admission b i = some f → classRank g ≤ classRank f) →
      s.selectFollow b = g) ∧
  (∀ (s : State) (b : Fin 4),
    let new := s.selectFollow b
    let marked : Prop := ∃ i, new.entry = some i ∧ (s.anu.entries.get i).textMark = true
    (new = s.anu.follow.get b → ¬marked → s.followBerth b = s) ∧
    (new ≠ s.anu.follow.get b ∨ marked → s.followBerth b = s.publish b new) ∧
    (s.configured b = true → s.evaluate.anu.follow.get b = s.evaluateTable.selectFollow b)) ∧
  ∀ (s : State) (b : Fin 4) (new : Follow),
    let t := s.publish b new
    t = { s with
      anu := { s.anu with follow := s.anu.follow.set b new }, mix := t.mix, wku := t.wku, bcu := t.bcu, sfu := t.sfu
      cmu := t.cmu, counters := t.counters } ∧
    (∀ c, c ≠ b → t.mix.get c = s.mix.get c ∧ t.wku.get c = s.wku.get c ∧ t.bcu.get c = s.bcu.get c ∧
      t.feed c = s.feed c) ∧
    MixerTakesFollow s t b new ∧ WakeTakesFollow s t b new ∧ ScreenTakesFollow s t b new ∧ LampFollows s t b ∧
    OnlyLampChanged s t b

/-! ### Capture (chapter 6) -/

/-- R114, the decoding of a log code, with the table, and of an encoded sample. -/
def Obligations.LogCodesDecode : Prop :=
  (∀ code : Byte,
    let g := code.toNat / 128; let e := code.toNat / 16 % 8; let m := code.toNat % 16
    let mag := (16 + m) * 2 ^ e - 16
    mag ≤ 3952 ∧ logDecode code = (if g = 1 then -((mag * 8 : Nat) : Int) else ((mag * 8 : Nat) : Int)) ∧
    -31616 ≤ logDecode code ∧ logDecode code ≤ 31616 ∧
    (m < 15 → (logDecode (code + 1)).natAbs = (logDecode code).natAbs + 8 * 2 ^ e)) ∧
  (logDecode 0x00 = 0 ∧ logDecode 0x80 = 0 ∧ logDecode 0x0F = 120 ∧ logDecode 0x10 = 128 ∧ logDecode 0x4A = 3200 ∧
    logDecode 0xB5 = -1216 ∧ logDecode 0x7F = 31616 ∧ logDecode 0xFF = -31616) ∧
  ∀ x : BitVec 16,
    let v := logDecode (logEncode x)
    v.natAbs ≤ x.toInt.natAbs ∧ (0 ≤ x.toInt → 0 ≤ v) ∧ (x.toInt ≤ 0 → v ≤ 0) ∧
    ∀ code : Byte, code.toNat / 16 = (logEncode x).toNat / 16 → (logDecode code).natAbs ≤ x.toInt.natAbs →
      (logDecode code).natAbs ≤ v.natAbs

/-- R113, R115, R116: a slot of a data frame at the lanes: a good code becomes last good, bad parity or an undriven slot gives
no sample, and bad parity counts a parity error for each lane; a data frame end counts a miss of a lane that took no good sample;
at the 24th miss a lane's last good becomes 0. R25: bad parity in an audio slot adds to the slot's running count. That last good
stands from the data frame end of the 24th miss until MISS_COUNT_LIMIT is taken is the model's choice (log 1). -/
def Obligations.AudioLanesCapture : Prop :=
  (∀ (k : Fin 40) (byte : Byte) (ninth : Bool) (wait : Fin 13) (s : State), s.nothingDue →
    (s.tlu.link = .locked ∨ s.tlu.link = .leading) → s.tlu.frame ≠ 0 → s.tlu.slotsDone ≤ k.val →
    ∃ t, exec (.slotCompletion k ⟨byte, ninth⟩ wait) s = .next t ∧
      t = { s with
        tlu := t.tlu, smu := t.smu, rsp := t.rsp, cmu := t.cmu, lcu := t.lcu, sfu := t.sfu, counters := t.counters } ∧
      ∀ l : Fin 24, let x := s.lcu.lanes.get l; let y := t.lcu.lanes.get l
        (x.isAudio = true → x.slot = some k.val → oddParity byte ninth = true → ¬(byte = 0xFF ∧ ninth = true) →
          y = { x with lastGood := logDecode byte, miss := 0, got := true }) ∧
        (x.isAudio = true → x.slot = some k.val → oddParity byte ninth = false ∨ (byte = 0xFF ∧ ninth = true) → y = x) ∧
        (x.isAudio = false ∨ x.slot ≠ some k.val → y = x)) ∧
  (∀ (k : Fin 40) (byte : Byte) (ninth : Bool) (wait : Fin 13) (s : State), s.nothingDue →
    (s.tlu.link = .locked ∨ s.tlu.link = .leading) → s.tlu.frame ≠ 0 → s.tlu.slotsDone ≤ k.val →
    ∃ t, exec (.slotCompletion k ⟨byte, ninth⟩ wait) s = .next t ∧
      (let bad := (List.finRange 24).filter fun l =>
         decide ((s.lcu.lanes.get l).isAudio = true ∧ (s.lcu.lanes.get l).slot = some k.val ∧ oddParity byte ninth = false)
       t.counter .parityErrors = satInc^[bad.length] (s.counter .parityErrors)) ∧
      (let kind := tagKind (s.smu.map.get k).tag
       t.smu.running.get k = s.smu.running.get k +
         if (kind = .alert ∨ kind = .announcement ∨ kind = .audio) ∧ oddParity byte ninth = false then 1 else 0) ∧
      ∀ j, j ≠ k → t.smu.running.get j = s.smu.running.get j) ∧
  (∀ (c : Instr) (n : Nat) (fs : FrameStart) (s : State), s.nothingDue → fs.plain → StartsFrame s fs n c →
    ∃ t, exec c s = .next t ∧ ∀ l : Fin 24, let x := s.lcu.lanes.get l; let y := t.lcu.lanes.get l
      (1 ≤ s.tlu.frame → x.isAudio = true → x.got = true → y = { x with got := false }) ∧
      (1 ≤ s.tlu.frame → x.isAudio = true → x.got = false → y = { x with miss := min (x.miss + 1) 24 }) ∧
      (s.tlu.frame = 0 ∨ x.isAudio = false → y = x)) ∧
  ∀ (l : Fin 24) (s : State), (s.lcu.lanes.get l).isAudio = true → (s.lcu.lanes.get l).miss = 24 →
    exec (.missCountLimit l) s = .next (s.setLane l { s.lcu.lanes.get l with lastGood := 0 })

/-- R107, R108: the demand list. R18, R109, R110: the grant point at the start of frame 13 grants down the demand list, which
makes the pending set, and counts the denials; what is granted fits the pool, comes from the list, and is located; a list that
fits whole is denied nothing. R111, R112, R121: at a map update the pending set becomes the active one: kept streams keep their
lanes, dropped ones lose theirs, new ones take lanes and an assembler, every lane is given its slot by the locator, and a video
stream that is dropped or retargeted reports a loss. -/
def Obligations.GrantsFitThePool : Prop :=
  (∀ (loc : List LocItem) (demands : List Grant),
    let t := grantDown loc demands ([], 0)
    (t.1.map Grant.lanes).sum ≤ 24 ∧ (t.1.map Grant.assemblers).sum ≤ 8 ∧ t.1.Sublist demands ∧
    (∀ g ∈ t.1, ∃ i, locate loc g.tag = some i ∧ (isVideo g.tag = true → i.run = g.run)) ∧
    ((demands.map Grant.lanes).sum ≤ 24 → (demands.map Grant.assemblers).sum ≤ 8 → t.2 = 0)) ∧
  (∀ loc : List LocItem, GrantedInOrder loc) ∧ (∀ s : State, DemandsListed s) ∧
  (∀ (c : Instr) (n : Nat) (fs : FrameStart) (s : State), s.nothingDue → fs.plain → StartsFrame s fs n c →
    (s.tlu.link = .locked ∨ s.tlu.link = .leading → n = 13 → ∃ t, exec c s = .next t ∧
      let granted := grantDown s.smu.locator s.demands ([], 0)
      t.lcu.pendingSet = some granted.1 ∧ t.lcu.active = s.lcu.active ∧
        t.counter .laneDenials = satInc^[granted.2] (s.counter .laneDenials)) ∧
    (s.tlu.link = .listen ∨ n ≠ 13 → ∃ t, exec c s = .next t ∧ t.lcu.pendingSet = s.lcu.pendingSet ∧
        t.counter .laneDenials = s.counter .laneDenials)) ∧
  ∀ (byte : Byte) (ninth : Bool) (wait : Fin 13) (s : State), s.nothingDue →
    (s.tlu.link = .locked ∨ s.tlu.link = .leading) → s.tlu.frame = 0 → s.tlu.slotsDone ≤ 39 →
    (s.lcu.active.map (·.tag)).Nodup → (∀ p, s.lcu.pendingSet = some p → (p.map (·.tag)).Nodup) →
    let next := s.lcu.pendingSet.getD s.lcu.active
    let tagged (lanes : Table 24 Lane) (a : Byte) : List Lane := lanes.toList.filter fun (l : Lane) => decide (l.tag = some a)
    ∃ t, exec (.slotCompletion 39 ⟨byte, ninth⟩ wait) s = .next t ∧ t.lcu.pendingSet = none ∧ t.lcu.active = next ∧
      (∀ l, ∀ g ∈ next, let x := t.lcu.lanes.get l
        x.tag = some g.tag →
        (∀ i, locate t.smu.locator g.tag = some i → isVideo g.tag = false ∨ i.run = g.run →
          x.slot = some (i.first + x.position)) ∧
        (∀ i, locate t.smu.locator g.tag = some i → isVideo g.tag = true → i.run ≠ g.run → x.slot = none) ∧
        (locate t.smu.locator g.tag = none → x.slot = none)) ∧
      (∀ l, ∀ g ∈ s.lcu.active, g ∈ next → (s.lcu.lanes.get l).tag = some g.tag →
        t.lcu.lanes.get l = { s.lcu.lanes.get l with slot := (t.lcu.lanes.get l).slot }) ∧
      (∀ g ∈ s.lcu.active, (∀ n ∈ next, n.tag ≠ g.tag) →
        (∀ l, (t.lcu.lanes.get l).tag ≠ some g.tag) ∧ ∀ a, (t.lcu.asm.get a).tag ≠ some g.tag) ∧
      (s.lcu.active = [] → (∀ l, (s.lcu.lanes.get l).tag = none) → (∀ a, (s.lcu.asm.get a).tag = none) →
        (next.map Grant.lanes).sum ≤ 24 → (next.map Grant.assemblers).sum ≤ 8 → ∀ g ∈ next,
        (tagged t.lcu.lanes g.tag).map (·.position) = List.range g.lanes ∧
        (∀ x ∈ tagged t.lcu.lanes g.tag, x.lastGood = 0 ∧ x.miss = 0) ∧
        (isVideo g.tag = true →
          (t.lcu.asm.toList.filter fun (a : Assembler) => decide (a.tag = some g.tag)) = [⟨some g.tag, .hunt, [], 0⟩])) ∧
      (∀ g ∈ s.lcu.active, isVideo g.tag = true →
        let retargeted : Prop := g ∈ next ∧
          (tagged t.lcu.lanes g.tag).map (·.slot) ≠ (tagged s.lcu.lanes g.tag).map (·.slot)
        (retargeted → ∀ a, (t.lcu.asm.get a).tag = some g.tag → t.lcu.asm.get a = ⟨some g.tag, .hunt, [], 0⟩) ∧
        (g ∉ next ∨ retargeted → ∀ b, s.configured b = true → (s.bcu.get b).pendingChoice = none →
          (s.feed b).video = some g.tag → (s.feed b).state = .following →
          (t.feed b).state = .waitKey ∧ (t.feed b).waitKey = some 3000))

/-- R118, R119, R176: an assembler in HUNT that takes a whole record of at most 1019 payload bytes, its type byte marked,
delivers that record. R118 to R121, R181: the table of the assembler states, with short, overlong and check-error records; what
a slot of a data frame does to the assemblers whose streams' lanes capture it, with the counters, the loss reports and the good
records that wait for the screens; and an abandoned data frame, which ends a record in progress as short when a slot of its run
did not complete. That a good record waits in line for RECORD_DELIVERED is the model's choice (logs 1 and 20), and so is that
the tick of a frame 0 counts the wait-key timers before the frame that a mark cuts is ended there (log 5). -/
def Obligations.AssemblerDeliversAWholeRecord : Prop :=
  (∀ (a : Assembler) (byte : Byte) (mark : Bool), AssemblerFollowsTheTable a byte mark) ∧
  (∀ (k : Fin 40) (byte : Byte) (ninth : Bool) (wait : Fin 13) (s : State), s.nothingDue →
    (s.tlu.link = .locked ∨ s.tlu.link = .leading) → s.tlu.frame ≠ 0 → s.tlu.slotsDone ≤ k.val →
    ∃ t, exec (.slotCompletion k ⟨byte, ninth⟩ wait) s = .next t ∧ AssemblersTake k byte ninth s t) ∧
  (∀ (run start : Nat) (fs : FrameStart) (s : State), s.nothingDue → fs.plain → 12 ≤ run → 1 ≤ start → start ≤ 415 →
    s.tlu.link = .locked ∨ s.tlu.link = .leading → s.cfg.trunkPolicy = .follow → 1 ≤ s.tlu.frame →
    ∃ t, exec (.markRecognised run start fs) s = .next t ∧
      (∀ i, let a := s.lcu.asm.get i
        (CutByTheFrame s s.tlu.slotsDone a → t.lcu.asm.get i = ⟨a.tag, .skip, [], 0⟩) ∧
        (¬CutByTheFrame s s.tlu.slotsDone a → t.lcu.asm.get i = a)) ∧
      (∀ cut : List (Fin 8), cut.Nodup → (∀ i, i ∈ cut ↔ CutByTheFrame s s.tlu.slotsDone (s.lcu.asm.get i)) →
        t.counter .shortRecords = satInc^[cut.length] (s.counter .shortRecords)) ∧
      LossesReported (fun v => ∃ i, (s.lcu.asm.get i).tag = some v ∧ CutByTheFrame s s.tlu.slotsDone (s.lcu.asm.get i)) s t) ∧
  ∀ (type : Byte) (payload : List Byte) (a : Assembler), payload.length ≤ 1019 → type ≠ 0xFF → a.state = .hunt →
    let feed := fun (x : Assembler × List AsmOut) (b : Byte × Bool) =>
      let y := x.1.take b.1 b.2
      (y.1, x.2 ++ [y.2])
    let sent := (screenRecord type payload).mapIdx fun i b => (b, decide (i = 0))
    (sent.foldl feed (a, [])).2 =
        List.replicate (payload.length + 3) AsmOut.nothing ++ [.good (screenRecord type payload)] ∧
      (sent.foldl feed (a, [])).1.state = .hunt

/-! ### Berths (chapter 7) -/

/-- R127, R128, R153: an accepted VOL press steps the user level, hands it to the Mixer and loads the repeat timer with 600; a
held button repeats its step and reloads the timer with 250, VOL+ before VOL-; its accepted release stops the timer. A level
handed over becomes the programme's at once in UNDUCKED, and gives it a new duck target in DUCKED and HOLDING. -/
def Obligations.VolumeStepsAndRepeats : Prop :=
  ∀ (b : Fin 4) (s : State),
    (∀ d : Dir, s.inputDue b (if d = .up then .volUp else .volDown) true = true →
      let max := (s.berthCfg b).maxLevel
      let old := (s.bcu.get b).userLevel
      ∃ t, exec (.volPress b d) s = .next t ∧ t = { s with bcu := t.bcu, mix := t.mix } ∧
        LevelHandedOver s t b ∧
        (d = .up → old = .mute → (t.bcu.get b).userLevel = .lvl 0) ∧
        (∀ n, d = .up → old = .lvl n → n < max → (t.bcu.get b).userLevel = .lvl (n + 1)) ∧
        (∀ n, d = .up → old = .lvl n → max ≤ n → (t.bcu.get b).userLevel = old) ∧
        (d = .down → old = .mute ∨ old = .lvl 0 → (t.bcu.get b).userLevel = .mute) ∧
        (∀ n, d = .down → old = .lvl (n + 1) → (t.bcu.get b).userLevel = .lvl n) ∧
        (if d = .up then (t.bcu.get b).repUp else (t.bcu.get b).repDown) = some 600 ∧
        ((t.bcu.get b).input (if d = .up then .volUp else .volDown)) = ⟨true, 0⟩) ∧
    ((s.bcu.get b).inputsTaken = true → (s.bcu.get b).repUp = some 0 → ((s.bcu.get b).input .volUp).active = true →
      ∃ t, exec (.repeatTimerExpiry b .up) s = .next t ∧ t = { s with bcu := t.bcu, mix := t.mix } ∧
        (t.bcu.get b).repUp = some 250 ∧ (t.bcu.get b).repDown = (s.bcu.get b).repDown ∧
        (t.bcu.get b).userLevel = volumeStep (s.berthCfg b).maxLevel .up (s.bcu.get b).userLevel ∧ LevelHandedOver s t b) ∧
    ((s.bcu.get b).inputsTaken = true → (s.bcu.get b).repUp ≠ some 0 → (s.bcu.get b).repDown = some 0 →
      ((s.bcu.get b).input .volDown).active = true →
      ∃ t, exec (.repeatTimerExpiry b .down) s = .next t ∧ t = { s with bcu := t.bcu, mix := t.mix } ∧
        (t.bcu.get b).repDown = some 250 ∧ (t.bcu.get b).repUp = (s.bcu.get b).repUp ∧
        (t.bcu.get b).userLevel = volumeStep (s.berthCfg b).maxLevel .down (s.bcu.get b).userLevel ∧ LevelHandedOver s t b) ∧
    (s.inputDue b .volUp false = true → exec (.volRelease b .up) s = .next
      (s.setBerth b { s.bcu.get b with inputs := (s.bcu.get b).inputs.set 1 ⟨false, 0⟩, repUp := none })) ∧
    (s.inputDue b .volDown false = true → exec (.volRelease b .down) s = .next
      (s.setBerth b { s.bcu.get b with inputs := (s.bcu.get b).inputs.set 2 ⟨false, 0⟩, repDown := none }))

/-- R125, R129, R130: an accepted CH press makes the input ACTIVE and steps from the pending choice, or from the current one, and cancels or replaces. -/
def Obligations.ChannelPressSelects : Prop :=
  ∀ (b : Fin 4) (d : Dir) (s : State), s.inputDue b (if d = .up then .chUp else .chDown) true = true →
    let x := s.bcu.get b
    let n := s.cfg.programme.length
    let start := x.pendingChoice.getD x.choice
    ∃ t, exec (.channelPress b d) s = .next t ∧ t = { s with bcu := t.bcu } ∧
      (∀ c, c ≠ b → t.bcu.get c = s.bcu.get c) ∧ (t.bcu.get b).userLevel = x.userLevel ∧
      (t.bcu.get b).input (if d = .up then .chUp else .chDown) = ⟨true, 0⟩ ∧
      ∃ landed : Choice,
        (n = 0 → start = .off → landed = .off) ∧ (d = .up → start = .off → 0 < n → landed = .entry 0) ∧
        (∀ i, d = .up → start = .entry i → landed = if i + 1 < n then .entry (i + 1) else .off) ∧
        (d = .down → start = .off → 0 < n → landed = .entry (n - 1)) ∧
        (d = .down → start = .entry 0 → landed = .off) ∧
        (∀ i, d = .down → start = .entry (i + 1) → landed = .entry i) ∧
        (t.bcu.get b).choice = x.choice ∧
        (landed = x.choice → (t.bcu.get b).pendingChoice = none ∧ (t.bcu.get b).pendingTimer = none) ∧
        (landed ≠ x.choice → (t.bcu.get b).pendingChoice = some landed ∧ (t.bcu.get b).pendingTimer = some 3000)

/-- R133, R184: at the expiry of the pending timer the pending choice becomes current and the feed follows it, without its
programme records that were not started. R126, R132: a pending choice without video completes at a map update, or in LISTEN at a
cycle tick. -/
def Obligations.PendingTimerCompletesTheSwitch : Prop :=
  (∀ (byte : Byte) (ninth : Bool) (wait : Fin 13) (s : State), s.nothingDue →
    (s.tlu.link = .locked ∨ s.tlu.link = .leading) → s.tlu.frame = 0 → s.tlu.slotsDone ≤ 39 →
    ∃ t, exec (.slotCompletion 39 ⟨byte, ninth⟩ wait) s = .next t ∧ CompletedWithoutVideo s t ∧
      ∀ b, (s.bcu.get b).pendingChoice = (t.bcu.get b).pendingChoice → (t.bcu.get b).pendingTimer = (s.bcu.get b).pendingTimer) ∧
  (∀ (fs : FrameStart) (s : State), s.nothingDue → fs.plain → s.tlu.link = .listen → s.tlu.lateRun = false → s.tlu.frame = 24 →
    ∃ t, exec (.flywheel ⟨.clear, fs⟩) s = .next t ∧ CompletedWithoutVideo s t) ∧
  ∀ (b : Fin 4) (ch : Choice) (s : State), (s.bcu.get b).pendingDue = true → (s.bcu.get b).pendingChoice = some ch →
    ∃ t, exec (.pendingTimerExpiry b) s = .next t ∧ t = { s with bcu := t.bcu, sfu := t.sfu, counters := t.counters } ∧
      t.bcu.get b = { s.bcu.get b with choice := ch, pendingChoice := none, pendingTimer := none } ∧
      (∀ c, c ≠ b → t.bcu.get c = s.bcu.get c ∧ t.feed c = s.feed c) ∧ t.sfu.inbox = s.sfu.inbox ∧
      (let f := s.feed b; let g := t.feed b
       let card (r : List Byte) : Bool := decide (r.head? = some 0x10 ∨ r.head? = some 0x11)
       (s.cfg.videoOf ch = none → g.state = .off ∧ g.video = none ∧ g.base = .rest ∧
         (f.base ≠ .rest → cardRecord 0 3 [] ∈ g.queue)) ∧
       (∀ v, s.cfg.videoOf ch = some v → g.state = .waitKey ∧ g.video = some v ∧ g.base = .unavailable ∧
         (f.base ≠ .unavailable → cardRecord 0 2 [] ∈ g.queue)) ∧
       g.waitKey = none ∧ g.overlay = f.overlay ∧ g.tx = f.tx ∧ g.sent = f.sent ∧
       (∀ r, f.tx = true → f.queue.head? = some r → g.queue.head? = some r) ∧
       (g.queue.filter fun r => !card r) = (if f.tx = true then f.queue.take 1 else []).filter fun r => !card r)

/-- R134, R169, R170, R190: an accepted ACK press acknowledges a CALLING or MISSED berth, and otherwise dismisses a LIVE MESSAGE
card. R138: the notice lamp leaves FLASH for ON while a card is shown, and for OFF otherwise. That the dismissed card keeps its seconds and prescaler in LINGER is the model's choice (log 30). -/
def Obligations.AckPressAcknowledgesOrDismisses : Prop :=
  ∀ (b : Fin 4) (s : State), s.inputDue b .ack true = true →
    ∃ t, exec (.ackPress b) s = .next t ∧
      t = { s with bcu := t.bcu, wku := t.wku, mix := t.mix, cmu := t.cmu, sfu := t.sfu } ∧
      (t.bcu.get b).input .ack = ⟨true, 0⟩ ∧ LampFollows s t b ∧
      ((s.wku.get b).state = .calling → t.wku.get b = { s.wku.get b with state := .acked } ∧
        (t.mix.get b).pillow.target = .mute ∧ t.cmu = s.cmu ∧ t.sfu = s.sfu ∧
        (t.bcu.get b).stop = (s.bcu.get b).stop) ∧
      ((s.wku.get b).state = .missed → t.wku.get b = { s.wku.get b with state := .idle } ∧ (t.bcu.get b).stop = 0 ∧
        t.cmu = s.cmu.put (.berth b) (Message.wakeClear s.cfl.address b.val).bytes ∧ t.mix = s.mix ∧ t.sfu = s.sfu) ∧
      (∀ o, (s.wku.get b).state ≠ .calling → (s.wku.get b).state ≠ .missed → (s.feed b).overlay = some o →
        o.source = .message → o.phase = .live →
        t.wku = s.wku ∧ (t.feed b).overlay = some { o with phase := .linger, linger := 2000 }) ∧
      ((s.wku.get b).state ≠ .calling → (s.wku.get b).state ≠ .missed →
        (∀ o, (s.feed b).overlay = some o → o.source ≠ .message ∨ o.phase ≠ .live) → t.wku = s.wku ∧ t.sfu = s.sfu)

/-- R125, R135, R138: headset detect, the releases that have no further effect, and the lamp's flash phase. -/
def Obligations.InputsAndLampAreTaken : Prop :=
  ∀ (b : Fin 4) (s : State),
    ((s.bcu.get b).inputTurn .headset = true → ∃ t, exec (.headsetDetectChange b) s = .next t ∧
      t = { s with bcu := t.bcu, mix := t.mix } ∧ (∀ c, c ≠ b → t.bcu.get c = s.bcu.get c) ∧
      t.headsetPresent b = (!s.headsetPresent b) ∧ t.mix = s.mix.set b { s.mix.get b with flag := !s.headsetPresent b }) ∧
    (∀ k : Button, let i : Fin 6 := match k with | .chUp => 3 | .chDown => 4 | .ack => 5
      s.inputDue b (match k with | .chUp => .chUp | .chDown => .chDown | .ack => .ack) false = true →
      exec (.buttonRelease b k) s = .next
        (s.setBerth b { s.bcu.get b with inputs := (s.bcu.get b).inputs.set i ⟨false, 0⟩ })) ∧
    ((s.bcu.get b).flashDue = true → exec (.flashPhaseExpiry b) s = .next
      (s.setBerth b { s.bcu.get b with lit := !(s.bcu.get b).lit, flash := some 250 }))

/-! ### The Mixer (chapter 8) -/

/-- R142: the gain factors. -/
def Obligations.GainFactorsFollowTheTable : Prop :=
  (∀ k j : Nat, j < 8 → 8 * k + j ≤ 48 →
    gainFactor (8 * k + j) = [128, 140, 152, 166, 181, 197, 215, 235].getD j 0 * 2 ^ k) ∧
  (∀ l, l + 8 ≤ 48 → gainFactor (l + 8) = 2 * gainFactor l) ∧ gainFactor 48 = 8192 ∧ gainFactor 0 = 128 ∧
  (List.range 49).map gainFactor =
    [128, 140, 152, 166, 181, 197, 215, 235, 256, 280, 304, 332, 362, 394, 430, 470, 512, 560, 608, 664, 724, 788, 860, 940] ++
    [1024, 1120, 1216, 1328, 1448, 1576, 1720, 1880, 2048, 2240, 2432, 2656, 2896, 3152, 3440, 3760] ++
    [4096, 4480, 4864, 5312, 5792, 6304, 6880, 7520, 8192]

/-- R143: scaling a sample by a level: the quotient by 8192 rounded toward minus infinity. -/
def Obligations.ScalingRoundsTowardMinusInfinity : Prop :=
  (∀ (x : Int) (l : Nat), l ≤ 48 →
    8192 * scale x (.lvl l) ≤ x * gainFactor l ∧ x * gainFactor l < 8192 * (scale x (.lvl l) + 1)) ∧
  (∀ x : Int, scale x .mute = 0) ∧ (∀ l, l ≤ 48 → gainFactor l ≤ 8192) ∧ (∀ x : Int, scale x (.lvl 48) = x) ∧
  scale 8 (.lvl 0) = 0 ∧ scale (-8) (.lvl 0) = -1 ∧
  ∀ (x : Int) (l : Level), (∀ n, l = .lvl n → n ≤ 48) → -31616 ≤ x → x ≤ 31616 → -31616 ≤ scale x l ∧ scale x l ≤ 31616

/-- R155 to R157: the pair of a berth: the headset sample limited to 16 bits and 0 without a headset, and the pillow sample
without programme audio. R117, R156: a berth's samples: last good of the lane of its choice's audio tag and of the tag of the entry
it follows, and none without a lane. R156, R158: a data frame end computes the pairs, and a data frame start sends the most recent ones on
HDAT and PDAT with a pulse on BFS. That the start of frame 1 sends frame 24's pair as it was made, whatever the headset flag
has become since, is the model's choice (log 32); that frame 24's pair is made before the tick's steps is one of the orders
that R156 allows, which such a frame start names (log 5). -/
def Obligations.PairsAreLimitedSums : Prop :=
  (∀ (c : Instr) (k : Nat) (fs : FrameStart) (s : State), s.nothingDue → fs.plain → StartsFrame s fs k c →
    s.tlu.link ≠ .listen → ∃ t, exec c s = .next t ∧ t.bfs = decide (k ≠ 0) ∧
      ∀ b, let m := s.mix.get b; let n := t.mix.get b
        let sent (pair : Int × Int) : Prop := n.hdat = BitVec.ofInt 16 pair.1 ∧ n.pdat = BitVec.ofInt 16 pair.2
        (s.configured b = true →
          (1 ≤ s.tlu.frame → n.pair = s.pairOf b) ∧ (1 ≤ s.tlu.frame → k ≠ 0 → sent (s.pairOf b)) ∧
          (s.tlu.frame = 0 → k ≠ 0 → n.pair = m.pair ∧ sent m.pair)) ∧
        (s.configured b = false → k ≠ 0 → sent (0, 0)) ∧
        (k = 0 → n.hdat = m.hdat ∧ n.pdat = m.pdat)) ∧
  (∀ (s : State) (a : Byte) (l : Fin 24), s.sampleOf none = 0 ∧
    ((∀ k, (s.lcu.lanes.get k).tag ≠ some a) → s.sampleOf (some a) = 0) ∧
    ((s.lcu.lanes.get l).tag = some a → (∀ k, (s.lcu.lanes.get k).tag = some a → k = l) →
      s.sampleOf (some a) = (s.lcu.lanes.get l).lastGood)) ∧
  (∀ (s : State) (b : Fin 4),
    (∀ e, (s.anu.follow.get b).entry = some e → s.followTag b = (s.anu.entries.get e).tag) ∧
    ((s.anu.follow.get b).entry = none → s.followTag b = none) ∧ s.cfg.audioOf .off = none ∧
    ∀ i, s.cfg.audioOf (.entry i) = s.cfg.programme[i]?.bind (·.audio)) ∧
  ∀ (s : State) (b : Fin 4),
    let m := s.mix.get b
    let p := scale (s.sampleOf (s.cfg.audioOf (s.bcu.get b).choice)) m.programme.cur
    let a := s.sampleOf (s.followTag b)
    (m.flag = false → (s.pairOf b).1 = 0) ∧
    (m.flag = true → p + scale a m.headset.cur > 32767 → (s.pairOf b).1 = 32767) ∧
    (m.flag = true → p + scale a m.headset.cur < -32768 → (s.pairOf b).1 = -32768) ∧
    (m.flag = true → -32768 ≤ p + scale a m.headset.cur → p + scale a m.headset.cur ≤ 32767 →
      (s.pairOf b).1 = p + scale a m.headset.cur) ∧
    (-32768 ≤ scale a m.pillow.cur → scale a m.pillow.cur ≤ 32767 → (s.pairOf b).2 = scale a m.pillow.cur)

/-- R141, R145, R147: the distance of two levels; a ramp that starts, and a hand-over of a target alone, which starts one unless
target, shape and step interval are those of the level state. R146, R152: a ramp step moves one step toward the target, stops the
counter there and otherwise loads the interval of the next step by the shape; the duck hold's expiry starts the berth's programme
toward its user level. -/
def Obligations.RampsStepAndDuckHoldEnds : Prop :=
  (Level.distance .mute .mute = 0 ∧ ∀ m n, Level.distance .mute (.lvl n) = n + 1 ∧ Level.distance (.lvl n) .mute = n + 1 ∧
    (m ≤ n → Level.distance (.lvl m) (.lvl n) = n - m ∧ Level.distance (.lvl n) (.lvl m) = n - m)) ∧
  (∀ (x : LevelState) (target : Level) (shape : Shape) (r : Nat),
    RampStarted x.cur target shape r (x.start target shape r) ∧
    (x.target = target → x.shape = shape → x.interval = r → x.aim target shape r = x) ∧
    (x.target ≠ target ∨ x.shape ≠ shape ∨ x.interval ≠ r → RampStarted x.cur target shape r (x.aim target shape r))) ∧
  ∀ (b : Fin 4) (s : State),
    (∀ l : LevelName, ((s.mix.get b).level l).counter = some 0 →
      ∃ t, exec (.rampStep b l) s = .next t ∧ t = { s with mix := t.mix } ∧
        (∀ c, c ≠ b → t.mix.get c = s.mix.get c) ∧ (∀ k, k ≠ l → (t.mix.get b).level k = (s.mix.get b).level k) ∧
        (let x := (s.mix.get b).level l; let y := (t.mix.get b).level l
         y = { x with cur := y.cur, taken := x.taken + 1, counter := y.counter } ∧ (y.cur = y.target ↔ y.counter = none) ∧
         (x.cur ≠ x.target → y.cur.distance y.target + 1 = x.cur.distance x.target) ∧
         (y.counter ≠ none → x.shape = .linear → y.counter = some x.interval) ∧
         (y.counter ≠ none → x.shape = .s → y.counter =
           some (if y.taken + 1 ≤ x.edge ∨ x.steps - x.edge < y.taken + 1 then 2 * x.interval else x.interval)))) ∧
    ((s.mix.get b).hold = some 0 → ∃ t, exec (.duckHoldExpiry b) s = .next t ∧ t = { s with mix := t.mix } ∧
      (∀ c, c ≠ b → t.mix.get c = s.mix.get c) ∧ (t.mix.get b).duck = .unducked ∧ (t.mix.get b).hold = none ∧
      (t.mix.get b).programme.target = (s.bcu.get b).userLevel ∧
      (t.mix.get b).programme = (s.mix.get b).programme.aim (s.bcu.get b).userLevel .linear s.cfg.duckRate ∧
      (t.mix.get b).headset = (s.mix.get b).headset ∧ (t.mix.get b).pillow = (s.mix.get b).pillow)

/-! ### Wake-up calls (chapter 9) -/

/-- R76, R137, R165: a BERTH SET for a configured berth of this node opens or closes a session; any other changes nothing.
R138: the notice lamp follows. -/
def Obligations.BerthSetOpensOrClosesASession : Prop :=
  ∀ (n k st : Nat) (rest : List Message) (s : State), s.cmu.dispatch = .berthSet n k st :: rest →
    (∀ b : Fin 4, b.val = k → n = s.cfl.address → s.configured b = true →
      ∃ t, exec .berthSet s = .next t ∧ t = { s with bcu := t.bcu, wku := t.wku, mix := t.mix, cmu := t.cmu } ∧
        t.cmu.dispatch = rest ∧ (t.bcu.get b).stop = st ∧ LampFollows s t b ∧
        t.wku.get b = { s.wku.get b with
          state := if st = 0 then .idle else .armed, hold := none, base := s.cfg.w0 } ∧
        ((s.wku.get b).state = .missed →
          t.cmu.queue = (s.cmu.put (.berth b) (Message.wakeClear s.cfl.address b.val).bytes).queue) ∧
        ((s.wku.get b).state = .calling → (t.mix.get b).pillow.target = .mute) ∧
        ((s.wku.get b).state ≠ .calling → t.mix = s.mix) ∧
        ((s.wku.get b).state ≠ .missed → t.cmu.queue = s.cmu.queue) ∧
        ∀ c, c ≠ b → t.bcu.get c = s.bcu.get c ∧ t.wku.get c = s.wku.get c ∧ t.mix.get c = s.mix.get c) ∧
    (k ≥ 4 ∨ n ≠ s.cfl.address ∨ s.cfg.berthCount ≤ k →
      exec .berthSet s = .next { s with cmu := { s.cmu with dispatch := rest } })

/-- R171, R173: at the expiry of the hold timer a CALLING berth is MISSED with a WAKE MISSED queued, and an ACKED one IDLE with
stop 0; the notice lamp follows (R138). -/
def Obligations.HoldTimerEndsTheCall : Prop :=
  ∀ (b : Fin 4) (p : Nat) (s : State), (s.wku.get b).hold = some (p, 0) →
    ∃ t, exec (.holdTimerExpiry b) s = .next t ∧ t = { s with bcu := t.bcu, wku := t.wku, cmu := t.cmu } ∧
      (t.wku.get b).hold = none ∧ (t.wku.get b).base = (s.wku.get b).base ∧ LampFollows s t b ∧
      ((s.wku.get b).state = .calling → (t.wku.get b).state = .missed ∧ (t.bcu.get b).stop = (s.bcu.get b).stop ∧
        (t.bcu.get b).lamp = .flash ∧
        t.cmu = s.cmu.put (.berth b) (Message.wakeMissed s.cfl.address b.val (s.bcu.get b).stop).bytes) ∧
      ((s.wku.get b).state = .acked → (t.wku.get b).state = .idle ∧ (t.bcu.get b).stop = 0 ∧ t.cmu = s.cmu) ∧
      ∀ c, c ≠ b → t.bcu.get c = s.bcu.get c ∧ t.wku.get c = s.wku.get c

/-! ### Screens (chapter 10) -/

/-- R131, R179, R180, R183, R185, R187: a KEY of a berth's pending video completes its switch: the programme records not started
leave its queue, and a base that is shown is cleared before it; a KEY of the feed video joins
the queue, behind a clear base where the feed is not FOLLOWING; a DELTA joins it while FOLLOWING; a record that does not fit is
dropped and counted and sends the feed to WAIT KEY; an END ends the feed and shows the rest card; an END with a payload and a
record of any other type are errors. That room for a KEY's clear base is not made by removing records is the model's choice
(log 10). -/
def Obligations.RecordsFeedTheScreens : Prop :=
  ∀ (tag : Byte) (r : List Byte) (rest : List (Byte × List Byte)) (s : State), s.sfu.inbox = (tag, r) :: rest →
    let size (f : Feed) : Nat := (f.queue.map List.length).sum
    let switches (b : Fin 4) : Prop := ∃ ch, (s.bcu.get b).pendingChoice = some ch ∧ s.cfg.videoOf ch = some tag
    let drops (f : Feed) : Prop := (f.state = .following ∧ 4096 < size f + r.length) ∨
      ((f.state = .waitKey ∨ f.state = .ended) ∧ 4096 < f.bytesAfterClear + r.length)
    let waits (f : Feed) : Feed := if f.state = .waitKey then f else { f with state := .waitKey, waitKey := some 3000 }
    (∀ f : Feed, let waiting := if f.tx = true then f.queue.drop 1 else f.queue
      let baseCard := waiting.find? fun x => decide ((x.head? = some 0x10 ∨ x.head? = some 0x11) ∧ x.getD 3 0 = 0)
      f.bytesAfterClear = if f.base = .none then size f else size f + 5 - (baseCard.getD []).length) ∧
    (∀ (b : Fin 4) (ch : Choice), r.head? = some 0x01 → s.configured b = true →
      (s.bcu.get b).pendingChoice = some ch → s.cfg.videoOf ch = some tag →
      ∃ t, exec .recordDelivered s = .next t ∧ t = { s with bcu := t.bcu, sfu := t.sfu, counters := t.counters } ∧
        t.sfu.inbox = rest ∧
        t.bcu.get b = { s.bcu.get b with choice := ch, pendingChoice := none, pendingTimer := none } ∧
        (t.feed b).state = .following ∧ (t.feed b).video = some tag ∧ (t.feed b).waitKey = none ∧
        (t.feed b).base = .none ∧ (t.feed b).queue.getLast? = some r ∧
        (let card (x : List Byte) : Bool := decide (x.head? = some 0x10 ∨ x.head? = some 0x11)
         let sending := if (s.feed b).tx = true then (s.feed b).queue.take 1 else []
         ((t.feed b).queue.filter fun x => !card x) = (sending.filter fun x => !card x) ++ [r] ∧
         ((s.feed b).base ≠ .none → clearRecord 0 ∈ (t.feed b).queue) ∧
         ((s.feed b).base = .none → (t.feed b).queue = sending ++ ((s.feed b).queue.drop sending.length).filter card ++ [r]))) ∧
    (r.head? = some 0x01 → ∃ t, exec .recordDelivered s = .next t ∧ t.sfu.inbox = rest ∧
      t = { s with bcu := t.bcu, sfu := t.sfu, counters := t.counters } ∧
      (∀ dropped : List (Fin 4), dropped.Nodup →
        (∀ b, b ∈ dropped ↔ s.configured b = true ∧ ¬switches b ∧ (s.feed b).video = some tag ∧ drops (s.feed b)) →
        t.counter .queueDrops = satInc^[dropped.length] (s.counter .queueDrops)) ∧
      ∀ b, let f := s.feed b; let g := t.feed b
        (s.configured b = true → ¬switches b → f.video = some tag → t.bcu.get b = s.bcu.get b ∧
          (drops f → g = waits f) ∧
          (¬drops f → f.state = .following → g = { f with queue := f.queue ++ [r] }) ∧
          (¬drops f → f.state = .waitKey ∨ f.state = .ended →
            g = { f with state := .following, waitKey := none, base := .none, queue := g.queue } ∧
            g.queue.getLast? = some r ∧ (f.base = .none → g.queue = f.queue ++ [r]) ∧
            (f.base ≠ .none → clearRecord 0 ∈ g.queue)) ∧
          (f.state = .off → g = f)) ∧
        (s.configured b = false ∨ (¬switches b ∧ f.video ≠ some tag) → g = f ∧ t.bcu.get b = s.bcu.get b)) ∧
    (r.head? = some 0x02 → ∃ t, exec .recordDelivered s = .next t ∧ t.sfu.inbox = rest ∧
      t = { s with sfu := t.sfu, counters := t.counters } ∧
      (let dropped := (List.finRange 4).filter fun b => decide (s.configured b = true ∧ (s.feed b).video = some tag ∧
         (s.feed b).state = .following ∧ 4096 < size (s.feed b) + r.length)
       t.counter .queueDrops = satInc^[dropped.length] (s.counter .queueDrops)) ∧
      ∀ b, let f := s.feed b
        (s.configured b = true → f.video = some tag → f.state = .following →
          size f + r.length ≤ 4096 → t.feed b = { f with queue := f.queue ++ [r] }) ∧
        (s.configured b = true → f.video = some tag → f.state = .following →
          4096 < size f + r.length → t.feed b = { f with state := .waitKey, waitKey := some 3000 }) ∧
        (s.configured b = false ∨ f.video ≠ some tag ∨ f.state ≠ .following → t.feed b = f)) ∧
    (r.head? = some 0x7F → recordLength r = 0 → ∃ t, exec .recordDelivered s = .next t ∧ t.sfu.inbox = rest ∧
      t = { s with sfu := t.sfu, counters := t.counters } ∧
      ∀ b, let f := s.feed b; let g := t.feed b
        (s.configured b = true → f.video = some tag → f.state = .following ∨ f.state = .waitKey →
          g = { f with state := .ended, waitKey := none, base := .rest, queue := g.queue } ∧
          (f.base = .rest → g.queue = f.queue) ∧ (f.base ≠ .rest → cardRecord 0 3 [] ∈ g.queue)) ∧
        (s.configured b = false ∨ f.video ≠ some tag ∨ f.state = .ended ∨ f.state = .off → g = f)) ∧
    ((r.head? = some 0x7F ∧ recordLength r ≠ 0) ∨ (r.head? ≠ some 0x01 ∧ r.head? ≠ some 0x02 ∧ r.head? ≠ some 0x7F) →
      exec .recordDelivered s = .next { s with
        counters := s.counters.set 12 (satInc (s.counters.get 12)), sfu := { s.sfu with inbox := rest } })

/-- R76, R182, R189, R191: a dispatched CARD shows a LIVE MESSAGE card on each admitted berth whose card does not rank above it;
and the screen timers: the unavailable card, the end of a message card's duration, and the end of a linger. Each card record and
the clear record that the rules call for stands in the queue. R138: the notice lamp is ON from a card record's start to its end,
outside CALLING and MISSED. The linger counter 0 of a LIVE card, and the seconds and prescaler kept in LINGER, are the model's
choice (log 30). -/
def Obligations.CardsShowAndExpire : Prop :=
  (∀ (target : Target) (d : Nat) (text : List Byte) (rest : List Message) (s : State),
    s.cmu.dispatch = .card target d text :: rest →
    ∃ t, exec .card s = .next t ∧ t.cmu = { s.cmu with dispatch := rest } ∧
      t = { s with cmu := t.cmu, sfu := t.sfu, bcu := t.bcu, counters := t.counters } ∧
      ∀ b, let above := ∃ o, (s.feed b).overlay = some o ∧ o.phase = .live ∧ o.source ≠ .message
        (s.targetIncludes target b = true → ¬above →
          (t.feed b).overlay = some ⟨.message, none, 0, text, .live, d, 1000, 0⟩ ∧
            cardRecord 1 0 text ∈ (t.feed b).queue ∧ LampFollows s t b ∧ OnlyLampChanged s t b) ∧
        (s.targetIncludes target b = false ∨ above → t.feed b = s.feed b ∧ t.bcu.get b = s.bcu.get b)) ∧
  ∀ (b : Fin 4) (s : State),
    ((s.feed b).waitKey = some 0 → (s.feed b).state = .waitKey → ∃ t, exec (.waitKeyTimerExpiry b) s = .next t ∧
      t = { s with sfu := t.sfu, counters := t.counters } ∧ (t.feed b).waitKey = none ∧ (t.feed b).state = .waitKey ∧
      (t.feed b).base = .unavailable ∧ (t.feed b).overlay = (s.feed b).overlay ∧
      ((s.feed b).base ≠ .unavailable → cardRecord 0 2 [] ∈ (t.feed b).queue) ∧
      ((s.feed b).base = .unavailable → (t.feed b).queue = (s.feed b).queue) ∧ (∀ c, c ≠ b → t.feed c = s.feed c)) ∧
    (∀ o, (s.feed b).overlay = some o → o.source = .message → o.phase = .live → o.seconds = 0 →
      exec (.cardDurationExpiry b) s = .next
        (s.setFeed b { s.feed b with overlay := some { o with phase := .linger, linger := 2000 } })) ∧
    (∀ o, (s.feed b).overlay = some o → o.phase = .linger → o.linger = 0 → ∃ t, exec (.lingerExpiry b) s = .next t ∧
      t = { s with sfu := t.sfu, bcu := t.bcu, counters := t.counters } ∧ (t.feed b).overlay = none ∧
      clearRecord 1 ∈ (t.feed b).queue ∧ (t.feed b).base = (s.feed b).base ∧ LampFollows s t b ∧ OnlyLampChanged s t b ∧
      (∀ c, c ≠ b → t.feed c = s.feed c ∧ t.bcu.get c = s.bcu.get c))

/-- R178, R192: the head record starts with its first byte and SSOR high; its bytes go out one by one, at the edges of SCLK at
which SRDY is high, with SSOR low, and it leaves the queue with its last byte. That the data lines keep the last byte at an edge
that places none, and when the record has gone, is the model's choice (log 26). -/
def Obligations.ScreenPortSendsTheHeadRecord : Prop :=
  ∀ (b : Fin 4) (r : List Byte) (rest : List (List Byte)) (s : State), (s.feed b).queue = r :: rest →
    let f := s.feed b
    (s.cfl.node = .running → s.configured b = true → f.tx = false →
      exec (.screenRecordStart b) s = .next
        (s.setFeed b { f with tx := true, sent := 1, sdat := r.getD 0 0, ssor := true })) ∧
    ∀ edges : List Bool,
      (f.tx = false → exec (.screenRecordSent ⟨b, edges⟩) s = .next s) ∧
      (f.tx = true → 1 ≤ f.sent → f.sent < r.length →
        let n := edges.count true
        (f.sent + n < r.length → exec (.screenRecordSent ⟨b, edges⟩) s = .next (s.setFeed b { f with
          sent := f.sent + n, sdat := if n = 0 then f.sdat else r.getD (f.sent + n - 1) 0
          ssor := if edges = [] then f.ssor else false })) ∧
        (r.length ≤ f.sent + n → exec (.screenRecordSent ⟨b, edges⟩) s = .next (s.setFeed b { f with
          queue := rest, tx := false, sent := 0, sdat := r.getLastD 0, ssor := false })))

/-! ### The service link (chapter 11.4) -/

/-- R202, R203: a byte on SRX: a low stop bit or a wrong check byte discards the frame, a length byte outside 1 to 64 is
discarded, and the check byte that matches completes the command; the gap timer's expiry abandons the frame in progress, and
the reply's last stop bit ends the reply. That a completed command waits for the row that executes it is the model's choice
(logs 1 and 20). -/
def Obligations.ServiceLinkBytesBuildFrames : Prop :=
  ∀ s : State,
    (s.svl.gap = some 0 → exec .gapTimerExpiry s = .next { s with svl := { s.svl with gap := none, rx := [] } }) ∧
    (s.nothingDue → exec .replyEnd s = .next { s with svl := { s.svl with reply := none } }) ∧
    ∀ (byte : Byte) (stop : Bool), s.nothingDue →
      (s.cfl.node = .loading ∨ s.cfg.linkOn = false → exec (.serviceLinkByte byte stop) s = .next s) ∧
      (s.cfl.node = .running → s.cfg.linkOn = true →
        ∃ t, exec (.serviceLinkByte byte stop) s = .next t ∧ t = { s with svl := t.svl } ∧ t.svl.gap = some 21 ∧
          t.svl.reply = s.svl.reply ∧
          (stop = false → t.svl.rx = [] ∧ t.svl.command = s.svl.command) ∧
          (stop = true → s.svl.rx = [] → 1 ≤ byte.toNat → byte.toNat ≤ 64 →
            t.svl.rx = [byte] ∧ t.svl.command = s.svl.command) ∧
          (stop = true → s.svl.rx = [] → byte.toNat = 0 ∨ 64 < byte.toNat →
            t.svl.rx = [] ∧ t.svl.command = s.svl.command) ∧
          (∀ n body, stop = true → s.svl.rx = n :: body → body.length < n.toNat →
            t.svl.rx = n :: body ++ [byte] ∧ t.svl.command = s.svl.command) ∧
          (∀ n body, stop = true → s.svl.rx = n :: body → body.length = n.toNat → byte = xorAll (n :: body) →
            t.svl.rx = [] ∧ t.svl.command = some body) ∧
          (∀ n body, stop = true → s.svl.rx = n :: body → body.length = n.toNat → byte ≠ xorAll (n :: body) →
            t.svl.rx = [] ∧ t.svl.command = s.svl.command))

/-- R67: SEND is refused when its length or message is wrong, or when 4 of its items wait, and is queued at the tail otherwise.
R68: a message that a block hands over takes the place of the item of its origin, or joins the tail. R70 to R72: the byte that
a data frame start fixes for the control slot, and the restart of the message at an abandoned data frame. -/
def Obligations.SendQueuesOrRefuses : Prop :=
  (∀ (kind len : Byte) (payload : List Byte) (s : State), payload.length ≤ 60 → s.svl.reply = none →
    s.svl.command = some (0x01 :: kind :: len :: payload) →
    let answer := fun (st : Status) => { s.svl with command := none, reply := some (replyFrame 0x01 st []) }
    (len.toNat ≠ payload.length ∨ parseMessage kind payload = none →
      exec .send s = .next { s with svl := answer .bad }) ∧
    (∀ m, len.toNat = payload.length → parseMessage kind payload = some m →
      4 ≤ (s.cmu.queue.filter fun q => decide (q.origin = .serviceLink)).length →
      exec .send s = .next { s with svl := answer .busy }) ∧
    (∀ m, len.toNat = payload.length → parseMessage kind payload = some m →
      (s.cmu.queue.filter fun q => decide (q.origin = .serviceLink)).length < 4 →
      exec .send s = .next { s with
        svl := answer .ok, cmu := { s.cmu with queue := s.cmu.queue ++ [⟨.serviceLink, m.bytes, none⟩] } })) ∧
  (∀ (o : Origin) (bytes : List Byte) (c : Cmu),
    ((∀ q ∈ c.queue, q.origin ≠ o) → c.put o bytes = { c with queue := c.queue ++ [⟨o, bytes, none⟩] }) ∧
    ∀ before q after, c.queue = before ++ q :: after → q.origin = o → (∀ x ∈ before, x.origin ≠ o) →
      c.put o bytes = { c with
        queue := before ++ ⟨o, bytes, none⟩ :: after, pos := if before = [] then none else c.pos }) ∧
  (∀ (c : Instr) (n : Nat) (fs : FrameStart) (s : State), s.nothingDue → fs.plain → fs.order.cmuStartFirst = false →
    StartsFrame s fs n c → n ≠ 0 →
    let left (queue : List QueueItem) : Prop :=
      (1 ≤ s.tlu.frame → s.held cmuHolding = true →
        (∀ q rest, s.cmu.queue = q :: rest → q.sentIn = some s.tlu.frame → queue = rest) ∧
        ((∀ q rest, s.cmu.queue = q :: rest → q.sentIn ≠ some s.tlu.frame) → queue = s.cmu.queue)) ∧
      (s.tlu.frame = 0 ∨ s.held cmuHolding = false → queue = s.cmu.queue)
    ∃ t, exec c s = .next t ∧ ∀ queue, left queue →
      MessageByteFixed (s.held cmuHolding) (s.tlu.silenced.get cmuHolding) n s.cmu.pos queue t.cmu) ∧
  ∀ (run start : Nat) (fs : FrameStart) (s : State), s.nothingDue → fs.plain → 12 ≤ run → 1 ≤ start → start ≤ 415 →
    s.tlu.link = .locked ∨ s.tlu.link = .leading → s.cfg.trunkPolicy = .follow → 1 ≤ s.tlu.frame →
    let n := if run = 12 then (s.tlu.frame + 1) % 25 else 0
    let fixes (pos : Option Nat) (queue : List QueueItem) (c : Cmu) : Prop :=
      MessageByteFixed (s.held cmuHolding) (s.tlu.silenced.get cmuHolding) n pos queue c
    let busy : Prop := s.cmu.pos ≠ none ∨ ∃ q, s.cmu.queue.head? = some q ∧ q.sentIn ≠ none
    ∃ t, exec (.markRecognised run start fs) s = .next t ∧
      (t.cmu.queue.map fun q => (q.origin, q.bytes)) = (s.cmu.queue.map fun q => (q.origin, q.bytes)) ∧
      (n = 0 ∨ fs.order.cmuStartFirst = true → t.cmu.pos = none ∧ ∀ q, t.cmu.queue.head? = some q → q.sentIn = none) ∧
      (n ≠ 0 → fs.order.cmuStartFirst = true → ∃ c, fixes s.cmu.pos s.cmu.queue c ∧ t.cmu.fixed = c.fixed) ∧
      (n ≠ 0 → fs.order.cmuStartFirst = false →
        (busy → fixes none (s.cmu.queue.map fun q => { q with sentIn := none }) t.cmu) ∧
        (¬busy → fixes none s.cmu.queue t.cmu))

/-- R203, R204: the READ commands answer OK with their data, laid out as the tables say, and change nothing else; READ BERTH
answers BAD above 3 and ABSENT for a berth that is not configured; a command that R204 does not list, or with a number of
argument bytes other than its own, is answered BAD. The value bytes of a pending stamp rest on log 24. -/
def Obligations.ReadsAreSnapshots : Prop :=
  ∀ s : State, s.svl.reply = none →
    let answer := fun (code : Byte) (st : Status) (data : List Byte) =>
      { s with svl := { s.svl with command := none, reply := some (replyFrame code st data) } }
    let byte (n : Nat) : Byte := BitVec.ofNat 8 n
    let orFE (x : Option Byte) : Byte := x.getD 0xFE
    let yes (b : Bool) : Byte := if b then 1 else 0
    let timer (x : Timer) : List Byte := match x with | some n => be16 n | none => [0xFF, 0xFF]
    let level (l : Level) : Byte := match l with | .mute => 0xFF | .lvl n => byte n
    let choice (c : Choice) : Byte := match c with | .off => 0xFF | .entry i => byte i
    let cls (c : AnnClass) : Byte := match c with | .alert => 0 | .crew => 1 | .wake => 2 | .service => 3
    let presence (k : Nat) (x : Option (List Byte)) : List Byte :=
      match x with | some v => 1 :: v | none => 0 :: List.replicate k 0
    let slotBytes (e : SlotEntry) : List Byte :=
      [e.tag, byte e.age, orFE (e.own.map fun h => byte h.val), byte e.parityErrors]
    let holdingBytes (x : Holding) : List Byte :=
      [(match x.state with | .inactive => 0 | .seeking => 1 | .backoff => 2 | .held => 3 : Byte),
        orFE (x.first.map byte), byte x.attempts, byte x.backoff]
    let entryBytes (e : AnnEntry) : List Byte :=
      presence 1 (e.tag.map ([·])) ++
        [(match e.state with
          | .free => 0 | .described => 1 | .undescribed => 2 | .active => 3 | .fading => 4 | .idle => 5 : Byte)] ++
        presence 1 (e.seq.map ([·])) ++ presence 1 (e.cls.map fun c => [cls c]) ++
        presence 3 (e.target.map fun t => match t with
          | .all => ([0, 0, 0] : List Byte) | .zones m => 1 :: be16 m.toNat | .stop st => 2 :: be16 st) ++
        (match e.stamp with
          | .absent => ([0, 0, 0, 0, 0] : List Byte) | .pending => [2, 0, 0, 0, 0] | .at_ c => 1 :: be32 c.toNat) ++
        [byte e.absence] ++ be16 e.age ++ [byte e.text.length] ++ e.text
    (s.svl.command = some [0x02] → exec .readNode s = .next (answer 0x02 .ok
      ([(match s.cfl.node with | .loading => 0 | .running => 1 : Byte),
        match s.tlu.link with | .loading => 0 | .listen => 1 | .locked => 2 | .leading => 3,
        byte s.cfl.address, yes s.cfl.fault, byte s.cmu.queue.length] ++ be32 s.tlu.cycleCount.toNat ++
        s.counters.toList.flatMap fun c => be16 c.toNat))) ∧
    (s.svl.command = some [0x03] → exec .readSlots s = .next (answer 0x03 .ok
      (s.smu.map.toList.flatMap slotBytes ++ s.smu.holdings.toList.flatMap holdingBytes))) ∧
    (s.svl.command = some [0x04] → ∃ mask : BitVec 16,
      (∀ z : Fin 16, mask.getLsbD z.val = decide (s.anu.zones.get z = .night)) ∧
      exec .readTable s = .next (answer 0x04 .ok (s.anu.entries.toList.flatMap entryBytes ++ be16 mask.toNat))) ∧
    (s.svl.command = some [0x06] → exec .readMissed s = .next (answer 0x06 .ok (byte s.cmu.missed.length ::
      s.cmu.missed.flatMap fun e => [byte e.node, byte e.berth, byte e.stop] ++ be16 e.age))) ∧
    (∀ n : Byte, s.svl.command = some [0x05, n] → 3 < n.toNat → exec .readBerth s = .next (answer 0x05 .bad [])) ∧
    (∀ b : Fin 4, s.svl.command = some [0x05, BitVec.ofNat 8 b.val] →
      (s.configured b = false → exec .readBerth s = .next (answer 0x05 .absent [])) ∧
      (s.configured b = true →
        let x := s.bcu.get b; let w := s.wku.get b; let f := s.feed b; let m := s.mix.get b; let r := s.anu.follow.get b
        exec .readBerth s = .next (answer 0x05 .ok
          ([byte (s.berthCfg b).zone, choice x.choice, orFE (x.pendingChoice.map choice)] ++ timer x.pendingTimer ++
            [level x.userLevel, yes (x.inputs.get 0).active, byte x.stop,
              match x.lamp with | .off => 0 | .on => 1 | .flash => 2] ++
            [(match w.state with | .idle => 0 | .armed => 1 | .calling => 2 | .acked => 3 | .missed => 4 : Byte), byte w.base] ++
            timer (w.hold.map (·.2)) ++
            [(match f.state with | .off => 0 | .following => 1 | .waitKey => 2 | .ended => 3 : Byte), orFE f.video] ++
            be16 (f.queue.map List.length).sum ++ timer f.waitKey ++
            [(match f.base with | .none => 0 | .rest => 1 | .unavailable => 2 : Byte),
              orFE (f.overlay.map fun o => match o.source with
                | .alert => 0 | .announcement => 1 | .wake => 2 | .message => 3),
              orFE (f.overlay.map fun o => match o.phase with | .live => 0 | .linger => 1)] ++
            [level m.programme.cur, level m.programme.target, level m.headset.cur, level m.headset.target,
              level m.pillow.cur, level m.pillow.target,
              match m.duck with | .unducked => 0 | .ducked => 1 | .holding => 2] ++ timer m.hold ++
            [orFE (r.entry.map fun i => byte i.val), yes r.headset, yes r.pillow, orFE (r.cls.map cls)])))) ∧
    ∀ code args, s.svl.command = some (code :: args) →
      (code = 0x00 ∨ 0x08 < code.toNat) ∨ (code = 0x01 ∧ (args.length < 2 ∨ 62 < args.length)) ∨
        ((code = 0x05 ∨ code = 0x07) ∧ args.length ≠ 1) ∨
        ((code = 0x02 ∨ code = 0x03 ∨ code = 0x04 ∨ code = 0x06 ∨ code = 0x08) ∧ args ≠ []) →
      exec .unknownCommand s = .next (answer code .bad [])

/-- R104, R139, R160, R175, R193, R205: RESET BERTH of a configured berth resets it in every block, at once. R204: a berth number
above 3 is answered BAD. -/
def Obligations.ResetBerthResetsEveryBlock : Prop :=
  (∀ (n : Byte) (s : State), s.svl.reply = none → s.svl.command = some [0x07, n] → 3 < n.toNat →
    exec .resetBerth s = .next { s with
      svl := { s.svl with command := none, reply := some (replyFrame 0x07 .bad []) } }) ∧
  ∀ (b : Fin 4) (s : State), s.svl.reply = none → s.svl.command = some [0x07, BitVec.ofNat 8 b.val] →
    (s.configured b = true → ∃ t, exec .resetBerth s = .next t ∧
      t = { s with bcu := t.bcu, anu := t.anu, mix := t.mix, wku := t.wku, sfu := t.sfu, svl := t.svl } ∧
      t.svl = { s.svl with command := none, reply := some (replyFrame 0x07 .ok []) } ∧
      t.anu = { s.anu with follow := s.anu.follow.set b ⟨none, false, false, none⟩ } ∧ t.sfu.inbox = s.sfu.inbox ∧
      (let x := t.bcu.get b
       x.choice = (s.berthCfg b).defaultChoice ∧ x.pendingChoice = none ∧ x.pendingTimer = none ∧
       x.userLevel = .lvl (min (s.berthCfg b).defaultLevel (s.berthCfg b).maxLevel) ∧ x.stop = 0 ∧ x.lamp = .off ∧
       x.lit = false ∧ (∀ i, x.inputs.get i = ⟨false, 0⟩) ∧ x.repUp = none ∧ x.repDown = none) ∧
      (let w := t.wku.get b
       w.state = .idle ∧ w.base = s.cfg.w0 ∧ w.following = false ∧ w.hold = none) ∧
      (let m := t.mix.get b
       (∀ l, (m.level l).cur = (if l = .programme then .lvl (min (s.berthCfg b).defaultLevel (s.berthCfg b).maxLevel) else .mute) ∧
         (m.level l).target = (m.level l).cur ∧ (m.level l).counter = none) ∧
       m.duck = .unducked ∧ m.hold = none ∧ m.ann = none ∧ m.flag = false) ∧
      (let f := t.feed b
       f.video = s.cfg.videoOf (s.berthCfg b).defaultChoice ∧ f.base = .rest ∧ f.overlay = none ∧ f.tx = false ∧
       f.queue = [clearRecord 1, cardRecord 0 3 []] ∧
       (f.video = none → f.state = .off ∧ f.waitKey = none) ∧
       (f.video ≠ none → f.state = .waitKey ∧ f.waitKey = some 3000)) ∧
      ∀ c, c ≠ b → t.bcu.get c = s.bcu.get c ∧ t.wku.get c = s.wku.get c ∧ t.mix.get c = s.mix.get c ∧
        t.feed c = s.feed c) ∧
    (s.configured b = false → exec .resetBerth s = .next { s with
      svl := { s.svl with command := none, reply := some (replyFrame 0x07 .absent []) } })

/-- R203, R206: CLEAR COUNTERS sets every counter to 0; and any command that completes while a reply is in progress is
discarded and counted. -/
def Obligations.ClearCountersAndDiscards : Prop :=
  ∀ s : State,
    (s.svl.reply = none → s.svl.command = some [0x08] → exec .clearCounters s = .next { s with
      counters := Table.replicate 24 0
      svl := { s.svl with command := none, reply := some (replyFrame 0x08 .ok []) } }) ∧
    (∀ r c, s.svl.reply = some r → s.svl.command = some c →
      takeEvent (.command (classify c)) s = { s with
        counters := s.counters.set 22 (satInc (s.counters.get 22)), svl := { s.svl with command := none } })

/-! ### What every step keeps -/

/-- R5, R8, R9, R13, R14: the trunk's numbers stay in their ranges. -/
def Obligations.TrunkNumbersStayInRange : Prop :=
  ∀ s t : State, s.trunkInRange → step s = .next t → t.trunkInRange

/-- R14, R195, chapter 1.7: the link is LOADING exactly while the node is, and only an eligible node ever leads the trunk. -/
def Obligations.LinkStaysLegal : Prop :=
  ∀ s t : State, step s = .next t →
    (s.linkMatchesNode → t.linkMatchesNode) ∧ (s.leaderEligible → t.leaderEligible)

/-- R46, R66, R78: the sample FIFOs, the out queue and the missed-wake list stay bounded. -/
def Obligations.QueuesStayBounded : Prop :=
  ∀ s t : State, step s = .next t →
    (s.fifosBounded → t.fifosBounded) ∧ (s.queueWithinLimits → t.queueWithinLimits) ∧ (s.missedListOk → t.missedListOk)

/-- R82, R97, R137, R163: a berth with alighting stop 0 stays in wake state IDLE, and entry 0 stays the alert's. -/
def Obligations.SessionsAndEntryZeroStayLawful : Prop :=
  ∀ s t : State, step s = .next t →
    (s.stopZeroIdle → t.stopZeroIdle) ∧ (s.entryZeroIsAlert → t.entryZeroIsAlert)

/-- The machine after device reset has every property that its steps keep. The count of slots done is the model's own field, 0
at reset by its choice (log 7). -/
def Obligations.ResetHasTheInvariants : Prop :=
  let s := State.reset
  s.trunkInRange ∧ s.linkMatchesNode ∧ s.leaderEligible ∧ s.missedListOk ∧ s.queueWithinLimits ∧ s.fifosBounded ∧
    s.stopZeroIdle ∧ s.entryZeroIsAlert

end
end

