-- ==== Sys2Proof/Laws/State.lean ====
section
/-!
SUPPORT. Laws/State.lean: each field of the state after each named update: one line per field and update, so that no
proof unfolds a record.
-/

namespace Sys2Proof.Machine

section bump
variable (c : Counter) (s : State)

@[simp] theorem State.bump_pending : (s.bump c).pending = s.pending := rfl
@[simp] theorem State.bump_counters : (s.bump c).counters = s.counters.modify c.idx satInc := rfl
@[simp] theorem State.bump_cfl : (s.bump c).cfl = s.cfl := rfl
@[simp] theorem State.bump_svl : (s.bump c).svl = s.svl := rfl
@[simp] theorem State.bump_tlu : (s.bump c).tlu = s.tlu := rfl
@[simp] theorem State.bump_smu : (s.bump c).smu = s.smu := rfl
@[simp] theorem State.bump_asp : (s.bump c).asp = s.asp := rfl
@[simp] theorem State.bump_rsp : (s.bump c).rsp = s.rsp := rfl
@[simp] theorem State.bump_cmu : (s.bump c).cmu = s.cmu := rfl
@[simp] theorem State.bump_anu : (s.bump c).anu = s.anu := rfl
@[simp] theorem State.bump_lcu : (s.bump c).lcu = s.lcu := rfl
@[simp] theorem State.bump_bcu : (s.bump c).bcu = s.bcu := rfl
@[simp] theorem State.bump_bfs : (s.bump c).bfs = s.bfs := rfl
@[simp] theorem State.bump_mix : (s.bump c).mix = s.mix := rfl
@[simp] theorem State.bump_wku : (s.bump c).wku = s.wku := rfl
@[simp] theorem State.bump_sfu : (s.bump c).sfu = s.sfu := rfl

end bump

section setHolding
variable (h : Fin 11) (x : Holding) (s : State)

@[simp] theorem State.setHolding_pending : (s.setHolding h x).pending = s.pending := rfl
@[simp] theorem State.setHolding_counters : (s.setHolding h x).counters = s.counters := rfl
@[simp] theorem State.setHolding_cfl : (s.setHolding h x).cfl = s.cfl := rfl
@[simp] theorem State.setHolding_svl : (s.setHolding h x).svl = s.svl := rfl
@[simp] theorem State.setHolding_tlu : (s.setHolding h x).tlu = s.tlu := rfl
@[simp] theorem State.setHolding_smu : (s.setHolding h x).smu = { s.smu with holdings := s.smu.holdings.set h x } := rfl
@[simp] theorem State.setHolding_asp : (s.setHolding h x).asp = s.asp := rfl
@[simp] theorem State.setHolding_rsp : (s.setHolding h x).rsp = s.rsp := rfl
@[simp] theorem State.setHolding_cmu : (s.setHolding h x).cmu = s.cmu := rfl
@[simp] theorem State.setHolding_anu : (s.setHolding h x).anu = s.anu := rfl
@[simp] theorem State.setHolding_lcu : (s.setHolding h x).lcu = s.lcu := rfl
@[simp] theorem State.setHolding_bcu : (s.setHolding h x).bcu = s.bcu := rfl
@[simp] theorem State.setHolding_bfs : (s.setHolding h x).bfs = s.bfs := rfl
@[simp] theorem State.setHolding_mix : (s.setHolding h x).mix = s.mix := rfl
@[simp] theorem State.setHolding_wku : (s.setHolding h x).wku = s.wku := rfl
@[simp] theorem State.setHolding_sfu : (s.setHolding h x).sfu = s.sfu := rfl

end setHolding

section setEntry
variable (i : Fin 16) (x : AnnEntry) (s : State)

@[simp] theorem State.setEntry_pending : (s.setEntry i x).pending = s.pending := rfl
@[simp] theorem State.setEntry_counters : (s.setEntry i x).counters = s.counters := rfl
@[simp] theorem State.setEntry_cfl : (s.setEntry i x).cfl = s.cfl := rfl
@[simp] theorem State.setEntry_svl : (s.setEntry i x).svl = s.svl := rfl
@[simp] theorem State.setEntry_tlu : (s.setEntry i x).tlu = s.tlu := rfl
@[simp] theorem State.setEntry_smu : (s.setEntry i x).smu = s.smu := rfl
@[simp] theorem State.setEntry_asp : (s.setEntry i x).asp = s.asp := rfl
@[simp] theorem State.setEntry_rsp : (s.setEntry i x).rsp = s.rsp := rfl
@[simp] theorem State.setEntry_cmu : (s.setEntry i x).cmu = s.cmu := rfl
@[simp] theorem State.setEntry_anu : (s.setEntry i x).anu = { s.anu with entries := s.anu.entries.set i x } := rfl
@[simp] theorem State.setEntry_lcu : (s.setEntry i x).lcu = s.lcu := rfl
@[simp] theorem State.setEntry_bcu : (s.setEntry i x).bcu = s.bcu := rfl
@[simp] theorem State.setEntry_bfs : (s.setEntry i x).bfs = s.bfs := rfl
@[simp] theorem State.setEntry_mix : (s.setEntry i x).mix = s.mix := rfl
@[simp] theorem State.setEntry_wku : (s.setEntry i x).wku = s.wku := rfl
@[simp] theorem State.setEntry_sfu : (s.setEntry i x).sfu = s.sfu := rfl

end setEntry

section setFollow
variable (b : Fin 4) (x : Follow) (s : State)

@[simp] theorem State.setFollow_pending : (s.setFollow b x).pending = s.pending := rfl
@[simp] theorem State.setFollow_counters : (s.setFollow b x).counters = s.counters := rfl
@[simp] theorem State.setFollow_cfl : (s.setFollow b x).cfl = s.cfl := rfl
@[simp] theorem State.setFollow_svl : (s.setFollow b x).svl = s.svl := rfl
@[simp] theorem State.setFollow_tlu : (s.setFollow b x).tlu = s.tlu := rfl
@[simp] theorem State.setFollow_smu : (s.setFollow b x).smu = s.smu := rfl
@[simp] theorem State.setFollow_asp : (s.setFollow b x).asp = s.asp := rfl
@[simp] theorem State.setFollow_rsp : (s.setFollow b x).rsp = s.rsp := rfl
@[simp] theorem State.setFollow_cmu : (s.setFollow b x).cmu = s.cmu := rfl
@[simp] theorem State.setFollow_anu : (s.setFollow b x).anu = { s.anu with follow := s.anu.follow.set b x } := rfl
@[simp] theorem State.setFollow_lcu : (s.setFollow b x).lcu = s.lcu := rfl
@[simp] theorem State.setFollow_bcu : (s.setFollow b x).bcu = s.bcu := rfl
@[simp] theorem State.setFollow_bfs : (s.setFollow b x).bfs = s.bfs := rfl
@[simp] theorem State.setFollow_mix : (s.setFollow b x).mix = s.mix := rfl
@[simp] theorem State.setFollow_wku : (s.setFollow b x).wku = s.wku := rfl
@[simp] theorem State.setFollow_sfu : (s.setFollow b x).sfu = s.sfu := rfl

end setFollow

section setBerth
variable (b : Fin 4) (x : Berth) (s : State)

@[simp] theorem State.setBerth_pending : (s.setBerth b x).pending = s.pending := rfl
@[simp] theorem State.setBerth_counters : (s.setBerth b x).counters = s.counters := rfl
@[simp] theorem State.setBerth_cfl : (s.setBerth b x).cfl = s.cfl := rfl
@[simp] theorem State.setBerth_svl : (s.setBerth b x).svl = s.svl := rfl
@[simp] theorem State.setBerth_tlu : (s.setBerth b x).tlu = s.tlu := rfl
@[simp] theorem State.setBerth_smu : (s.setBerth b x).smu = s.smu := rfl
@[simp] theorem State.setBerth_asp : (s.setBerth b x).asp = s.asp := rfl
@[simp] theorem State.setBerth_rsp : (s.setBerth b x).rsp = s.rsp := rfl
@[simp] theorem State.setBerth_cmu : (s.setBerth b x).cmu = s.cmu := rfl
@[simp] theorem State.setBerth_anu : (s.setBerth b x).anu = s.anu := rfl
@[simp] theorem State.setBerth_lcu : (s.setBerth b x).lcu = s.lcu := rfl
@[simp] theorem State.setBerth_bcu : (s.setBerth b x).bcu = s.bcu.set b x := rfl
@[simp] theorem State.setBerth_bfs : (s.setBerth b x).bfs = s.bfs := rfl
@[simp] theorem State.setBerth_mix : (s.setBerth b x).mix = s.mix := rfl
@[simp] theorem State.setBerth_wku : (s.setBerth b x).wku = s.wku := rfl
@[simp] theorem State.setBerth_sfu : (s.setBerth b x).sfu = s.sfu := rfl

end setBerth

section setMix
variable (b : Fin 4) (x : MixBerth) (s : State)

@[simp] theorem State.setMix_pending : (s.setMix b x).pending = s.pending := rfl
@[simp] theorem State.setMix_counters : (s.setMix b x).counters = s.counters := rfl
@[simp] theorem State.setMix_cfl : (s.setMix b x).cfl = s.cfl := rfl
@[simp] theorem State.setMix_svl : (s.setMix b x).svl = s.svl := rfl
@[simp] theorem State.setMix_tlu : (s.setMix b x).tlu = s.tlu := rfl
@[simp] theorem State.setMix_smu : (s.setMix b x).smu = s.smu := rfl
@[simp] theorem State.setMix_asp : (s.setMix b x).asp = s.asp := rfl
@[simp] theorem State.setMix_rsp : (s.setMix b x).rsp = s.rsp := rfl
@[simp] theorem State.setMix_cmu : (s.setMix b x).cmu = s.cmu := rfl
@[simp] theorem State.setMix_anu : (s.setMix b x).anu = s.anu := rfl
@[simp] theorem State.setMix_lcu : (s.setMix b x).lcu = s.lcu := rfl
@[simp] theorem State.setMix_bcu : (s.setMix b x).bcu = s.bcu := rfl
@[simp] theorem State.setMix_bfs : (s.setMix b x).bfs = s.bfs := rfl
@[simp] theorem State.setMix_mix : (s.setMix b x).mix = s.mix.set b x := rfl
@[simp] theorem State.setMix_wku : (s.setMix b x).wku = s.wku := rfl
@[simp] theorem State.setMix_sfu : (s.setMix b x).sfu = s.sfu := rfl

end setMix

section setWake
variable (b : Fin 4) (x : Wake) (s : State)

@[simp] theorem State.setWake_pending : (s.setWake b x).pending = s.pending := rfl
@[simp] theorem State.setWake_counters : (s.setWake b x).counters = s.counters := rfl
@[simp] theorem State.setWake_cfl : (s.setWake b x).cfl = s.cfl := rfl
@[simp] theorem State.setWake_svl : (s.setWake b x).svl = s.svl := rfl
@[simp] theorem State.setWake_tlu : (s.setWake b x).tlu = s.tlu := rfl
@[simp] theorem State.setWake_smu : (s.setWake b x).smu = s.smu := rfl
@[simp] theorem State.setWake_asp : (s.setWake b x).asp = s.asp := rfl
@[simp] theorem State.setWake_rsp : (s.setWake b x).rsp = s.rsp := rfl
@[simp] theorem State.setWake_cmu : (s.setWake b x).cmu = s.cmu := rfl
@[simp] theorem State.setWake_anu : (s.setWake b x).anu = s.anu := rfl
@[simp] theorem State.setWake_lcu : (s.setWake b x).lcu = s.lcu := rfl
@[simp] theorem State.setWake_bcu : (s.setWake b x).bcu = s.bcu := rfl
@[simp] theorem State.setWake_bfs : (s.setWake b x).bfs = s.bfs := rfl
@[simp] theorem State.setWake_mix : (s.setWake b x).mix = s.mix := rfl
@[simp] theorem State.setWake_wku : (s.setWake b x).wku = s.wku.set b x := rfl
@[simp] theorem State.setWake_sfu : (s.setWake b x).sfu = s.sfu := rfl

end setWake

section setFeed
variable (b : Fin 4) (x : Feed) (s : State)

@[simp] theorem State.setFeed_pending : (s.setFeed b x).pending = s.pending := rfl
@[simp] theorem State.setFeed_counters : (s.setFeed b x).counters = s.counters := rfl
@[simp] theorem State.setFeed_cfl : (s.setFeed b x).cfl = s.cfl := rfl
@[simp] theorem State.setFeed_svl : (s.setFeed b x).svl = s.svl := rfl
@[simp] theorem State.setFeed_tlu : (s.setFeed b x).tlu = s.tlu := rfl
@[simp] theorem State.setFeed_smu : (s.setFeed b x).smu = s.smu := rfl
@[simp] theorem State.setFeed_asp : (s.setFeed b x).asp = s.asp := rfl
@[simp] theorem State.setFeed_rsp : (s.setFeed b x).rsp = s.rsp := rfl
@[simp] theorem State.setFeed_cmu : (s.setFeed b x).cmu = s.cmu := rfl
@[simp] theorem State.setFeed_anu : (s.setFeed b x).anu = s.anu := rfl
@[simp] theorem State.setFeed_lcu : (s.setFeed b x).lcu = s.lcu := rfl
@[simp] theorem State.setFeed_bcu : (s.setFeed b x).bcu = s.bcu := rfl
@[simp] theorem State.setFeed_bfs : (s.setFeed b x).bfs = s.bfs := rfl
@[simp] theorem State.setFeed_mix : (s.setFeed b x).mix = s.mix := rfl
@[simp] theorem State.setFeed_wku : (s.setFeed b x).wku = s.wku := rfl
@[simp] theorem State.setFeed_sfu : (s.setFeed b x).sfu = { s.sfu with feeds := s.sfu.feeds.set b x } := rfl

end setFeed

section setRsp
variable (r : Fin 2) (x : RspChannel) (s : State)

@[simp] theorem State.setRsp_pending : (s.setRsp r x).pending = s.pending := rfl
@[simp] theorem State.setRsp_counters : (s.setRsp r x).counters = s.counters := rfl
@[simp] theorem State.setRsp_cfl : (s.setRsp r x).cfl = s.cfl := rfl
@[simp] theorem State.setRsp_svl : (s.setRsp r x).svl = s.svl := rfl
@[simp] theorem State.setRsp_tlu : (s.setRsp r x).tlu = s.tlu := rfl
@[simp] theorem State.setRsp_smu : (s.setRsp r x).smu = s.smu := rfl
@[simp] theorem State.setRsp_asp : (s.setRsp r x).asp = s.asp := rfl
@[simp] theorem State.setRsp_rsp : (s.setRsp r x).rsp = s.rsp.set r x := rfl
@[simp] theorem State.setRsp_cmu : (s.setRsp r x).cmu = s.cmu := rfl
@[simp] theorem State.setRsp_anu : (s.setRsp r x).anu = s.anu := rfl
@[simp] theorem State.setRsp_lcu : (s.setRsp r x).lcu = s.lcu := rfl
@[simp] theorem State.setRsp_bcu : (s.setRsp r x).bcu = s.bcu := rfl
@[simp] theorem State.setRsp_bfs : (s.setRsp r x).bfs = s.bfs := rfl
@[simp] theorem State.setRsp_mix : (s.setRsp r x).mix = s.mix := rfl
@[simp] theorem State.setRsp_wku : (s.setRsp r x).wku = s.wku := rfl
@[simp] theorem State.setRsp_sfu : (s.setRsp r x).sfu = s.sfu := rfl

end setRsp

section setLane
variable (l : Fin 24) (x : Lane) (s : State)

@[simp] theorem State.setLane_pending : (s.setLane l x).pending = s.pending := rfl
@[simp] theorem State.setLane_counters : (s.setLane l x).counters = s.counters := rfl
@[simp] theorem State.setLane_cfl : (s.setLane l x).cfl = s.cfl := rfl
@[simp] theorem State.setLane_svl : (s.setLane l x).svl = s.svl := rfl
@[simp] theorem State.setLane_tlu : (s.setLane l x).tlu = s.tlu := rfl
@[simp] theorem State.setLane_smu : (s.setLane l x).smu = s.smu := rfl
@[simp] theorem State.setLane_asp : (s.setLane l x).asp = s.asp := rfl
@[simp] theorem State.setLane_rsp : (s.setLane l x).rsp = s.rsp := rfl
@[simp] theorem State.setLane_cmu : (s.setLane l x).cmu = s.cmu := rfl
@[simp] theorem State.setLane_anu : (s.setLane l x).anu = s.anu := rfl
@[simp] theorem State.setLane_lcu : (s.setLane l x).lcu = { s.lcu with lanes := s.lcu.lanes.set l x } := rfl
@[simp] theorem State.setLane_bcu : (s.setLane l x).bcu = s.bcu := rfl
@[simp] theorem State.setLane_bfs : (s.setLane l x).bfs = s.bfs := rfl
@[simp] theorem State.setLane_mix : (s.setLane l x).mix = s.mix := rfl
@[simp] theorem State.setLane_wku : (s.setLane l x).wku = s.wku := rfl
@[simp] theorem State.setLane_sfu : (s.setLane l x).sfu = s.sfu := rfl

end setLane

section setAsm
variable (i : Fin 8) (a : Assembler) (s : State)

@[simp] theorem State.setAsm_pending : (s.setAsm i a).pending = s.pending := rfl
@[simp] theorem State.setAsm_counters : (s.setAsm i a).counters = s.counters := rfl
@[simp] theorem State.setAsm_cfl : (s.setAsm i a).cfl = s.cfl := rfl
@[simp] theorem State.setAsm_svl : (s.setAsm i a).svl = s.svl := rfl
@[simp] theorem State.setAsm_tlu : (s.setAsm i a).tlu = s.tlu := rfl
@[simp] theorem State.setAsm_smu : (s.setAsm i a).smu = s.smu := rfl
@[simp] theorem State.setAsm_asp : (s.setAsm i a).asp = s.asp := rfl
@[simp] theorem State.setAsm_rsp : (s.setAsm i a).rsp = s.rsp := rfl
@[simp] theorem State.setAsm_cmu : (s.setAsm i a).cmu = s.cmu := rfl
@[simp] theorem State.setAsm_anu : (s.setAsm i a).anu = s.anu := rfl
@[simp] theorem State.setAsm_lcu : (s.setAsm i a).lcu = { s.lcu with asm := s.lcu.asm.set i a } := rfl
@[simp] theorem State.setAsm_bcu : (s.setAsm i a).bcu = s.bcu := rfl
@[simp] theorem State.setAsm_bfs : (s.setAsm i a).bfs = s.bfs := rfl
@[simp] theorem State.setAsm_mix : (s.setAsm i a).mix = s.mix := rfl
@[simp] theorem State.setAsm_wku : (s.setAsm i a).wku = s.wku := rfl
@[simp] theorem State.setAsm_sfu : (s.setAsm i a).sfu = s.sfu := rfl

end setAsm

section setTalk
variable (c : Fin 4) (x : Talk) (s : State)

@[simp] theorem State.setTalk_pending : (s.setTalk c x).pending = s.pending := rfl
@[simp] theorem State.setTalk_counters : (s.setTalk c x).counters = s.counters := rfl
@[simp] theorem State.setTalk_cfl : (s.setTalk c x).cfl = s.cfl := rfl
@[simp] theorem State.setTalk_svl : (s.setTalk c x).svl = s.svl := rfl
@[simp] theorem State.setTalk_tlu : (s.setTalk c x).tlu = s.tlu := rfl
@[simp] theorem State.setTalk_smu : (s.setTalk c x).smu = s.smu := rfl
@[simp] theorem State.setTalk_asp : (s.setTalk c x).asp = { s.asp with talk := s.asp.talk.set c x } := rfl
@[simp] theorem State.setTalk_rsp : (s.setTalk c x).rsp = s.rsp := rfl
@[simp] theorem State.setTalk_cmu : (s.setTalk c x).cmu = s.cmu := rfl
@[simp] theorem State.setTalk_anu : (s.setTalk c x).anu = s.anu := rfl
@[simp] theorem State.setTalk_lcu : (s.setTalk c x).lcu = s.lcu := rfl
@[simp] theorem State.setTalk_bcu : (s.setTalk c x).bcu = s.bcu := rfl
@[simp] theorem State.setTalk_bfs : (s.setTalk c x).bfs = s.bfs := rfl
@[simp] theorem State.setTalk_mix : (s.setTalk c x).mix = s.mix := rfl
@[simp] theorem State.setTalk_wku : (s.setTalk c x).wku = s.wku := rfl
@[simp] theorem State.setTalk_sfu : (s.setTalk c x).sfu = s.sfu := rfl

end setTalk

section setLink
variable (l : LinkState) (s : State)

@[simp] theorem State.setLink_pending : (s.setLink l).pending = s.pending := rfl
@[simp] theorem State.setLink_counters : (s.setLink l).counters = s.counters := rfl
@[simp] theorem State.setLink_cfl : (s.setLink l).cfl = s.cfl := rfl
@[simp] theorem State.setLink_svl : (s.setLink l).svl = s.svl := rfl
@[simp] theorem State.setLink_tlu : (s.setLink l).tlu = { s.tlu with link := l } := rfl
@[simp] theorem State.setLink_smu : (s.setLink l).smu = s.smu := rfl
@[simp] theorem State.setLink_asp : (s.setLink l).asp = s.asp := rfl
@[simp] theorem State.setLink_rsp : (s.setLink l).rsp = s.rsp := rfl
@[simp] theorem State.setLink_cmu : (s.setLink l).cmu = s.cmu := rfl
@[simp] theorem State.setLink_anu : (s.setLink l).anu = s.anu := rfl
@[simp] theorem State.setLink_lcu : (s.setLink l).lcu = s.lcu := rfl
@[simp] theorem State.setLink_bcu : (s.setLink l).bcu = s.bcu := rfl
@[simp] theorem State.setLink_bfs : (s.setLink l).bfs = s.bfs := rfl
@[simp] theorem State.setLink_mix : (s.setLink l).mix = s.mix := rfl
@[simp] theorem State.setLink_wku : (s.setLink l).wku = s.wku := rfl
@[simp] theorem State.setLink_sfu : (s.setLink l).sfu = s.sfu := rfl

end setLink

section reply
variable (code : Byte) (st : Status) (data : List Byte) (s : State)

@[simp] theorem State.reply_pending : (s.reply code st data).pending = s.pending := rfl
@[simp] theorem State.reply_counters : (s.reply code st data).counters = s.counters := rfl
@[simp] theorem State.reply_cfl : (s.reply code st data).cfl = s.cfl := rfl
@[simp] theorem State.reply_svl : (s.reply code st data).svl = { s.svl with reply := some (replyFrame code st data) } := rfl
@[simp] theorem State.reply_tlu : (s.reply code st data).tlu = s.tlu := rfl
@[simp] theorem State.reply_smu : (s.reply code st data).smu = s.smu := rfl
@[simp] theorem State.reply_asp : (s.reply code st data).asp = s.asp := rfl
@[simp] theorem State.reply_rsp : (s.reply code st data).rsp = s.rsp := rfl
@[simp] theorem State.reply_cmu : (s.reply code st data).cmu = s.cmu := rfl
@[simp] theorem State.reply_anu : (s.reply code st data).anu = s.anu := rfl
@[simp] theorem State.reply_lcu : (s.reply code st data).lcu = s.lcu := rfl
@[simp] theorem State.reply_bcu : (s.reply code st data).bcu = s.bcu := rfl
@[simp] theorem State.reply_bfs : (s.reply code st data).bfs = s.bfs := rfl
@[simp] theorem State.reply_mix : (s.reply code st data).mix = s.mix := rfl
@[simp] theorem State.reply_wku : (s.reply code st data).wku = s.wku := rfl
@[simp] theorem State.reply_sfu : (s.reply code st data).sfu = s.sfu := rfl

end reply

section handMessage
variable (o : Origin) (m : Message) (s : State)

@[simp] theorem State.handMessage_pending : (s.handMessage o m).pending = s.pending := rfl
@[simp] theorem State.handMessage_counters : (s.handMessage o m).counters = s.counters := rfl
@[simp] theorem State.handMessage_cfl : (s.handMessage o m).cfl = s.cfl := rfl
@[simp] theorem State.handMessage_svl : (s.handMessage o m).svl = s.svl := rfl
@[simp] theorem State.handMessage_tlu : (s.handMessage o m).tlu = s.tlu := rfl
@[simp] theorem State.handMessage_smu : (s.handMessage o m).smu = s.smu := rfl
@[simp] theorem State.handMessage_asp : (s.handMessage o m).asp = s.asp := rfl
@[simp] theorem State.handMessage_rsp : (s.handMessage o m).rsp = s.rsp := rfl
@[simp] theorem State.handMessage_cmu : (s.handMessage o m).cmu = s.cmu.put o m.bytes := rfl
@[simp] theorem State.handMessage_anu : (s.handMessage o m).anu = s.anu := rfl
@[simp] theorem State.handMessage_lcu : (s.handMessage o m).lcu = s.lcu := rfl
@[simp] theorem State.handMessage_bcu : (s.handMessage o m).bcu = s.bcu := rfl
@[simp] theorem State.handMessage_bfs : (s.handMessage o m).bfs = s.bfs := rfl
@[simp] theorem State.handMessage_mix : (s.handMessage o m).mix = s.mix := rfl
@[simp] theorem State.handMessage_wku : (s.handMessage o m).wku = s.wku := rfl
@[simp] theorem State.handMessage_sfu : (s.handMessage o m).sfu = s.sfu := rfl

end handMessage

end Sys2Proof.Machine
end

