-- ==== Sys2Proof/Laws/Table.lean ====
section
/-!
SUPPORT. Laws/Table.lean: reading a table after each of its operations.
-/

namespace Sys2Proof.Table
variable {n : Nat} {α β : Type}

@[ext] theorem ext_get {t u : Table n α} (h : ∀ i, t.get i = u.get i) : t = u := by
  obtain ⟨l, hl⟩ := t
  obtain ⟨m, hm⟩ := u
  have : l = m := by
    apply List.ext_getElem (by omega)
    intro i h1 h2
    exact h ⟨i, by omega⟩
  subst this
  rfl

@[simp] theorem get_set (t : Table n α) (i j : Fin n) (v : α) : (t.set i v).get j = if i = j then v else t.get j := by
  simp only [Table.get, Table.set, List.getElem_set, Fin.ext_iff]

theorem get_set_self (t : Table n α) (i : Fin n) (v : α) : (t.set i v).get i = v := by simp

theorem get_set_of_ne (t : Table n α) {i j : Fin n} (v : α) (h : i ≠ j) : (t.set i v).get j = t.get j := by simp [h]

@[simp] theorem get_ofFn (f : Fin n → α) (i : Fin n) : (ofFn f).get i = f i := by simp [Table.get, ofFn]

@[simp] theorem get_mapIdx (t : Table n α) (f : Fin n → α → β) (i : Fin n) : (t.mapIdx f).get i = f i (t.get i) := by
  simp [mapIdx]

@[simp] theorem get_map (t : Table n α) (f : α → β) (i : Fin n) : (t.map f).get i = f (t.get i) := by
  simp [Table.get, Table.map]

@[simp] theorem get_replicate (v : α) (i : Fin n) : (replicate n v).get i = v := by simp [Table.get, replicate]

@[simp] theorem get_modify (t : Table n α) (i j : Fin n) (f : α → α) :
    (t.modify i f).get j = if i = j then f (t.get j) else t.get j := by
  unfold modify
  rw [get_set]
  split
  · next h => rw [h]
  · rfl

@[simp] theorem set_get_self (t : Table n α) (i : Fin n) : t.set i (t.get i) = t := by
  ext j
  rw [get_set]
  split
  · next h => rw [h]
  · rfl

theorem mem_toList {t : Table n α} {x : α} : x ∈ t.toList ↔ ∃ i, t.get i = x := by
  rw [List.mem_iff_getElem]
  constructor
  · rintro ⟨i, h, rfl⟩
    exact ⟨⟨i, by have := t.size_eq; omega⟩, rfl⟩
  · rintro ⟨i, rfl⟩
    exact ⟨i.val, by have := t.size_eq; omega, rfl⟩

end Sys2Proof.Table
end

