-- ==== Sys2Proof/Laws/Frames.lean ====
section
/-!
SUPPORT. Laws/Frames.lean: for each named operation, the parts of the state that it leaves as they were: what a proof about
one block needs to know of every other block's operations.
-/

namespace Sys2Proof.Machine

/-! ### Folds -/

@[simp] theorem foldl_pending {α : Type} (f : State → α → State) (h : ∀ s a, (f s a).pending = s.pending) (l : List α) (s : State) :
    (l.foldl f s).pending = s.pending := by
  induction l generalizing s with
  | nil => rfl
  | cons a l ih => rw [List.foldl_cons, ih, h]

@[simp] theorem foldlFst_pending {α β : Type} (f : State × β → α → State × β) (h : ∀ p a, (f p a).1.pending = p.1.pending) (l : List α)
    (p : State × β) : (l.foldl f p).1.pending = p.1.pending := by
  induction l generalizing p with
  | nil => rfl
  | cons a l ih => rw [List.foldl_cons, ih, h]

@[simp] theorem foldl_counters {α : Type} (f : State → α → State) (h : ∀ s a, (f s a).counters = s.counters) (l : List α) (s : State) :
    (l.foldl f s).counters = s.counters := by
  induction l generalizing s with
  | nil => rfl
  | cons a l ih => rw [List.foldl_cons, ih, h]

@[simp] theorem foldlFst_counters {α β : Type} (f : State × β → α → State × β) (h : ∀ p a, (f p a).1.counters = p.1.counters) (l : List α)
    (p : State × β) : (l.foldl f p).1.counters = p.1.counters := by
  induction l generalizing p with
  | nil => rfl
  | cons a l ih => rw [List.foldl_cons, ih, h]

@[simp] theorem foldl_cfl {α : Type} (f : State → α → State) (h : ∀ s a, (f s a).cfl = s.cfl) (l : List α) (s : State) :
    (l.foldl f s).cfl = s.cfl := by
  induction l generalizing s with
  | nil => rfl
  | cons a l ih => rw [List.foldl_cons, ih, h]

@[simp] theorem foldlFst_cfl {α β : Type} (f : State × β → α → State × β) (h : ∀ p a, (f p a).1.cfl = p.1.cfl) (l : List α)
    (p : State × β) : (l.foldl f p).1.cfl = p.1.cfl := by
  induction l generalizing p with
  | nil => rfl
  | cons a l ih => rw [List.foldl_cons, ih, h]

@[simp] theorem foldl_svl {α : Type} (f : State → α → State) (h : ∀ s a, (f s a).svl = s.svl) (l : List α) (s : State) :
    (l.foldl f s).svl = s.svl := by
  induction l generalizing s with
  | nil => rfl
  | cons a l ih => rw [List.foldl_cons, ih, h]

@[simp] theorem foldlFst_svl {α β : Type} (f : State × β → α → State × β) (h : ∀ p a, (f p a).1.svl = p.1.svl) (l : List α)
    (p : State × β) : (l.foldl f p).1.svl = p.1.svl := by
  induction l generalizing p with
  | nil => rfl
  | cons a l ih => rw [List.foldl_cons, ih, h]

@[simp] theorem foldl_tlu {α : Type} (f : State → α → State) (h : ∀ s a, (f s a).tlu = s.tlu) (l : List α) (s : State) :
    (l.foldl f s).tlu = s.tlu := by
  induction l generalizing s with
  | nil => rfl
  | cons a l ih => rw [List.foldl_cons, ih, h]

@[simp] theorem foldlFst_tlu {α β : Type} (f : State × β → α → State × β) (h : ∀ p a, (f p a).1.tlu = p.1.tlu) (l : List α)
    (p : State × β) : (l.foldl f p).1.tlu = p.1.tlu := by
  induction l generalizing p with
  | nil => rfl
  | cons a l ih => rw [List.foldl_cons, ih, h]

@[simp] theorem foldl_smu {α : Type} (f : State → α → State) (h : ∀ s a, (f s a).smu = s.smu) (l : List α) (s : State) :
    (l.foldl f s).smu = s.smu := by
  induction l generalizing s with
  | nil => rfl
  | cons a l ih => rw [List.foldl_cons, ih, h]

@[simp] theorem foldlFst_smu {α β : Type} (f : State × β → α → State × β) (h : ∀ p a, (f p a).1.smu = p.1.smu) (l : List α)
    (p : State × β) : (l.foldl f p).1.smu = p.1.smu := by
  induction l generalizing p with
  | nil => rfl
  | cons a l ih => rw [List.foldl_cons, ih, h]

@[simp] theorem foldl_asp {α : Type} (f : State → α → State) (h : ∀ s a, (f s a).asp = s.asp) (l : List α) (s : State) :
    (l.foldl f s).asp = s.asp := by
  induction l generalizing s with
  | nil => rfl
  | cons a l ih => rw [List.foldl_cons, ih, h]

@[simp] theorem foldlFst_asp {α β : Type} (f : State × β → α → State × β) (h : ∀ p a, (f p a).1.asp = p.1.asp) (l : List α)
    (p : State × β) : (l.foldl f p).1.asp = p.1.asp := by
  induction l generalizing p with
  | nil => rfl
  | cons a l ih => rw [List.foldl_cons, ih, h]

@[simp] theorem foldl_rsp {α : Type} (f : State → α → State) (h : ∀ s a, (f s a).rsp = s.rsp) (l : List α) (s : State) :
    (l.foldl f s).rsp = s.rsp := by
  induction l generalizing s with
  | nil => rfl
  | cons a l ih => rw [List.foldl_cons, ih, h]

@[simp] theorem foldlFst_rsp {α β : Type} (f : State × β → α → State × β) (h : ∀ p a, (f p a).1.rsp = p.1.rsp) (l : List α)
    (p : State × β) : (l.foldl f p).1.rsp = p.1.rsp := by
  induction l generalizing p with
  | nil => rfl
  | cons a l ih => rw [List.foldl_cons, ih, h]

@[simp] theorem foldl_cmu {α : Type} (f : State → α → State) (h : ∀ s a, (f s a).cmu = s.cmu) (l : List α) (s : State) :
    (l.foldl f s).cmu = s.cmu := by
  induction l generalizing s with
  | nil => rfl
  | cons a l ih => rw [List.foldl_cons, ih, h]

@[simp] theorem foldlFst_cmu {α β : Type} (f : State × β → α → State × β) (h : ∀ p a, (f p a).1.cmu = p.1.cmu) (l : List α)
    (p : State × β) : (l.foldl f p).1.cmu = p.1.cmu := by
  induction l generalizing p with
  | nil => rfl
  | cons a l ih => rw [List.foldl_cons, ih, h]

@[simp] theorem foldl_anu {α : Type} (f : State → α → State) (h : ∀ s a, (f s a).anu = s.anu) (l : List α) (s : State) :
    (l.foldl f s).anu = s.anu := by
  induction l generalizing s with
  | nil => rfl
  | cons a l ih => rw [List.foldl_cons, ih, h]

@[simp] theorem foldlFst_anu {α β : Type} (f : State × β → α → State × β) (h : ∀ p a, (f p a).1.anu = p.1.anu) (l : List α)
    (p : State × β) : (l.foldl f p).1.anu = p.1.anu := by
  induction l generalizing p with
  | nil => rfl
  | cons a l ih => rw [List.foldl_cons, ih, h]

@[simp] theorem foldl_lcu {α : Type} (f : State → α → State) (h : ∀ s a, (f s a).lcu = s.lcu) (l : List α) (s : State) :
    (l.foldl f s).lcu = s.lcu := by
  induction l generalizing s with
  | nil => rfl
  | cons a l ih => rw [List.foldl_cons, ih, h]

@[simp] theorem foldlFst_lcu {α β : Type} (f : State × β → α → State × β) (h : ∀ p a, (f p a).1.lcu = p.1.lcu) (l : List α)
    (p : State × β) : (l.foldl f p).1.lcu = p.1.lcu := by
  induction l generalizing p with
  | nil => rfl
  | cons a l ih => rw [List.foldl_cons, ih, h]

@[simp] theorem foldl_bcu {α : Type} (f : State → α → State) (h : ∀ s a, (f s a).bcu = s.bcu) (l : List α) (s : State) :
    (l.foldl f s).bcu = s.bcu := by
  induction l generalizing s with
  | nil => rfl
  | cons a l ih => rw [List.foldl_cons, ih, h]

@[simp] theorem foldlFst_bcu {α β : Type} (f : State × β → α → State × β) (h : ∀ p a, (f p a).1.bcu = p.1.bcu) (l : List α)
    (p : State × β) : (l.foldl f p).1.bcu = p.1.bcu := by
  induction l generalizing p with
  | nil => rfl
  | cons a l ih => rw [List.foldl_cons, ih, h]

@[simp] theorem foldl_bfs {α : Type} (f : State → α → State) (h : ∀ s a, (f s a).bfs = s.bfs) (l : List α) (s : State) :
    (l.foldl f s).bfs = s.bfs := by
  induction l generalizing s with
  | nil => rfl
  | cons a l ih => rw [List.foldl_cons, ih, h]

@[simp] theorem foldlFst_bfs {α β : Type} (f : State × β → α → State × β) (h : ∀ p a, (f p a).1.bfs = p.1.bfs) (l : List α)
    (p : State × β) : (l.foldl f p).1.bfs = p.1.bfs := by
  induction l generalizing p with
  | nil => rfl
  | cons a l ih => rw [List.foldl_cons, ih, h]

@[simp] theorem foldl_mix {α : Type} (f : State → α → State) (h : ∀ s a, (f s a).mix = s.mix) (l : List α) (s : State) :
    (l.foldl f s).mix = s.mix := by
  induction l generalizing s with
  | nil => rfl
  | cons a l ih => rw [List.foldl_cons, ih, h]

@[simp] theorem foldlFst_mix {α β : Type} (f : State × β → α → State × β) (h : ∀ p a, (f p a).1.mix = p.1.mix) (l : List α)
    (p : State × β) : (l.foldl f p).1.mix = p.1.mix := by
  induction l generalizing p with
  | nil => rfl
  | cons a l ih => rw [List.foldl_cons, ih, h]

@[simp] theorem foldl_wku {α : Type} (f : State → α → State) (h : ∀ s a, (f s a).wku = s.wku) (l : List α) (s : State) :
    (l.foldl f s).wku = s.wku := by
  induction l generalizing s with
  | nil => rfl
  | cons a l ih => rw [List.foldl_cons, ih, h]

@[simp] theorem foldlFst_wku {α β : Type} (f : State × β → α → State × β) (h : ∀ p a, (f p a).1.wku = p.1.wku) (l : List α)
    (p : State × β) : (l.foldl f p).1.wku = p.1.wku := by
  induction l generalizing p with
  | nil => rfl
  | cons a l ih => rw [List.foldl_cons, ih, h]

@[simp] theorem foldl_sfu {α : Type} (f : State → α → State) (h : ∀ s a, (f s a).sfu = s.sfu) (l : List α) (s : State) :
    (l.foldl f s).sfu = s.sfu := by
  induction l generalizing s with
  | nil => rfl
  | cons a l ih => rw [List.foldl_cons, ih, h]

@[simp] theorem foldlFst_sfu {α β : Type} (f : State × β → α → State × β) (h : ∀ p a, (f p a).1.sfu = p.1.sfu) (l : List α)
    (p : State × β) : (l.foldl f p).1.sfu = p.1.sfu := by
  induction l generalizing p with
  | nil => rfl
  | cons a l ih => rw [List.foldl_cons, ih, h]

/-! ### Counters -/

@[simp] theorem State.bumpN_frame (c : Counter) (n : Nat) (s : State) :
    (s.bumpN c n).pending = s.pending ∧ (s.bumpN c n).cfl = s.cfl ∧ (s.bumpN c n).svl = s.svl ∧
    (s.bumpN c n).tlu = s.tlu ∧ (s.bumpN c n).smu = s.smu ∧ (s.bumpN c n).asp = s.asp ∧ (s.bumpN c n).rsp = s.rsp ∧
    (s.bumpN c n).cmu = s.cmu ∧ (s.bumpN c n).anu = s.anu ∧ (s.bumpN c n).lcu = s.lcu ∧ (s.bumpN c n).bcu = s.bcu ∧
    (s.bumpN c n).bfs = s.bfs ∧ (s.bumpN c n).mix = s.mix ∧ (s.bumpN c n).wku = s.wku ∧ (s.bumpN c n).sfu = s.sfu := by
  induction n with
  | zero => simp [State.bumpN]
  | succ n ih => simp [State.bumpN, ih]

/-! ### Machine/Flags.lean -/

@[simp] theorem State.deriveLamp_frame (b : Fin 4) (s : State) :
    (s.deriveLamp b).pending = s.pending ∧ (s.deriveLamp b).counters = s.counters ∧ (s.deriveLamp b).cfl = s.cfl ∧
    (s.deriveLamp b).svl = s.svl ∧ (s.deriveLamp b).tlu = s.tlu ∧ (s.deriveLamp b).smu = s.smu ∧
    (s.deriveLamp b).asp = s.asp ∧ (s.deriveLamp b).rsp = s.rsp ∧ (s.deriveLamp b).cmu = s.cmu ∧
    (s.deriveLamp b).anu = s.anu ∧ (s.deriveLamp b).lcu = s.lcu ∧ (s.deriveLamp b).bfs = s.bfs ∧
    (s.deriveLamp b).mix = s.mix ∧ (s.deriveLamp b).wku = s.wku ∧ (s.deriveLamp b).sfu = s.sfu := by
  unfold State.deriveLamp
  try dsimp only
  all_goals simp

/-! ### Machine/Rsp.lean -/

@[simp] theorem State.rspRestart_frame (r : Fin 2) (s : State) :
    (s.rspRestart r).pending = s.pending ∧ (s.rspRestart r).counters = s.counters ∧ (s.rspRestart r).cfl = s.cfl ∧
    (s.rspRestart r).svl = s.svl ∧ (s.rspRestart r).tlu = s.tlu ∧ (s.rspRestart r).smu = s.smu ∧
    (s.rspRestart r).asp = s.asp ∧ (s.rspRestart r).cmu = s.cmu ∧ (s.rspRestart r).anu = s.anu ∧
    (s.rspRestart r).lcu = s.lcu ∧ (s.rspRestart r).bcu = s.bcu ∧ (s.rspRestart r).bfs = s.bfs ∧
    (s.rspRestart r).mix = s.mix ∧ (s.rspRestart r).wku = s.wku ∧ (s.rspRestart r).sfu = s.sfu := by
  unfold State.rspRestart
  try dsimp only
  all_goals simp

@[simp] theorem State.rspFeed_frame (s : State) :
    (s.rspFeed).pending = s.pending ∧ (s.rspFeed).counters = s.counters ∧ (s.rspFeed).cfl = s.cfl ∧
    (s.rspFeed).svl = s.svl ∧ (s.rspFeed).tlu = s.tlu ∧ (s.rspFeed).smu = s.smu ∧ (s.rspFeed).asp = s.asp ∧
    (s.rspFeed).cmu = s.cmu ∧ (s.rspFeed).anu = s.anu ∧ (s.rspFeed).lcu = s.lcu ∧ (s.rspFeed).bcu = s.bcu ∧
    (s.rspFeed).bfs = s.bfs ∧ (s.rspFeed).mix = s.mix ∧ (s.rspFeed).wku = s.wku ∧ (s.rspFeed).sfu = s.sfu := by
  unfold State.rspFeed
  try dsimp only
  all_goals simp

@[simp] theorem State.rspFrameEnd_frame (frame : Nat) (s : State) :
    (s.rspFrameEnd frame).pending = s.pending ∧ (s.rspFrameEnd frame).counters = s.counters ∧
    (s.rspFrameEnd frame).cfl = s.cfl ∧ (s.rspFrameEnd frame).svl = s.svl ∧ (s.rspFrameEnd frame).tlu = s.tlu ∧
    (s.rspFrameEnd frame).smu = s.smu ∧ (s.rspFrameEnd frame).asp = s.asp ∧ (s.rspFrameEnd frame).cmu = s.cmu ∧
    (s.rspFrameEnd frame).anu = s.anu ∧ (s.rspFrameEnd frame).lcu = s.lcu ∧ (s.rspFrameEnd frame).bcu = s.bcu ∧
    (s.rspFrameEnd frame).bfs = s.bfs ∧ (s.rspFrameEnd frame).mix = s.mix ∧ (s.rspFrameEnd frame).wku = s.wku ∧
    (s.rspFrameEnd frame).sfu = s.sfu := by
  unfold State.rspFrameEnd
  try dsimp only
  all_goals simp

/-! ### Machine/Cmu.lean -/

@[simp] theorem State.appendServiceMessage_frame (m : Message) (s : State) :
    (s.appendServiceMessage m).pending = s.pending ∧ (s.appendServiceMessage m).counters = s.counters ∧
    (s.appendServiceMessage m).cfl = s.cfl ∧ (s.appendServiceMessage m).svl = s.svl ∧
    (s.appendServiceMessage m).tlu = s.tlu ∧ (s.appendServiceMessage m).smu = s.smu ∧
    (s.appendServiceMessage m).asp = s.asp ∧ (s.appendServiceMessage m).rsp = s.rsp ∧
    (s.appendServiceMessage m).anu = s.anu ∧ (s.appendServiceMessage m).lcu = s.lcu ∧
    (s.appendServiceMessage m).bcu = s.bcu ∧ (s.appendServiceMessage m).bfs = s.bfs ∧
    (s.appendServiceMessage m).mix = s.mix ∧ (s.appendServiceMessage m).wku = s.wku ∧
    (s.appendServiceMessage m).sfu = s.sfu := by
  unfold State.appendServiceMessage
  try dsimp only
  all_goals simp

@[simp] theorem State.cmuRestart_frame (s : State) :
    (s.cmuRestart).pending = s.pending ∧ (s.cmuRestart).counters = s.counters ∧ (s.cmuRestart).cfl = s.cfl ∧
    (s.cmuRestart).svl = s.svl ∧ (s.cmuRestart).tlu = s.tlu ∧ (s.cmuRestart).smu = s.smu ∧
    (s.cmuRestart).asp = s.asp ∧ (s.cmuRestart).rsp = s.rsp ∧ (s.cmuRestart).anu = s.anu ∧
    (s.cmuRestart).lcu = s.lcu ∧ (s.cmuRestart).bcu = s.bcu ∧ (s.cmuRestart).bfs = s.bfs ∧
    (s.cmuRestart).mix = s.mix ∧ (s.cmuRestart).wku = s.wku ∧ (s.cmuRestart).sfu = s.sfu := by
  unfold State.cmuRestart
  try dsimp only
  all_goals simp

@[simp] theorem State.cmuFeed_frame (s : State) :
    (s.cmuFeed).pending = s.pending ∧ (s.cmuFeed).counters = s.counters ∧ (s.cmuFeed).cfl = s.cfl ∧
    (s.cmuFeed).svl = s.svl ∧ (s.cmuFeed).tlu = s.tlu ∧ (s.cmuFeed).smu = s.smu ∧ (s.cmuFeed).asp = s.asp ∧
    (s.cmuFeed).rsp = s.rsp ∧ (s.cmuFeed).anu = s.anu ∧ (s.cmuFeed).lcu = s.lcu ∧ (s.cmuFeed).bcu = s.bcu ∧
    (s.cmuFeed).bfs = s.bfs ∧ (s.cmuFeed).mix = s.mix ∧ (s.cmuFeed).wku = s.wku ∧ (s.cmuFeed).sfu = s.sfu := by
  unfold State.cmuFeed
  try dsimp only
  all_goals simp

@[simp] theorem State.cmuFrameEnd_frame (frame : Nat) (abandoned : Bool) (s : State) :
    (s.cmuFrameEnd frame abandoned).pending = s.pending ∧ (s.cmuFrameEnd frame abandoned).counters = s.counters ∧
    (s.cmuFrameEnd frame abandoned).cfl = s.cfl ∧ (s.cmuFrameEnd frame abandoned).svl = s.svl ∧
    (s.cmuFrameEnd frame abandoned).tlu = s.tlu ∧ (s.cmuFrameEnd frame abandoned).smu = s.smu ∧
    (s.cmuFrameEnd frame abandoned).asp = s.asp ∧ (s.cmuFrameEnd frame abandoned).rsp = s.rsp ∧
    (s.cmuFrameEnd frame abandoned).anu = s.anu ∧ (s.cmuFrameEnd frame abandoned).lcu = s.lcu ∧
    (s.cmuFrameEnd frame abandoned).bcu = s.bcu ∧ (s.cmuFrameEnd frame abandoned).bfs = s.bfs ∧
    (s.cmuFrameEnd frame abandoned).mix = s.mix ∧ (s.cmuFrameEnd frame abandoned).wku = s.wku ∧
    (s.cmuFrameEnd frame abandoned).sfu = s.sfu := by
  unfold State.cmuFrameEnd
  try dsimp only
  all_goals simp

@[simp] theorem State.receiverTake_frame (slot : Nat) (byte : Byte) (mark : Bool) (i : Fin 4) (s : State) :
    (s.receiverTake slot byte mark i).pending = s.pending ∧ (s.receiverTake slot byte mark i).cfl = s.cfl ∧
    (s.receiverTake slot byte mark i).svl = s.svl ∧ (s.receiverTake slot byte mark i).tlu = s.tlu ∧
    (s.receiverTake slot byte mark i).smu = s.smu ∧ (s.receiverTake slot byte mark i).asp = s.asp ∧
    (s.receiverTake slot byte mark i).rsp = s.rsp ∧ (s.receiverTake slot byte mark i).anu = s.anu ∧
    (s.receiverTake slot byte mark i).lcu = s.lcu ∧ (s.receiverTake slot byte mark i).bcu = s.bcu ∧
    (s.receiverTake slot byte mark i).bfs = s.bfs ∧ (s.receiverTake slot byte mark i).mix = s.mix ∧
    (s.receiverTake slot byte mark i).wku = s.wku ∧ (s.receiverTake slot byte mark i).sfu = s.sfu := by
  unfold State.receiverTake
  try dsimp only
  repeat' split
  all_goals simp

@[simp] theorem State.receiversTake_frame (slot : Nat) (byte : Byte) (mark : Bool) (s : State) :
    (s.receiversTake slot byte mark).pending = s.pending ∧ (s.receiversTake slot byte mark).cfl = s.cfl ∧
    (s.receiversTake slot byte mark).svl = s.svl ∧ (s.receiversTake slot byte mark).tlu = s.tlu ∧
    (s.receiversTake slot byte mark).smu = s.smu ∧ (s.receiversTake slot byte mark).asp = s.asp ∧
    (s.receiversTake slot byte mark).rsp = s.rsp ∧ (s.receiversTake slot byte mark).anu = s.anu ∧
    (s.receiversTake slot byte mark).lcu = s.lcu ∧ (s.receiversTake slot byte mark).bcu = s.bcu ∧
    (s.receiversTake slot byte mark).bfs = s.bfs ∧ (s.receiversTake slot byte mark).mix = s.mix ∧
    (s.receiversTake slot byte mark).wku = s.wku ∧ (s.receiversTake slot byte mark).sfu = s.sfu := by
  unfold State.receiversTake
  try dsimp only
  all_goals simp

@[simp] theorem State.receiversReassign_frame (s : State) :
    (s.receiversReassign).pending = s.pending ∧ (s.receiversReassign).counters = s.counters ∧
    (s.receiversReassign).cfl = s.cfl ∧ (s.receiversReassign).svl = s.svl ∧ (s.receiversReassign).tlu = s.tlu ∧
    (s.receiversReassign).smu = s.smu ∧ (s.receiversReassign).asp = s.asp ∧ (s.receiversReassign).rsp = s.rsp ∧
    (s.receiversReassign).anu = s.anu ∧ (s.receiversReassign).lcu = s.lcu ∧ (s.receiversReassign).bcu = s.bcu ∧
    (s.receiversReassign).bfs = s.bfs ∧ (s.receiversReassign).mix = s.mix ∧ (s.receiversReassign).wku = s.wku ∧
    (s.receiversReassign).sfu = s.sfu := by
  unfold State.receiversReassign
  try dsimp only
  all_goals simp

@[simp] theorem State.cmuTeardown_frame (s : State) :
    (s.cmuTeardown).pending = s.pending ∧ (s.cmuTeardown).counters = s.counters ∧ (s.cmuTeardown).cfl = s.cfl ∧
    (s.cmuTeardown).svl = s.svl ∧ (s.cmuTeardown).tlu = s.tlu ∧ (s.cmuTeardown).smu = s.smu ∧
    (s.cmuTeardown).asp = s.asp ∧ (s.cmuTeardown).rsp = s.rsp ∧ (s.cmuTeardown).anu = s.anu ∧
    (s.cmuTeardown).lcu = s.lcu ∧ (s.cmuTeardown).bcu = s.bcu ∧ (s.cmuTeardown).bfs = s.bfs ∧
    (s.cmuTeardown).mix = s.mix ∧ (s.cmuTeardown).wku = s.wku ∧ (s.cmuTeardown).sfu = s.sfu := by
  unfold State.cmuTeardown
  try dsimp only
  all_goals simp

@[simp] theorem State.takeSecondsPrescaler_frame (s : State) :
    (s.takeSecondsPrescaler).pending = s.pending ∧ (s.takeSecondsPrescaler).counters = s.counters ∧
    (s.takeSecondsPrescaler).cfl = s.cfl ∧ (s.takeSecondsPrescaler).svl = s.svl ∧
    (s.takeSecondsPrescaler).tlu = s.tlu ∧ (s.takeSecondsPrescaler).smu = s.smu ∧
    (s.takeSecondsPrescaler).asp = s.asp ∧ (s.takeSecondsPrescaler).rsp = s.rsp ∧
    (s.takeSecondsPrescaler).anu = s.anu ∧ (s.takeSecondsPrescaler).lcu = s.lcu ∧
    (s.takeSecondsPrescaler).bcu = s.bcu ∧ (s.takeSecondsPrescaler).bfs = s.bfs ∧
    (s.takeSecondsPrescaler).mix = s.mix ∧ (s.takeSecondsPrescaler).wku = s.wku ∧
    (s.takeSecondsPrescaler).sfu = s.sfu := by
  unfold State.takeSecondsPrescaler
  try dsimp only
  repeat' split
  all_goals simp

@[simp] theorem State.takeWakeMissed_frame (s : State) :
    (s.takeWakeMissed).pending = s.pending ∧ (s.takeWakeMissed).cfl = s.cfl ∧ (s.takeWakeMissed).svl = s.svl ∧
    (s.takeWakeMissed).tlu = s.tlu ∧ (s.takeWakeMissed).smu = s.smu ∧ (s.takeWakeMissed).asp = s.asp ∧
    (s.takeWakeMissed).rsp = s.rsp ∧ (s.takeWakeMissed).anu = s.anu ∧ (s.takeWakeMissed).lcu = s.lcu ∧
    (s.takeWakeMissed).bcu = s.bcu ∧ (s.takeWakeMissed).bfs = s.bfs ∧ (s.takeWakeMissed).mix = s.mix ∧
    (s.takeWakeMissed).wku = s.wku ∧ (s.takeWakeMissed).sfu = s.sfu := by
  unfold State.takeWakeMissed
  try dsimp only
  repeat' split
  all_goals simp

/-! ### Machine/Smu.lean -/

@[simp] theorem State.sourceReleased_frame (h : Fin 11) (s : State) :
    (s.sourceReleased h).pending = s.pending ∧ (s.sourceReleased h).counters = s.counters ∧
    (s.sourceReleased h).cfl = s.cfl ∧ (s.sourceReleased h).svl = s.svl ∧ (s.sourceReleased h).tlu = s.tlu ∧
    (s.sourceReleased h).smu = s.smu ∧ (s.sourceReleased h).asp = s.asp ∧ (s.sourceReleased h).anu = s.anu ∧
    (s.sourceReleased h).lcu = s.lcu ∧ (s.sourceReleased h).bcu = s.bcu ∧ (s.sourceReleased h).bfs = s.bfs ∧
    (s.sourceReleased h).mix = s.mix ∧ (s.sourceReleased h).wku = s.wku ∧ (s.sourceReleased h).sfu = s.sfu := by
  unfold State.sourceReleased
  try dsimp only
  repeat' split
  all_goals simp

@[simp] theorem State.leaveHeld_frame (h : Fin 11) (x : Holding) (s : State) :
    (s.leaveHeld h x).pending = s.pending ∧ (s.leaveHeld h x).counters = s.counters ∧ (s.leaveHeld h x).cfl = s.cfl ∧
    (s.leaveHeld h x).svl = s.svl ∧ (s.leaveHeld h x).tlu = s.tlu ∧ (s.leaveHeld h x).asp = s.asp ∧
    (s.leaveHeld h x).anu = s.anu ∧ (s.leaveHeld h x).lcu = s.lcu ∧ (s.leaveHeld h x).bcu = s.bcu ∧
    (s.leaveHeld h x).bfs = s.bfs ∧ (s.leaveHeld h x).mix = s.mix ∧ (s.leaveHeld h x).wku = s.wku ∧
    (s.leaveHeld h x).sfu = s.sfu := by
  unfold State.leaveHeld
  try dsimp only
  all_goals simp

@[simp] theorem State.holdingTick_frame (h : Fin 11) (s : State) :
    (s.holdingTick h).pending = s.pending ∧ (s.holdingTick h).counters = s.counters ∧ (s.holdingTick h).cfl = s.cfl ∧
    (s.holdingTick h).svl = s.svl ∧ (s.holdingTick h).tlu = s.tlu ∧ (s.holdingTick h).asp = s.asp ∧
    (s.holdingTick h).anu = s.anu ∧ (s.holdingTick h).lcu = s.lcu ∧ (s.holdingTick h).bcu = s.bcu ∧
    (s.holdingTick h).bfs = s.bfs ∧ (s.holdingTick h).mix = s.mix ∧ (s.holdingTick h).wku = s.wku ∧
    (s.holdingTick h).sfu = s.sfu := by
  unfold State.holdingTick
  try dsimp only
  repeat' split
  all_goals simp

@[simp] theorem State.smuTick_frame (s : State) :
    (s.smuTick).pending = s.pending ∧ (s.smuTick).counters = s.counters ∧ (s.smuTick).cfl = s.cfl ∧
    (s.smuTick).svl = s.svl ∧ (s.smuTick).tlu = s.tlu ∧ (s.smuTick).asp = s.asp ∧ (s.smuTick).anu = s.anu ∧
    (s.smuTick).lcu = s.lcu ∧ (s.smuTick).bcu = s.bcu ∧ (s.smuTick).bfs = s.bfs ∧ (s.smuTick).mix = s.mix ∧
    (s.smuTick).wku = s.wku ∧ (s.smuTick).sfu = s.sfu := by
  unfold State.smuTick
  try dsimp only
  all_goals simp

@[simp] theorem State.takeBackoff_frame (h : Fin 11) (s : State) :
    (s.takeBackoff h).pending = s.pending ∧ (s.takeBackoff h).counters = s.counters ∧ (s.takeBackoff h).cfl = s.cfl ∧
    (s.takeBackoff h).svl = s.svl ∧ (s.takeBackoff h).tlu = s.tlu ∧ (s.takeBackoff h).asp = s.asp ∧
    (s.takeBackoff h).rsp = s.rsp ∧ (s.takeBackoff h).cmu = s.cmu ∧ (s.takeBackoff h).anu = s.anu ∧
    (s.takeBackoff h).lcu = s.lcu ∧ (s.takeBackoff h).bcu = s.bcu ∧ (s.takeBackoff h).bfs = s.bfs ∧
    (s.takeBackoff h).mix = s.mix ∧ (s.takeBackoff h).wku = s.wku ∧ (s.takeBackoff h).sfu = s.sfu := by
  unfold State.takeBackoff
  try dsimp only
  repeat' split
  all_goals simp

@[simp] theorem State.replaceMap_frame (s : State) :
    (s.replaceMap).pending = s.pending ∧ (s.replaceMap).cfl = s.cfl ∧ (s.replaceMap).svl = s.svl ∧
    (s.replaceMap).tlu = s.tlu ∧ (s.replaceMap).asp = s.asp ∧ (s.replaceMap).rsp = s.rsp ∧
    (s.replaceMap).cmu = s.cmu ∧ (s.replaceMap).anu = s.anu ∧ (s.replaceMap).lcu = s.lcu ∧
    (s.replaceMap).bcu = s.bcu ∧ (s.replaceMap).bfs = s.bfs ∧ (s.replaceMap).mix = s.mix ∧
    (s.replaceMap).wku = s.wku ∧ (s.replaceMap).sfu = s.sfu := by
  unfold State.replaceMap
  try dsimp only
  all_goals simp

@[simp] theorem State.settleHolding_frame (h : Fin 11) (s : State) :
    (s.settleHolding h).pending = s.pending ∧ (s.settleHolding h).cfl = s.cfl ∧ (s.settleHolding h).svl = s.svl ∧
    (s.settleHolding h).tlu = s.tlu ∧ (s.settleHolding h).asp = s.asp ∧ (s.settleHolding h).anu = s.anu ∧
    (s.settleHolding h).lcu = s.lcu ∧ (s.settleHolding h).bcu = s.bcu ∧ (s.settleHolding h).bfs = s.bfs ∧
    (s.settleHolding h).mix = s.mix ∧ (s.settleHolding h).wku = s.wku ∧ (s.settleHolding h).sfu = s.sfu := by
  unfold State.settleHolding
  try dsimp only
  repeat' split
  all_goals simp

@[simp] theorem State.seekHolding_frame (p : State × List Nat) (h : Fin 11) :
    (State.seekHolding p h).1.pending = p.1.pending ∧ (State.seekHolding p h).1.counters = p.1.counters ∧
    (State.seekHolding p h).1.cfl = p.1.cfl ∧ (State.seekHolding p h).1.svl = p.1.svl ∧
    (State.seekHolding p h).1.tlu = p.1.tlu ∧ (State.seekHolding p h).1.asp = p.1.asp ∧
    (State.seekHolding p h).1.rsp = p.1.rsp ∧ (State.seekHolding p h).1.cmu = p.1.cmu ∧
    (State.seekHolding p h).1.anu = p.1.anu ∧ (State.seekHolding p h).1.lcu = p.1.lcu ∧
    (State.seekHolding p h).1.bcu = p.1.bcu ∧ (State.seekHolding p h).1.bfs = p.1.bfs ∧
    (State.seekHolding p h).1.mix = p.1.mix ∧ (State.seekHolding p h).1.wku = p.1.wku ∧
    (State.seekHolding p h).1.sfu = p.1.sfu := by
  unfold State.seekHolding
  try dsimp only
  repeat' split
  all_goals simp

@[simp] theorem State.smuMapUpdate_frame (s : State) :
    (s.smuMapUpdate).pending = s.pending ∧ (s.smuMapUpdate).cfl = s.cfl ∧ (s.smuMapUpdate).svl = s.svl ∧
    (s.smuMapUpdate).tlu = s.tlu ∧ (s.smuMapUpdate).asp = s.asp ∧ (s.smuMapUpdate).anu = s.anu ∧
    (s.smuMapUpdate).lcu = s.lcu ∧ (s.smuMapUpdate).bcu = s.bcu ∧ (s.smuMapUpdate).bfs = s.bfs ∧
    (s.smuMapUpdate).mix = s.mix ∧ (s.smuMapUpdate).wku = s.wku ∧ (s.smuMapUpdate).sfu = s.sfu := by
  unfold State.smuMapUpdate
  try dsimp only
  all_goals simp

@[simp] theorem State.collect_frame (k : Fin 40) (byte : Byte) (result : Option SlotResult) (s : State) :
    (s.collect k byte result).pending = s.pending ∧ (s.collect k byte result).counters = s.counters ∧
    (s.collect k byte result).cfl = s.cfl ∧ (s.collect k byte result).svl = s.svl ∧
    (s.collect k byte result).tlu = s.tlu ∧ (s.collect k byte result).asp = s.asp ∧
    (s.collect k byte result).rsp = s.rsp ∧ (s.collect k byte result).cmu = s.cmu ∧
    (s.collect k byte result).anu = s.anu ∧ (s.collect k byte result).lcu = s.lcu ∧
    (s.collect k byte result).bcu = s.bcu ∧ (s.collect k byte result).bfs = s.bfs ∧
    (s.collect k byte result).mix = s.mix ∧ (s.collect k byte result).wku = s.wku ∧
    (s.collect k byte result).sfu = s.sfu := by
  unfold State.collect
  try dsimp only
  all_goals simp

@[simp] theorem State.discardCollected_frame (s : State) :
    (s.discardCollected).pending = s.pending ∧ (s.discardCollected).counters = s.counters ∧
    (s.discardCollected).cfl = s.cfl ∧ (s.discardCollected).svl = s.svl ∧ (s.discardCollected).tlu = s.tlu ∧
    (s.discardCollected).asp = s.asp ∧ (s.discardCollected).rsp = s.rsp ∧ (s.discardCollected).cmu = s.cmu ∧
    (s.discardCollected).anu = s.anu ∧ (s.discardCollected).lcu = s.lcu ∧ (s.discardCollected).bcu = s.bcu ∧
    (s.discardCollected).bfs = s.bfs ∧ (s.discardCollected).mix = s.mix ∧ (s.discardCollected).wku = s.wku ∧
    (s.discardCollected).sfu = s.sfu := by
  unfold State.discardCollected
  try dsimp only
  all_goals simp

@[simp] theorem State.countParity_frame (k : Fin 40) (byte : Byte) (ninth : Bool) (s : State) :
    (s.countParity k byte ninth).pending = s.pending ∧ (s.countParity k byte ninth).counters = s.counters ∧
    (s.countParity k byte ninth).cfl = s.cfl ∧ (s.countParity k byte ninth).svl = s.svl ∧
    (s.countParity k byte ninth).tlu = s.tlu ∧ (s.countParity k byte ninth).asp = s.asp ∧
    (s.countParity k byte ninth).rsp = s.rsp ∧ (s.countParity k byte ninth).cmu = s.cmu ∧
    (s.countParity k byte ninth).anu = s.anu ∧ (s.countParity k byte ninth).lcu = s.lcu ∧
    (s.countParity k byte ninth).bcu = s.bcu ∧ (s.countParity k byte ninth).bfs = s.bfs ∧
    (s.countParity k byte ninth).mix = s.mix ∧ (s.countParity k byte ninth).wku = s.wku ∧
    (s.countParity k byte ninth).sfu = s.sfu := by
  unfold State.countParity
  try dsimp only
  repeat' split
  all_goals simp

@[simp] theorem State.collide_frame (h : Fin 11) (s : State) :
    (s.collide h).pending = s.pending ∧ (s.collide h).cfl = s.cfl ∧ (s.collide h).svl = s.svl ∧
    (s.collide h).tlu = s.tlu ∧ (s.collide h).asp = s.asp ∧ (s.collide h).anu = s.anu ∧ (s.collide h).lcu = s.lcu ∧
    (s.collide h).bcu = s.bcu ∧ (s.collide h).bfs = s.bfs ∧ (s.collide h).mix = s.mix ∧ (s.collide h).wku = s.wku ∧
    (s.collide h).sfu = s.sfu := by
  unfold State.collide
  try dsimp only
  repeat' split
  all_goals simp

@[simp] theorem State.holdingTeardown_frame (h : Fin 11) (s : State) :
    (s.holdingTeardown h).pending = s.pending ∧ (s.holdingTeardown h).counters = s.counters ∧
    (s.holdingTeardown h).cfl = s.cfl ∧ (s.holdingTeardown h).svl = s.svl ∧ (s.holdingTeardown h).tlu = s.tlu ∧
    (s.holdingTeardown h).asp = s.asp ∧ (s.holdingTeardown h).anu = s.anu ∧ (s.holdingTeardown h).lcu = s.lcu ∧
    (s.holdingTeardown h).bcu = s.bcu ∧ (s.holdingTeardown h).bfs = s.bfs ∧ (s.holdingTeardown h).mix = s.mix ∧
    (s.holdingTeardown h).wku = s.wku ∧ (s.holdingTeardown h).sfu = s.sfu := by
  unfold State.holdingTeardown
  try dsimp only
  repeat' split
  all_goals simp

@[simp] theorem State.smuTeardown_frame (s : State) :
    (s.smuTeardown).pending = s.pending ∧ (s.smuTeardown).counters = s.counters ∧ (s.smuTeardown).cfl = s.cfl ∧
    (s.smuTeardown).svl = s.svl ∧ (s.smuTeardown).tlu = s.tlu ∧ (s.smuTeardown).asp = s.asp ∧
    (s.smuTeardown).anu = s.anu ∧ (s.smuTeardown).lcu = s.lcu ∧ (s.smuTeardown).bcu = s.bcu ∧
    (s.smuTeardown).bfs = s.bfs ∧ (s.smuTeardown).mix = s.mix ∧ (s.smuTeardown).wku = s.wku ∧
    (s.smuTeardown).sfu = s.sfu := by
  unfold State.smuTeardown
  try dsimp only
  all_goals simp

/-! ### Machine/Mix.lean -/

@[simp] theorem State.takeRampStep_frame (b : Fin 4) (l : LevelName) (s : State) :
    (s.takeRampStep b l).pending = s.pending ∧ (s.takeRampStep b l).counters = s.counters ∧
    (s.takeRampStep b l).cfl = s.cfl ∧ (s.takeRampStep b l).svl = s.svl ∧ (s.takeRampStep b l).tlu = s.tlu ∧
    (s.takeRampStep b l).smu = s.smu ∧ (s.takeRampStep b l).asp = s.asp ∧ (s.takeRampStep b l).rsp = s.rsp ∧
    (s.takeRampStep b l).cmu = s.cmu ∧ (s.takeRampStep b l).anu = s.anu ∧ (s.takeRampStep b l).lcu = s.lcu ∧
    (s.takeRampStep b l).bcu = s.bcu ∧ (s.takeRampStep b l).bfs = s.bfs ∧ (s.takeRampStep b l).wku = s.wku ∧
    (s.takeRampStep b l).sfu = s.sfu := by
  unfold State.takeRampStep
  try dsimp only
  repeat' split
  all_goals simp

@[simp] theorem State.mixFollowChange_frame (b : Fin 4) (old new : Follow) (s : State) :
    (s.mixFollowChange b old new).pending = s.pending ∧ (s.mixFollowChange b old new).counters = s.counters ∧
    (s.mixFollowChange b old new).cfl = s.cfl ∧ (s.mixFollowChange b old new).svl = s.svl ∧
    (s.mixFollowChange b old new).tlu = s.tlu ∧ (s.mixFollowChange b old new).smu = s.smu ∧
    (s.mixFollowChange b old new).asp = s.asp ∧ (s.mixFollowChange b old new).rsp = s.rsp ∧
    (s.mixFollowChange b old new).cmu = s.cmu ∧ (s.mixFollowChange b old new).anu = s.anu ∧
    (s.mixFollowChange b old new).lcu = s.lcu ∧ (s.mixFollowChange b old new).bcu = s.bcu ∧
    (s.mixFollowChange b old new).bfs = s.bfs ∧ (s.mixFollowChange b old new).wku = s.wku ∧
    (s.mixFollowChange b old new).sfu = s.sfu := by
  unfold State.mixFollowChange
  try dsimp only
  all_goals simp

@[simp] theorem State.mixUserLevel_frame (b : Fin 4) (s : State) :
    (s.mixUserLevel b).pending = s.pending ∧ (s.mixUserLevel b).counters = s.counters ∧
    (s.mixUserLevel b).cfl = s.cfl ∧ (s.mixUserLevel b).svl = s.svl ∧ (s.mixUserLevel b).tlu = s.tlu ∧
    (s.mixUserLevel b).smu = s.smu ∧ (s.mixUserLevel b).asp = s.asp ∧ (s.mixUserLevel b).rsp = s.rsp ∧
    (s.mixUserLevel b).cmu = s.cmu ∧ (s.mixUserLevel b).anu = s.anu ∧ (s.mixUserLevel b).lcu = s.lcu ∧
    (s.mixUserLevel b).bcu = s.bcu ∧ (s.mixUserLevel b).bfs = s.bfs ∧ (s.mixUserLevel b).wku = s.wku ∧
    (s.mixUserLevel b).sfu = s.sfu := by
  unfold State.mixUserLevel
  try dsimp only
  all_goals simp

@[simp] theorem State.pillowRestart_frame (b : Fin 4) (base : Nat) (s : State) :
    (s.pillowRestart b base).pending = s.pending ∧ (s.pillowRestart b base).counters = s.counters ∧
    (s.pillowRestart b base).cfl = s.cfl ∧ (s.pillowRestart b base).svl = s.svl ∧
    (s.pillowRestart b base).tlu = s.tlu ∧ (s.pillowRestart b base).smu = s.smu ∧
    (s.pillowRestart b base).asp = s.asp ∧ (s.pillowRestart b base).rsp = s.rsp ∧
    (s.pillowRestart b base).cmu = s.cmu ∧ (s.pillowRestart b base).anu = s.anu ∧
    (s.pillowRestart b base).lcu = s.lcu ∧ (s.pillowRestart b base).bcu = s.bcu ∧
    (s.pillowRestart b base).bfs = s.bfs ∧ (s.pillowRestart b base).wku = s.wku ∧
    (s.pillowRestart b base).sfu = s.sfu := by
  unfold State.pillowRestart
  try dsimp only
  all_goals simp

@[simp] theorem State.pillowMute_frame (b : Fin 4) (s : State) :
    (s.pillowMute b).pending = s.pending ∧ (s.pillowMute b).counters = s.counters ∧ (s.pillowMute b).cfl = s.cfl ∧
    (s.pillowMute b).svl = s.svl ∧ (s.pillowMute b).tlu = s.tlu ∧ (s.pillowMute b).smu = s.smu ∧
    (s.pillowMute b).asp = s.asp ∧ (s.pillowMute b).rsp = s.rsp ∧ (s.pillowMute b).cmu = s.cmu ∧
    (s.pillowMute b).anu = s.anu ∧ (s.pillowMute b).lcu = s.lcu ∧ (s.pillowMute b).bcu = s.bcu ∧
    (s.pillowMute b).bfs = s.bfs ∧ (s.pillowMute b).wku = s.wku ∧ (s.pillowMute b).sfu = s.sfu := by
  unfold State.pillowMute
  try dsimp only
  all_goals simp

@[simp] theorem State.takeDuckHold_frame (b : Fin 4) (s : State) :
    (s.takeDuckHold b).pending = s.pending ∧ (s.takeDuckHold b).counters = s.counters ∧
    (s.takeDuckHold b).cfl = s.cfl ∧ (s.takeDuckHold b).svl = s.svl ∧ (s.takeDuckHold b).tlu = s.tlu ∧
    (s.takeDuckHold b).smu = s.smu ∧ (s.takeDuckHold b).asp = s.asp ∧ (s.takeDuckHold b).rsp = s.rsp ∧
    (s.takeDuckHold b).cmu = s.cmu ∧ (s.takeDuckHold b).anu = s.anu ∧ (s.takeDuckHold b).lcu = s.lcu ∧
    (s.takeDuckHold b).bcu = s.bcu ∧ (s.takeDuckHold b).bfs = s.bfs ∧ (s.takeDuckHold b).wku = s.wku ∧
    (s.takeDuckHold b).sfu = s.sfu := by
  unfold State.takeDuckHold
  try dsimp only
  repeat' split
  all_goals simp

@[simp] theorem State.mixFrameEnd_frame (s : State) :
    (s.mixFrameEnd).pending = s.pending ∧ (s.mixFrameEnd).counters = s.counters ∧ (s.mixFrameEnd).cfl = s.cfl ∧
    (s.mixFrameEnd).svl = s.svl ∧ (s.mixFrameEnd).tlu = s.tlu ∧ (s.mixFrameEnd).smu = s.smu ∧
    (s.mixFrameEnd).asp = s.asp ∧ (s.mixFrameEnd).rsp = s.rsp ∧ (s.mixFrameEnd).cmu = s.cmu ∧
    (s.mixFrameEnd).anu = s.anu ∧ (s.mixFrameEnd).lcu = s.lcu ∧ (s.mixFrameEnd).bcu = s.bcu ∧
    (s.mixFrameEnd).bfs = s.bfs ∧ (s.mixFrameEnd).wku = s.wku ∧ (s.mixFrameEnd).sfu = s.sfu := by
  unfold State.mixFrameEnd
  try dsimp only
  all_goals simp

@[simp] theorem State.mixFrameStart_frame (s : State) :
    (s.mixFrameStart).pending = s.pending ∧ (s.mixFrameStart).counters = s.counters ∧ (s.mixFrameStart).cfl = s.cfl ∧
    (s.mixFrameStart).svl = s.svl ∧ (s.mixFrameStart).tlu = s.tlu ∧ (s.mixFrameStart).smu = s.smu ∧
    (s.mixFrameStart).asp = s.asp ∧ (s.mixFrameStart).rsp = s.rsp ∧ (s.mixFrameStart).cmu = s.cmu ∧
    (s.mixFrameStart).anu = s.anu ∧ (s.mixFrameStart).lcu = s.lcu ∧ (s.mixFrameStart).bcu = s.bcu ∧
    (s.mixFrameStart).wku = s.wku ∧ (s.mixFrameStart).sfu = s.sfu := by
  unfold State.mixFrameStart
  try dsimp only
  repeat' split
  all_goals simp

@[simp] theorem State.mixTick_frame (s : State) :
    (s.mixTick).pending = s.pending ∧ (s.mixTick).counters = s.counters ∧ (s.mixTick).cfl = s.cfl ∧
    (s.mixTick).svl = s.svl ∧ (s.mixTick).tlu = s.tlu ∧ (s.mixTick).smu = s.smu ∧ (s.mixTick).asp = s.asp ∧
    (s.mixTick).rsp = s.rsp ∧ (s.mixTick).cmu = s.cmu ∧ (s.mixTick).anu = s.anu ∧ (s.mixTick).lcu = s.lcu ∧
    (s.mixTick).bcu = s.bcu ∧ (s.mixTick).bfs = s.bfs ∧ (s.mixTick).wku = s.wku ∧ (s.mixTick).sfu = s.sfu := by
  unfold State.mixTick
  try dsimp only
  all_goals simp

@[simp] theorem State.mixReset_frame (b : Fin 4) (s : State) :
    (s.mixReset b).pending = s.pending ∧ (s.mixReset b).counters = s.counters ∧ (s.mixReset b).cfl = s.cfl ∧
    (s.mixReset b).svl = s.svl ∧ (s.mixReset b).tlu = s.tlu ∧ (s.mixReset b).smu = s.smu ∧
    (s.mixReset b).asp = s.asp ∧ (s.mixReset b).rsp = s.rsp ∧ (s.mixReset b).cmu = s.cmu ∧
    (s.mixReset b).anu = s.anu ∧ (s.mixReset b).lcu = s.lcu ∧ (s.mixReset b).bcu = s.bcu ∧
    (s.mixReset b).bfs = s.bfs ∧ (s.mixReset b).wku = s.wku ∧ (s.mixReset b).sfu = s.sfu := by
  unfold State.mixReset
  try dsimp only
  all_goals simp

/-! ### Machine/Sfu.lean -/

@[simp] theorem State.placeCard_frame (b : Fin 4) (r : List Byte) (s : State) :
    (s.placeCard b r).pending = s.pending ∧ (s.placeCard b r).cfl = s.cfl ∧ (s.placeCard b r).svl = s.svl ∧
    (s.placeCard b r).tlu = s.tlu ∧ (s.placeCard b r).smu = s.smu ∧ (s.placeCard b r).asp = s.asp ∧
    (s.placeCard b r).rsp = s.rsp ∧ (s.placeCard b r).cmu = s.cmu ∧ (s.placeCard b r).anu = s.anu ∧
    (s.placeCard b r).lcu = s.lcu ∧ (s.placeCard b r).bcu = s.bcu ∧ (s.placeCard b r).bfs = s.bfs ∧
    (s.placeCard b r).mix = s.mix ∧ (s.placeCard b r).wku = s.wku := by
  unfold State.placeCard
  try dsimp only
  all_goals simp

@[simp] theorem State.showBase_frame (b : Fin 4) (c : BaseCard) (s : State) :
    (s.showBase b c).pending = s.pending ∧ (s.showBase b c).cfl = s.cfl ∧ (s.showBase b c).svl = s.svl ∧
    (s.showBase b c).tlu = s.tlu ∧ (s.showBase b c).smu = s.smu ∧ (s.showBase b c).asp = s.asp ∧
    (s.showBase b c).rsp = s.rsp ∧ (s.showBase b c).cmu = s.cmu ∧ (s.showBase b c).anu = s.anu ∧
    (s.showBase b c).lcu = s.lcu ∧ (s.showBase b c).bcu = s.bcu ∧ (s.showBase b c).bfs = s.bfs ∧
    (s.showBase b c).mix = s.mix ∧ (s.showBase b c).wku = s.wku := by
  unfold State.showBase
  try dsimp only
  repeat' split
  all_goals simp

@[simp] theorem State.dropRecord_frame (b : Fin 4) (s : State) :
    (s.dropRecord b).pending = s.pending ∧ (s.dropRecord b).cfl = s.cfl ∧ (s.dropRecord b).svl = s.svl ∧
    (s.dropRecord b).tlu = s.tlu ∧ (s.dropRecord b).smu = s.smu ∧ (s.dropRecord b).asp = s.asp ∧
    (s.dropRecord b).rsp = s.rsp ∧ (s.dropRecord b).cmu = s.cmu ∧ (s.dropRecord b).anu = s.anu ∧
    (s.dropRecord b).lcu = s.lcu ∧ (s.dropRecord b).bcu = s.bcu ∧ (s.dropRecord b).bfs = s.bfs ∧
    (s.dropRecord b).mix = s.mix ∧ (s.dropRecord b).wku = s.wku := by
  unfold State.dropRecord
  try dsimp only
  repeat' split
  all_goals simp

@[simp] theorem State.appendRecord_frame (b : Fin 4) (r : List Byte) (s : State) :
    (s.appendRecord b r).pending = s.pending ∧ (s.appendRecord b r).cfl = s.cfl ∧ (s.appendRecord b r).svl = s.svl ∧
    (s.appendRecord b r).tlu = s.tlu ∧ (s.appendRecord b r).smu = s.smu ∧ (s.appendRecord b r).asp = s.asp ∧
    (s.appendRecord b r).rsp = s.rsp ∧ (s.appendRecord b r).cmu = s.cmu ∧ (s.appendRecord b r).anu = s.anu ∧
    (s.appendRecord b r).lcu = s.lcu ∧ (s.appendRecord b r).bcu = s.bcu ∧ (s.appendRecord b r).bfs = s.bfs ∧
    (s.appendRecord b r).mix = s.mix ∧ (s.appendRecord b r).wku = s.wku := by
  unfold State.appendRecord
  try dsimp only
  repeat' split
  all_goals simp

@[simp] theorem State.beginAtKey_frame (b : Fin 4) (r : List Byte) (s : State) :
    (s.beginAtKey b r).pending = s.pending ∧ (s.beginAtKey b r).cfl = s.cfl ∧ (s.beginAtKey b r).svl = s.svl ∧
    (s.beginAtKey b r).tlu = s.tlu ∧ (s.beginAtKey b r).smu = s.smu ∧ (s.beginAtKey b r).asp = s.asp ∧
    (s.beginAtKey b r).rsp = s.rsp ∧ (s.beginAtKey b r).cmu = s.cmu ∧ (s.beginAtKey b r).anu = s.anu ∧
    (s.beginAtKey b r).lcu = s.lcu ∧ (s.beginAtKey b r).bcu = s.bcu ∧ (s.beginAtKey b r).bfs = s.bfs ∧
    (s.beginAtKey b r).mix = s.mix ∧ (s.beginAtKey b r).wku = s.wku := by
  unfold State.beginAtKey
  try dsimp only
  repeat' split
  all_goals simp

@[simp] theorem State.endFeed_frame (b : Fin 4) (s : State) :
    (s.endFeed b).pending = s.pending ∧ (s.endFeed b).cfl = s.cfl ∧ (s.endFeed b).svl = s.svl ∧
    (s.endFeed b).tlu = s.tlu ∧ (s.endFeed b).smu = s.smu ∧ (s.endFeed b).asp = s.asp ∧ (s.endFeed b).rsp = s.rsp ∧
    (s.endFeed b).cmu = s.cmu ∧ (s.endFeed b).anu = s.anu ∧ (s.endFeed b).lcu = s.lcu ∧ (s.endFeed b).bcu = s.bcu ∧
    (s.endFeed b).bfs = s.bfs ∧ (s.endFeed b).mix = s.mix ∧ (s.endFeed b).wku = s.wku := by
  unfold State.endFeed
  try dsimp only
  all_goals simp

@[simp] theorem State.feedTake_frame (b : Fin 4) (r : List Byte) (s : State) :
    (s.feedTake b r).pending = s.pending ∧ (s.feedTake b r).cfl = s.cfl ∧ (s.feedTake b r).svl = s.svl ∧
    (s.feedTake b r).tlu = s.tlu ∧ (s.feedTake b r).smu = s.smu ∧ (s.feedTake b r).asp = s.asp ∧
    (s.feedTake b r).rsp = s.rsp ∧ (s.feedTake b r).cmu = s.cmu ∧ (s.feedTake b r).anu = s.anu ∧
    (s.feedTake b r).lcu = s.lcu ∧ (s.feedTake b r).bcu = s.bcu ∧ (s.feedTake b r).bfs = s.bfs ∧
    (s.feedTake b r).mix = s.mix ∧ (s.feedTake b r).wku = s.wku := by
  unfold State.feedTake
  try dsimp only
  repeat' split
  all_goals simp

@[simp] theorem State.lossReport_frame (tag : Byte) (s : State) :
    (s.lossReport tag).pending = s.pending ∧ (s.lossReport tag).counters = s.counters ∧
    (s.lossReport tag).cfl = s.cfl ∧ (s.lossReport tag).svl = s.svl ∧ (s.lossReport tag).tlu = s.tlu ∧
    (s.lossReport tag).smu = s.smu ∧ (s.lossReport tag).asp = s.asp ∧ (s.lossReport tag).rsp = s.rsp ∧
    (s.lossReport tag).cmu = s.cmu ∧ (s.lossReport tag).anu = s.anu ∧ (s.lossReport tag).lcu = s.lcu ∧
    (s.lossReport tag).bcu = s.bcu ∧ (s.lossReport tag).bfs = s.bfs ∧ (s.lossReport tag).mix = s.mix ∧
    (s.lossReport tag).wku = s.wku := by
  unfold State.lossReport
  try dsimp only
  all_goals simp

@[simp] theorem State.takeWaitKeyTimer_frame (b : Fin 4) (s : State) :
    (s.takeWaitKeyTimer b).pending = s.pending ∧ (s.takeWaitKeyTimer b).cfl = s.cfl ∧
    (s.takeWaitKeyTimer b).svl = s.svl ∧ (s.takeWaitKeyTimer b).tlu = s.tlu ∧ (s.takeWaitKeyTimer b).smu = s.smu ∧
    (s.takeWaitKeyTimer b).asp = s.asp ∧ (s.takeWaitKeyTimer b).rsp = s.rsp ∧ (s.takeWaitKeyTimer b).cmu = s.cmu ∧
    (s.takeWaitKeyTimer b).anu = s.anu ∧ (s.takeWaitKeyTimer b).lcu = s.lcu ∧ (s.takeWaitKeyTimer b).bcu = s.bcu ∧
    (s.takeWaitKeyTimer b).bfs = s.bfs ∧ (s.takeWaitKeyTimer b).mix = s.mix ∧ (s.takeWaitKeyTimer b).wku = s.wku := by
  unfold State.takeWaitKeyTimer
  try dsimp only
  repeat' split
  all_goals simp

@[simp] theorem State.keySwitchFeed_frame (b : Fin 4) (tag : Byte) (r : List Byte) (s : State) :
    (s.keySwitchFeed b tag r).pending = s.pending ∧ (s.keySwitchFeed b tag r).cfl = s.cfl ∧
    (s.keySwitchFeed b tag r).svl = s.svl ∧ (s.keySwitchFeed b tag r).tlu = s.tlu ∧
    (s.keySwitchFeed b tag r).smu = s.smu ∧ (s.keySwitchFeed b tag r).asp = s.asp ∧
    (s.keySwitchFeed b tag r).rsp = s.rsp ∧ (s.keySwitchFeed b tag r).cmu = s.cmu ∧
    (s.keySwitchFeed b tag r).anu = s.anu ∧ (s.keySwitchFeed b tag r).lcu = s.lcu ∧
    (s.keySwitchFeed b tag r).bcu = s.bcu ∧ (s.keySwitchFeed b tag r).bfs = s.bfs ∧
    (s.keySwitchFeed b tag r).mix = s.mix ∧ (s.keySwitchFeed b tag r).wku = s.wku := by
  unfold State.keySwitchFeed
  try dsimp only
  all_goals simp

@[simp] theorem State.choiceNotice_frame (b : Fin 4) (ch : Choice) (cause : SwitchCause) (s : State) :
    (s.choiceNotice b ch cause).pending = s.pending ∧ (s.choiceNotice b ch cause).cfl = s.cfl ∧
    (s.choiceNotice b ch cause).svl = s.svl ∧ (s.choiceNotice b ch cause).tlu = s.tlu ∧
    (s.choiceNotice b ch cause).smu = s.smu ∧ (s.choiceNotice b ch cause).asp = s.asp ∧
    (s.choiceNotice b ch cause).rsp = s.rsp ∧ (s.choiceNotice b ch cause).cmu = s.cmu ∧
    (s.choiceNotice b ch cause).anu = s.anu ∧ (s.choiceNotice b ch cause).lcu = s.lcu ∧
    (s.choiceNotice b ch cause).bcu = s.bcu ∧ (s.choiceNotice b ch cause).bfs = s.bfs ∧
    (s.choiceNotice b ch cause).mix = s.mix ∧ (s.choiceNotice b ch cause).wku = s.wku := by
  unfold State.choiceNotice
  try dsimp only
  repeat' split
  all_goals simp

@[simp] theorem State.setOverlay_frame (b : Fin 4) (o : Option Overlay) (s : State) :
    (s.setOverlay b o).pending = s.pending ∧ (s.setOverlay b o).counters = s.counters ∧
    (s.setOverlay b o).cfl = s.cfl ∧ (s.setOverlay b o).svl = s.svl ∧ (s.setOverlay b o).tlu = s.tlu ∧
    (s.setOverlay b o).smu = s.smu ∧ (s.setOverlay b o).asp = s.asp ∧ (s.setOverlay b o).rsp = s.rsp ∧
    (s.setOverlay b o).cmu = s.cmu ∧ (s.setOverlay b o).anu = s.anu ∧ (s.setOverlay b o).lcu = s.lcu ∧
    (s.setOverlay b o).bfs = s.bfs ∧ (s.setOverlay b o).mix = s.mix ∧ (s.setOverlay b o).wku = s.wku := by
  unfold State.setOverlay
  try dsimp only
  repeat' split
  all_goals simp

@[simp] theorem State.showOverlay_frame (b : Fin 4) (o : Overlay) (s : State) :
    (s.showOverlay b o).pending = s.pending ∧ (s.showOverlay b o).cfl = s.cfl ∧ (s.showOverlay b o).svl = s.svl ∧
    (s.showOverlay b o).tlu = s.tlu ∧ (s.showOverlay b o).smu = s.smu ∧ (s.showOverlay b o).asp = s.asp ∧
    (s.showOverlay b o).rsp = s.rsp ∧ (s.showOverlay b o).cmu = s.cmu ∧ (s.showOverlay b o).anu = s.anu ∧
    (s.showOverlay b o).lcu = s.lcu ∧ (s.showOverlay b o).bfs = s.bfs ∧ (s.showOverlay b o).mix = s.mix ∧
    (s.showOverlay b o).wku = s.wku := by
  unfold State.showOverlay
  try dsimp only
  all_goals simp

@[simp] theorem State.sfuFollowChange_frame (b : Fin 4) (new : Follow) (s : State) :
    (s.sfuFollowChange b new).pending = s.pending ∧ (s.sfuFollowChange b new).cfl = s.cfl ∧
    (s.sfuFollowChange b new).svl = s.svl ∧ (s.sfuFollowChange b new).tlu = s.tlu ∧
    (s.sfuFollowChange b new).smu = s.smu ∧ (s.sfuFollowChange b new).asp = s.asp ∧
    (s.sfuFollowChange b new).rsp = s.rsp ∧ (s.sfuFollowChange b new).cmu = s.cmu ∧
    (s.sfuFollowChange b new).anu = s.anu ∧ (s.sfuFollowChange b new).lcu = s.lcu ∧
    (s.sfuFollowChange b new).bfs = s.bfs ∧ (s.sfuFollowChange b new).mix = s.mix ∧
    (s.sfuFollowChange b new).wku = s.wku := by
  unfold State.sfuFollowChange
  try dsimp only
  repeat' split
  all_goals simp

@[simp] theorem State.showMessage_frame (duration : Nat) (text : List Byte) (b : Fin 4) (s : State) :
    (s.showMessage duration text b).pending = s.pending ∧ (s.showMessage duration text b).cfl = s.cfl ∧
    (s.showMessage duration text b).svl = s.svl ∧ (s.showMessage duration text b).tlu = s.tlu ∧
    (s.showMessage duration text b).smu = s.smu ∧ (s.showMessage duration text b).asp = s.asp ∧
    (s.showMessage duration text b).rsp = s.rsp ∧ (s.showMessage duration text b).cmu = s.cmu ∧
    (s.showMessage duration text b).anu = s.anu ∧ (s.showMessage duration text b).lcu = s.lcu ∧
    (s.showMessage duration text b).bfs = s.bfs ∧ (s.showMessage duration text b).mix = s.mix ∧
    (s.showMessage duration text b).wku = s.wku := by
  unfold State.showMessage
  try dsimp only
  repeat' split
  all_goals simp

@[simp] theorem State.takeCard_frame (s : State) :
    (s.takeCard).pending = s.pending ∧ (s.takeCard).cfl = s.cfl ∧ (s.takeCard).svl = s.svl ∧
    (s.takeCard).tlu = s.tlu ∧ (s.takeCard).smu = s.smu ∧ (s.takeCard).asp = s.asp ∧ (s.takeCard).rsp = s.rsp ∧
    (s.takeCard).anu = s.anu ∧ (s.takeCard).lcu = s.lcu ∧ (s.takeCard).bfs = s.bfs ∧ (s.takeCard).mix = s.mix ∧
    (s.takeCard).wku = s.wku := by
  unfold State.takeCard
  try dsimp only
  repeat' split
  all_goals simp

@[simp] theorem State.takeCardDuration_frame (b : Fin 4) (s : State) :
    (s.takeCardDuration b).pending = s.pending ∧ (s.takeCardDuration b).counters = s.counters ∧
    (s.takeCardDuration b).cfl = s.cfl ∧ (s.takeCardDuration b).svl = s.svl ∧ (s.takeCardDuration b).tlu = s.tlu ∧
    (s.takeCardDuration b).smu = s.smu ∧ (s.takeCardDuration b).asp = s.asp ∧ (s.takeCardDuration b).rsp = s.rsp ∧
    (s.takeCardDuration b).cmu = s.cmu ∧ (s.takeCardDuration b).anu = s.anu ∧ (s.takeCardDuration b).lcu = s.lcu ∧
    (s.takeCardDuration b).bfs = s.bfs ∧ (s.takeCardDuration b).mix = s.mix ∧ (s.takeCardDuration b).wku = s.wku := by
  unfold State.takeCardDuration
  try dsimp only
  repeat' split
  all_goals simp

@[simp] theorem State.dismiss_frame (b : Fin 4) (s : State) :
    (s.dismiss b).pending = s.pending ∧ (s.dismiss b).counters = s.counters ∧ (s.dismiss b).cfl = s.cfl ∧
    (s.dismiss b).svl = s.svl ∧ (s.dismiss b).tlu = s.tlu ∧ (s.dismiss b).smu = s.smu ∧ (s.dismiss b).asp = s.asp ∧
    (s.dismiss b).rsp = s.rsp ∧ (s.dismiss b).cmu = s.cmu ∧ (s.dismiss b).anu = s.anu ∧ (s.dismiss b).lcu = s.lcu ∧
    (s.dismiss b).bfs = s.bfs ∧ (s.dismiss b).mix = s.mix ∧ (s.dismiss b).wku = s.wku := by
  unfold State.dismiss
  try dsimp only
  repeat' split
  all_goals simp

@[simp] theorem State.takeLinger_frame (b : Fin 4) (s : State) :
    (s.takeLinger b).pending = s.pending ∧ (s.takeLinger b).cfl = s.cfl ∧ (s.takeLinger b).svl = s.svl ∧
    (s.takeLinger b).tlu = s.tlu ∧ (s.takeLinger b).smu = s.smu ∧ (s.takeLinger b).asp = s.asp ∧
    (s.takeLinger b).rsp = s.rsp ∧ (s.takeLinger b).cmu = s.cmu ∧ (s.takeLinger b).anu = s.anu ∧
    (s.takeLinger b).lcu = s.lcu ∧ (s.takeLinger b).bfs = s.bfs ∧ (s.takeLinger b).mix = s.mix ∧
    (s.takeLinger b).wku = s.wku := by
  unfold State.takeLinger
  try dsimp only
  repeat' split
  all_goals simp

@[simp] theorem State.sfuTick_frame (s : State) :
    (s.sfuTick).pending = s.pending ∧ (s.sfuTick).counters = s.counters ∧ (s.sfuTick).cfl = s.cfl ∧
    (s.sfuTick).svl = s.svl ∧ (s.sfuTick).tlu = s.tlu ∧ (s.sfuTick).smu = s.smu ∧ (s.sfuTick).asp = s.asp ∧
    (s.sfuTick).rsp = s.rsp ∧ (s.sfuTick).cmu = s.cmu ∧ (s.sfuTick).anu = s.anu ∧ (s.sfuTick).lcu = s.lcu ∧
    (s.sfuTick).bcu = s.bcu ∧ (s.sfuTick).bfs = s.bfs ∧ (s.sfuTick).mix = s.mix ∧ (s.sfuTick).wku = s.wku := by
  unfold State.sfuTick
  try dsimp only
  all_goals simp

@[simp] theorem State.sfuReset_frame (b : Fin 4) (s : State) :
    (s.sfuReset b).pending = s.pending ∧ (s.sfuReset b).counters = s.counters ∧ (s.sfuReset b).cfl = s.cfl ∧
    (s.sfuReset b).svl = s.svl ∧ (s.sfuReset b).tlu = s.tlu ∧ (s.sfuReset b).smu = s.smu ∧
    (s.sfuReset b).asp = s.asp ∧ (s.sfuReset b).rsp = s.rsp ∧ (s.sfuReset b).cmu = s.cmu ∧
    (s.sfuReset b).anu = s.anu ∧ (s.sfuReset b).lcu = s.lcu ∧ (s.sfuReset b).bcu = s.bcu ∧
    (s.sfuReset b).bfs = s.bfs ∧ (s.sfuReset b).mix = s.mix ∧ (s.sfuReset b).wku = s.wku := by
  unfold State.sfuReset
  try dsimp only
  all_goals simp

/-! ### Machine/Wku.lean -/

@[simp] theorem State.setWakeReport_frame (b : Fin 4) (x : Wake) (s : State) :
    (s.setWakeReport b x).pending = s.pending ∧ (s.setWakeReport b x).counters = s.counters ∧
    (s.setWakeReport b x).cfl = s.cfl ∧ (s.setWakeReport b x).svl = s.svl ∧ (s.setWakeReport b x).tlu = s.tlu ∧
    (s.setWakeReport b x).smu = s.smu ∧ (s.setWakeReport b x).asp = s.asp ∧ (s.setWakeReport b x).rsp = s.rsp ∧
    (s.setWakeReport b x).cmu = s.cmu ∧ (s.setWakeReport b x).anu = s.anu ∧ (s.setWakeReport b x).lcu = s.lcu ∧
    (s.setWakeReport b x).bfs = s.bfs ∧ (s.setWakeReport b x).mix = s.mix ∧ (s.setWakeReport b x).sfu = s.sfu := by
  unfold State.setWakeReport
  try dsimp only
  repeat' split
  all_goals simp

@[simp] theorem State.setStop_frame (b : Fin 4) (st : Nat) (s : State) :
    (s.setStop b st).pending = s.pending ∧ (s.setStop b st).counters = s.counters ∧ (s.setStop b st).cfl = s.cfl ∧
    (s.setStop b st).svl = s.svl ∧ (s.setStop b st).tlu = s.tlu ∧ (s.setStop b st).smu = s.smu ∧
    (s.setStop b st).asp = s.asp ∧ (s.setStop b st).rsp = s.rsp ∧ (s.setStop b st).cmu = s.cmu ∧
    (s.setStop b st).anu = s.anu ∧ (s.setStop b st).lcu = s.lcu ∧ (s.setStop b st).bfs = s.bfs ∧
    (s.setStop b st).mix = s.mix ∧ (s.setStop b st).wku = s.wku ∧ (s.setStop b st).sfu = s.sfu := by
  unfold State.setStop
  try dsimp only
  all_goals simp

@[simp] theorem State.queueWakeClear_frame (b : Fin 4) (s : State) :
    (s.queueWakeClear b).pending = s.pending ∧ (s.queueWakeClear b).counters = s.counters ∧
    (s.queueWakeClear b).cfl = s.cfl ∧ (s.queueWakeClear b).svl = s.svl ∧ (s.queueWakeClear b).tlu = s.tlu ∧
    (s.queueWakeClear b).smu = s.smu ∧ (s.queueWakeClear b).asp = s.asp ∧ (s.queueWakeClear b).rsp = s.rsp ∧
    (s.queueWakeClear b).anu = s.anu ∧ (s.queueWakeClear b).lcu = s.lcu ∧ (s.queueWakeClear b).bcu = s.bcu ∧
    (s.queueWakeClear b).bfs = s.bfs ∧ (s.queueWakeClear b).mix = s.mix ∧ (s.queueWakeClear b).wku = s.wku ∧
    (s.queueWakeClear b).sfu = s.sfu := by
  unfold State.queueWakeClear
  try dsimp only
  all_goals simp

@[simp] theorem State.queueWakeMissed_frame (b : Fin 4) (s : State) :
    (s.queueWakeMissed b).pending = s.pending ∧ (s.queueWakeMissed b).counters = s.counters ∧
    (s.queueWakeMissed b).cfl = s.cfl ∧ (s.queueWakeMissed b).svl = s.svl ∧ (s.queueWakeMissed b).tlu = s.tlu ∧
    (s.queueWakeMissed b).smu = s.smu ∧ (s.queueWakeMissed b).asp = s.asp ∧ (s.queueWakeMissed b).rsp = s.rsp ∧
    (s.queueWakeMissed b).anu = s.anu ∧ (s.queueWakeMissed b).lcu = s.lcu ∧ (s.queueWakeMissed b).bcu = s.bcu ∧
    (s.queueWakeMissed b).bfs = s.bfs ∧ (s.queueWakeMissed b).mix = s.mix ∧ (s.queueWakeMissed b).wku = s.wku ∧
    (s.queueWakeMissed b).sfu = s.sfu := by
  unfold State.queueWakeMissed
  try dsimp only
  all_goals simp

@[simp] theorem State.endSession_frame (b : Fin 4) (s : State) :
    (s.endSession b).pending = s.pending ∧ (s.endSession b).counters = s.counters ∧ (s.endSession b).cfl = s.cfl ∧
    (s.endSession b).svl = s.svl ∧ (s.endSession b).tlu = s.tlu ∧ (s.endSession b).smu = s.smu ∧
    (s.endSession b).asp = s.asp ∧ (s.endSession b).rsp = s.rsp ∧ (s.endSession b).cmu = s.cmu ∧
    (s.endSession b).anu = s.anu ∧ (s.endSession b).lcu = s.lcu ∧ (s.endSession b).bfs = s.bfs ∧
    (s.endSession b).mix = s.mix ∧ (s.endSession b).sfu = s.sfu := by
  unfold State.endSession
  try dsimp only
  all_goals simp

@[simp] theorem State.wkuTick_frame (s : State) :
    (s.wkuTick).pending = s.pending ∧ (s.wkuTick).counters = s.counters ∧ (s.wkuTick).cfl = s.cfl ∧
    (s.wkuTick).svl = s.svl ∧ (s.wkuTick).tlu = s.tlu ∧ (s.wkuTick).smu = s.smu ∧ (s.wkuTick).asp = s.asp ∧
    (s.wkuTick).rsp = s.rsp ∧ (s.wkuTick).cmu = s.cmu ∧ (s.wkuTick).anu = s.anu ∧ (s.wkuTick).lcu = s.lcu ∧
    (s.wkuTick).bcu = s.bcu ∧ (s.wkuTick).bfs = s.bfs ∧ (s.wkuTick).mix = s.mix ∧ (s.wkuTick).sfu = s.sfu := by
  unfold State.wkuTick
  try dsimp only
  all_goals simp

@[simp] theorem State.takeHoldTimer_frame (b : Fin 4) (s : State) :
    (s.takeHoldTimer b).pending = s.pending ∧ (s.takeHoldTimer b).counters = s.counters ∧
    (s.takeHoldTimer b).cfl = s.cfl ∧ (s.takeHoldTimer b).svl = s.svl ∧ (s.takeHoldTimer b).tlu = s.tlu ∧
    (s.takeHoldTimer b).smu = s.smu ∧ (s.takeHoldTimer b).asp = s.asp ∧ (s.takeHoldTimer b).rsp = s.rsp ∧
    (s.takeHoldTimer b).anu = s.anu ∧ (s.takeHoldTimer b).lcu = s.lcu ∧ (s.takeHoldTimer b).bfs = s.bfs ∧
    (s.takeHoldTimer b).mix = s.mix ∧ (s.takeHoldTimer b).sfu = s.sfu := by
  unfold State.takeHoldTimer
  try dsimp only
  repeat' split
  all_goals simp

@[simp] theorem State.wkuFollowChange_frame (b : Fin 4) (new : Follow) (s : State) :
    (s.wkuFollowChange b new).pending = s.pending ∧ (s.wkuFollowChange b new).counters = s.counters ∧
    (s.wkuFollowChange b new).cfl = s.cfl ∧ (s.wkuFollowChange b new).svl = s.svl ∧
    (s.wkuFollowChange b new).tlu = s.tlu ∧ (s.wkuFollowChange b new).smu = s.smu ∧
    (s.wkuFollowChange b new).asp = s.asp ∧ (s.wkuFollowChange b new).rsp = s.rsp ∧
    (s.wkuFollowChange b new).anu = s.anu ∧ (s.wkuFollowChange b new).lcu = s.lcu ∧
    (s.wkuFollowChange b new).bfs = s.bfs ∧ (s.wkuFollowChange b new).sfu = s.sfu := by
  unfold State.wkuFollowChange
  try dsimp only
  repeat' split
  all_goals simp

@[simp] theorem State.acknowledge_frame (b : Fin 4) (s : State) :
    (s.acknowledge b).pending = s.pending ∧ (s.acknowledge b).counters = s.counters ∧ (s.acknowledge b).cfl = s.cfl ∧
    (s.acknowledge b).svl = s.svl ∧ (s.acknowledge b).tlu = s.tlu ∧ (s.acknowledge b).smu = s.smu ∧
    (s.acknowledge b).asp = s.asp ∧ (s.acknowledge b).rsp = s.rsp ∧ (s.acknowledge b).anu = s.anu ∧
    (s.acknowledge b).lcu = s.lcu ∧ (s.acknowledge b).bfs = s.bfs ∧ (s.acknowledge b).sfu = s.sfu := by
  unfold State.acknowledge
  try dsimp only
  repeat' split
  all_goals simp

@[simp] theorem State.wkuBerthSet_frame (b : Fin 4) (stop : Nat) (s : State) :
    (s.wkuBerthSet b stop).pending = s.pending ∧ (s.wkuBerthSet b stop).counters = s.counters ∧
    (s.wkuBerthSet b stop).cfl = s.cfl ∧ (s.wkuBerthSet b stop).svl = s.svl ∧ (s.wkuBerthSet b stop).tlu = s.tlu ∧
    (s.wkuBerthSet b stop).smu = s.smu ∧ (s.wkuBerthSet b stop).asp = s.asp ∧ (s.wkuBerthSet b stop).rsp = s.rsp ∧
    (s.wkuBerthSet b stop).anu = s.anu ∧ (s.wkuBerthSet b stop).lcu = s.lcu ∧ (s.wkuBerthSet b stop).bfs = s.bfs ∧
    (s.wkuBerthSet b stop).sfu = s.sfu := by
  unfold State.wkuBerthSet
  try dsimp only
  repeat' split
  all_goals simp

@[simp] theorem State.takeBerthSet_frame (s : State) :
    (s.takeBerthSet).pending = s.pending ∧ (s.takeBerthSet).counters = s.counters ∧ (s.takeBerthSet).cfl = s.cfl ∧
    (s.takeBerthSet).svl = s.svl ∧ (s.takeBerthSet).tlu = s.tlu ∧ (s.takeBerthSet).smu = s.smu ∧
    (s.takeBerthSet).asp = s.asp ∧ (s.takeBerthSet).rsp = s.rsp ∧ (s.takeBerthSet).anu = s.anu ∧
    (s.takeBerthSet).lcu = s.lcu ∧ (s.takeBerthSet).bfs = s.bfs ∧ (s.takeBerthSet).sfu = s.sfu := by
  unfold State.takeBerthSet
  try dsimp only
  repeat' split
  all_goals simp

@[simp] theorem State.takeWakeClear_frame (s : State) :
    (s.takeWakeClear).pending = s.pending ∧ (s.takeWakeClear).counters = s.counters ∧ (s.takeWakeClear).cfl = s.cfl ∧
    (s.takeWakeClear).svl = s.svl ∧ (s.takeWakeClear).tlu = s.tlu ∧ (s.takeWakeClear).smu = s.smu ∧
    (s.takeWakeClear).asp = s.asp ∧ (s.takeWakeClear).rsp = s.rsp ∧ (s.takeWakeClear).anu = s.anu ∧
    (s.takeWakeClear).lcu = s.lcu ∧ (s.takeWakeClear).bfs = s.bfs ∧ (s.takeWakeClear).mix = s.mix ∧
    (s.takeWakeClear).sfu = s.sfu := by
  unfold State.takeWakeClear
  try dsimp only
  repeat' split
  all_goals simp

@[simp] theorem State.wkuReset_frame (b : Fin 4) (s : State) :
    (s.wkuReset b).pending = s.pending ∧ (s.wkuReset b).counters = s.counters ∧ (s.wkuReset b).cfl = s.cfl ∧
    (s.wkuReset b).svl = s.svl ∧ (s.wkuReset b).tlu = s.tlu ∧ (s.wkuReset b).smu = s.smu ∧
    (s.wkuReset b).asp = s.asp ∧ (s.wkuReset b).rsp = s.rsp ∧ (s.wkuReset b).cmu = s.cmu ∧
    (s.wkuReset b).anu = s.anu ∧ (s.wkuReset b).lcu = s.lcu ∧ (s.wkuReset b).bcu = s.bcu ∧
    (s.wkuReset b).bfs = s.bfs ∧ (s.wkuReset b).mix = s.mix ∧ (s.wkuReset b).sfu = s.sfu := by
  unfold State.wkuReset
  try dsimp only
  all_goals simp

/-! ### Machine/Anu.lean -/

@[simp] theorem State.publish_frame (b : Fin 4) (new : Follow) (s : State) :
    (s.publish b new).pending = s.pending ∧ (s.publish b new).cfl = s.cfl ∧ (s.publish b new).svl = s.svl ∧
    (s.publish b new).tlu = s.tlu ∧ (s.publish b new).smu = s.smu ∧ (s.publish b new).asp = s.asp ∧
    (s.publish b new).rsp = s.rsp ∧ (s.publish b new).lcu = s.lcu ∧ (s.publish b new).bfs = s.bfs := by
  unfold State.publish
  try dsimp only
  all_goals simp

@[simp] theorem State.endFollows_frame (i : Fin 16) (s : State) :
    (s.endFollows i).pending = s.pending ∧ (s.endFollows i).cfl = s.cfl ∧ (s.endFollows i).svl = s.svl ∧
    (s.endFollows i).tlu = s.tlu ∧ (s.endFollows i).smu = s.smu ∧ (s.endFollows i).asp = s.asp ∧
    (s.endFollows i).rsp = s.rsp ∧ (s.endFollows i).lcu = s.lcu ∧ (s.endFollows i).bfs = s.bfs := by
  unfold State.endFollows
  refine ⟨foldl_pending _ ?_ _ _, foldl_cfl _ ?_ _ _, foldl_svl _ ?_ _ _, foldl_tlu _ ?_ _ _, foldl_smu _ ?_ _ _,
    foldl_asp _ ?_ _ _, foldl_rsp _ ?_ _ _, foldl_lcu _ ?_ _ _, foldl_bfs _ ?_ _ _⟩ <;>
    (intro s i; split <;> simp)

@[simp] theorem State.freeNow_frame (i : Fin 16) (s : State) :
    (s.freeNow i).pending = s.pending ∧ (s.freeNow i).cfl = s.cfl ∧ (s.freeNow i).svl = s.svl ∧
    (s.freeNow i).tlu = s.tlu ∧ (s.freeNow i).smu = s.smu ∧ (s.freeNow i).asp = s.asp ∧ (s.freeNow i).rsp = s.rsp ∧
    (s.freeNow i).lcu = s.lcu ∧ (s.freeNow i).bfs = s.bfs := by
  unfold State.freeNow
  try dsimp only
  all_goals simp

@[simp] theorem State.applyPresent_frame (tag seq : Byte) (cls : AnnClass) (t : Target) (text : List Byte) (s : State) :
    (s.applyPresent tag seq cls t text).pending = s.pending ∧ (s.applyPresent tag seq cls t text).cfl = s.cfl ∧
    (s.applyPresent tag seq cls t text).svl = s.svl ∧ (s.applyPresent tag seq cls t text).tlu = s.tlu ∧
    (s.applyPresent tag seq cls t text).smu = s.smu ∧ (s.applyPresent tag seq cls t text).asp = s.asp ∧
    (s.applyPresent tag seq cls t text).rsp = s.rsp ∧ (s.applyPresent tag seq cls t text).cmu = s.cmu ∧
    (s.applyPresent tag seq cls t text).lcu = s.lcu ∧ (s.applyPresent tag seq cls t text).bcu = s.bcu ∧
    (s.applyPresent tag seq cls t text).bfs = s.bfs ∧ (s.applyPresent tag seq cls t text).mix = s.mix ∧
    (s.applyPresent tag seq cls t text).wku = s.wku ∧ (s.applyPresent tag seq cls t text).sfu = s.sfu := by
  unfold State.applyPresent
  try dsimp only
  repeat' split
  all_goals simp

@[simp] theorem State.takePresent_frame (s : State) :
    (s.takePresent).pending = s.pending ∧ (s.takePresent).cfl = s.cfl ∧ (s.takePresent).svl = s.svl ∧
    (s.takePresent).tlu = s.tlu ∧ (s.takePresent).smu = s.smu ∧ (s.takePresent).asp = s.asp ∧
    (s.takePresent).rsp = s.rsp ∧ (s.takePresent).lcu = s.lcu ∧ (s.takePresent).bcu = s.bcu ∧
    (s.takePresent).bfs = s.bfs ∧ (s.takePresent).mix = s.mix ∧ (s.takePresent).wku = s.wku ∧
    (s.takePresent).sfu = s.sfu := by
  unfold State.takePresent
  try dsimp only
  repeat' split
  all_goals simp

@[simp] theorem State.applyWithdraw_frame (tag seq : Byte) (s : State) :
    (s.applyWithdraw tag seq).pending = s.pending ∧ (s.applyWithdraw tag seq).cfl = s.cfl ∧
    (s.applyWithdraw tag seq).svl = s.svl ∧ (s.applyWithdraw tag seq).tlu = s.tlu ∧
    (s.applyWithdraw tag seq).smu = s.smu ∧ (s.applyWithdraw tag seq).asp = s.asp ∧
    (s.applyWithdraw tag seq).rsp = s.rsp ∧ (s.applyWithdraw tag seq).lcu = s.lcu ∧
    (s.applyWithdraw tag seq).bfs = s.bfs := by
  unfold State.applyWithdraw
  try dsimp only
  repeat' split
  all_goals simp

@[simp] theorem State.takeWithdraw_frame (s : State) :
    (s.takeWithdraw).pending = s.pending ∧ (s.takeWithdraw).cfl = s.cfl ∧ (s.takeWithdraw).svl = s.svl ∧
    (s.takeWithdraw).tlu = s.tlu ∧ (s.takeWithdraw).smu = s.smu ∧ (s.takeWithdraw).asp = s.asp ∧
    (s.takeWithdraw).rsp = s.rsp ∧ (s.takeWithdraw).lcu = s.lcu ∧ (s.takeWithdraw).bfs = s.bfs := by
  unfold State.takeWithdraw
  try dsimp only
  repeat' split
  all_goals simp

@[simp] theorem State.applyZoneMode_frame (mask : BitVec 16) (mode : ZoneMode) (s : State) :
    (s.applyZoneMode mask mode).pending = s.pending ∧ (s.applyZoneMode mask mode).counters = s.counters ∧
    (s.applyZoneMode mask mode).cfl = s.cfl ∧ (s.applyZoneMode mask mode).svl = s.svl ∧
    (s.applyZoneMode mask mode).tlu = s.tlu ∧ (s.applyZoneMode mask mode).smu = s.smu ∧
    (s.applyZoneMode mask mode).asp = s.asp ∧ (s.applyZoneMode mask mode).rsp = s.rsp ∧
    (s.applyZoneMode mask mode).cmu = s.cmu ∧ (s.applyZoneMode mask mode).lcu = s.lcu ∧
    (s.applyZoneMode mask mode).bcu = s.bcu ∧ (s.applyZoneMode mask mode).bfs = s.bfs ∧
    (s.applyZoneMode mask mode).mix = s.mix ∧ (s.applyZoneMode mask mode).wku = s.wku ∧
    (s.applyZoneMode mask mode).sfu = s.sfu := by
  unfold State.applyZoneMode
  try dsimp only
  all_goals simp

@[simp] theorem State.takeZoneMode_frame (s : State) :
    (s.takeZoneMode).pending = s.pending ∧ (s.takeZoneMode).counters = s.counters ∧ (s.takeZoneMode).cfl = s.cfl ∧
    (s.takeZoneMode).svl = s.svl ∧ (s.takeZoneMode).tlu = s.tlu ∧ (s.takeZoneMode).smu = s.smu ∧
    (s.takeZoneMode).asp = s.asp ∧ (s.takeZoneMode).rsp = s.rsp ∧ (s.takeZoneMode).lcu = s.lcu ∧
    (s.takeZoneMode).bcu = s.bcu ∧ (s.takeZoneMode).bfs = s.bfs ∧ (s.takeZoneMode).mix = s.mix ∧
    (s.takeZoneMode).wku = s.wku ∧ (s.takeZoneMode).sfu = s.sfu := by
  unfold State.takeZoneMode
  try dsimp only
  repeat' split
  all_goals simp

@[simp] theorem State.followBerth_frame (b : Fin 4) (s : State) :
    (s.followBerth b).pending = s.pending ∧ (s.followBerth b).cfl = s.cfl ∧ (s.followBerth b).svl = s.svl ∧
    (s.followBerth b).tlu = s.tlu ∧ (s.followBerth b).smu = s.smu ∧ (s.followBerth b).asp = s.asp ∧
    (s.followBerth b).rsp = s.rsp ∧ (s.followBerth b).lcu = s.lcu ∧ (s.followBerth b).bfs = s.bfs := by
  unfold State.followBerth
  try dsimp only
  repeat' split
  all_goals simp

@[simp] theorem State.updateEntry_frame (heard : List Byte) (i : Fin 16) (s : State) :
    (s.updateEntry heard i).pending = s.pending ∧ (s.updateEntry heard i).cfl = s.cfl ∧
    (s.updateEntry heard i).svl = s.svl ∧ (s.updateEntry heard i).tlu = s.tlu ∧ (s.updateEntry heard i).smu = s.smu ∧
    (s.updateEntry heard i).asp = s.asp ∧ (s.updateEntry heard i).rsp = s.rsp ∧ (s.updateEntry heard i).cmu = s.cmu ∧
    (s.updateEntry heard i).lcu = s.lcu ∧ (s.updateEntry heard i).bcu = s.bcu ∧ (s.updateEntry heard i).bfs = s.bfs ∧
    (s.updateEntry heard i).mix = s.mix ∧ (s.updateEntry heard i).wku = s.wku ∧ (s.updateEntry heard i).sfu = s.sfu := by
  unfold State.updateEntry
  try dsimp only
  repeat' split
  all_goals simp

@[simp] theorem State.allocateHeard_frame (t : Byte) (s : State) :
    (s.allocateHeard t).pending = s.pending ∧ (s.allocateHeard t).cfl = s.cfl ∧ (s.allocateHeard t).svl = s.svl ∧
    (s.allocateHeard t).tlu = s.tlu ∧ (s.allocateHeard t).smu = s.smu ∧ (s.allocateHeard t).asp = s.asp ∧
    (s.allocateHeard t).rsp = s.rsp ∧ (s.allocateHeard t).cmu = s.cmu ∧ (s.allocateHeard t).lcu = s.lcu ∧
    (s.allocateHeard t).bcu = s.bcu ∧ (s.allocateHeard t).bfs = s.bfs ∧ (s.allocateHeard t).mix = s.mix ∧
    (s.allocateHeard t).wku = s.wku ∧ (s.allocateHeard t).sfu = s.sfu := by
  unfold State.allocateHeard
  try dsimp only
  repeat' split
  all_goals simp

@[simp] theorem State.evaluateTable_frame (s : State) :
    (s.evaluateTable).pending = s.pending ∧ (s.evaluateTable).cfl = s.cfl ∧ (s.evaluateTable).svl = s.svl ∧
    (s.evaluateTable).tlu = s.tlu ∧ (s.evaluateTable).smu = s.smu ∧ (s.evaluateTable).asp = s.asp ∧
    (s.evaluateTable).rsp = s.rsp ∧ (s.evaluateTable).cmu = s.cmu ∧ (s.evaluateTable).lcu = s.lcu ∧
    (s.evaluateTable).bcu = s.bcu ∧ (s.evaluateTable).bfs = s.bfs ∧ (s.evaluateTable).mix = s.mix ∧
    (s.evaluateTable).wku = s.wku ∧ (s.evaluateTable).sfu = s.sfu := by
  unfold State.evaluateTable
  try dsimp only
  all_goals simp

@[simp] theorem State.clearMarks_frame (s : State) :
    (s.clearMarks).pending = s.pending ∧ (s.clearMarks).counters = s.counters ∧ (s.clearMarks).cfl = s.cfl ∧
    (s.clearMarks).svl = s.svl ∧ (s.clearMarks).tlu = s.tlu ∧ (s.clearMarks).smu = s.smu ∧
    (s.clearMarks).asp = s.asp ∧ (s.clearMarks).rsp = s.rsp ∧ (s.clearMarks).cmu = s.cmu ∧
    (s.clearMarks).lcu = s.lcu ∧ (s.clearMarks).bcu = s.bcu ∧ (s.clearMarks).bfs = s.bfs ∧
    (s.clearMarks).mix = s.mix ∧ (s.clearMarks).wku = s.wku ∧ (s.clearMarks).sfu = s.sfu := by
  unfold State.clearMarks
  try dsimp only
  all_goals simp

@[simp] theorem State.evaluate_frame (s : State) :
    (s.evaluate).pending = s.pending ∧ (s.evaluate).cfl = s.cfl ∧ (s.evaluate).svl = s.svl ∧
    (s.evaluate).tlu = s.tlu ∧ (s.evaluate).smu = s.smu ∧ (s.evaluate).asp = s.asp ∧ (s.evaluate).rsp = s.rsp ∧
    (s.evaluate).lcu = s.lcu ∧ (s.evaluate).bfs = s.bfs := by
  unfold State.evaluate
  try dsimp only
  all_goals simp

@[simp] theorem State.takeFading_frame (i : Fin 16) (s : State) :
    (s.takeFading i).pending = s.pending ∧ (s.takeFading i).cfl = s.cfl ∧ (s.takeFading i).svl = s.svl ∧
    (s.takeFading i).tlu = s.tlu ∧ (s.takeFading i).smu = s.smu ∧ (s.takeFading i).asp = s.asp ∧
    (s.takeFading i).rsp = s.rsp ∧ (s.takeFading i).lcu = s.lcu ∧ (s.takeFading i).bfs = s.bfs := by
  unfold State.takeFading
  try dsimp only
  repeat' split
  all_goals simp

@[simp] theorem State.takeDescriptionAge_frame (i : Fin 16) (s : State) :
    (s.takeDescriptionAge i).pending = s.pending ∧ (s.takeDescriptionAge i).cfl = s.cfl ∧
    (s.takeDescriptionAge i).svl = s.svl ∧ (s.takeDescriptionAge i).tlu = s.tlu ∧
    (s.takeDescriptionAge i).smu = s.smu ∧ (s.takeDescriptionAge i).asp = s.asp ∧
    (s.takeDescriptionAge i).rsp = s.rsp ∧ (s.takeDescriptionAge i).lcu = s.lcu ∧
    (s.takeDescriptionAge i).bfs = s.bfs := by
  unfold State.takeDescriptionAge
  try dsimp only
  repeat' split
  all_goals simp

@[simp] theorem State.takeEntry0Fade_frame (s : State) :
    (s.takeEntry0Fade).pending = s.pending ∧ (s.takeEntry0Fade).counters = s.counters ∧
    (s.takeEntry0Fade).cfl = s.cfl ∧ (s.takeEntry0Fade).svl = s.svl ∧ (s.takeEntry0Fade).tlu = s.tlu ∧
    (s.takeEntry0Fade).smu = s.smu ∧ (s.takeEntry0Fade).asp = s.asp ∧ (s.takeEntry0Fade).rsp = s.rsp ∧
    (s.takeEntry0Fade).cmu = s.cmu ∧ (s.takeEntry0Fade).lcu = s.lcu ∧ (s.takeEntry0Fade).bcu = s.bcu ∧
    (s.takeEntry0Fade).bfs = s.bfs ∧ (s.takeEntry0Fade).mix = s.mix ∧ (s.takeEntry0Fade).wku = s.wku ∧
    (s.takeEntry0Fade).sfu = s.sfu := by
  unfold State.takeEntry0Fade
  try dsimp only
  repeat' split
  all_goals simp

@[simp] theorem State.sampleAlrt_frame (peer : Bool) (s : State) :
    (s.sampleAlrt peer).pending = s.pending ∧ (s.sampleAlrt peer).counters = s.counters ∧
    (s.sampleAlrt peer).cfl = s.cfl ∧ (s.sampleAlrt peer).svl = s.svl ∧ (s.sampleAlrt peer).tlu = s.tlu ∧
    (s.sampleAlrt peer).smu = s.smu ∧ (s.sampleAlrt peer).asp = s.asp ∧ (s.sampleAlrt peer).rsp = s.rsp ∧
    (s.sampleAlrt peer).cmu = s.cmu ∧ (s.sampleAlrt peer).lcu = s.lcu ∧ (s.sampleAlrt peer).bcu = s.bcu ∧
    (s.sampleAlrt peer).bfs = s.bfs ∧ (s.sampleAlrt peer).mix = s.mix ∧ (s.sampleAlrt peer).wku = s.wku ∧
    (s.sampleAlrt peer).sfu = s.sfu := by
  unfold State.sampleAlrt
  try dsimp only
  all_goals simp

@[simp] theorem State.takeAlert_frame (s : State) :
    (s.takeAlert).pending = s.pending ∧ (s.takeAlert).counters = s.counters ∧ (s.takeAlert).cfl = s.cfl ∧
    (s.takeAlert).svl = s.svl ∧ (s.takeAlert).tlu = s.tlu ∧ (s.takeAlert).smu = s.smu ∧ (s.takeAlert).asp = s.asp ∧
    (s.takeAlert).rsp = s.rsp ∧ (s.takeAlert).cmu = s.cmu ∧ (s.takeAlert).lcu = s.lcu ∧ (s.takeAlert).bcu = s.bcu ∧
    (s.takeAlert).bfs = s.bfs ∧ (s.takeAlert).mix = s.mix ∧ (s.takeAlert).wku = s.wku ∧ (s.takeAlert).sfu = s.sfu := by
  unfold State.takeAlert
  try dsimp only
  repeat' split
  all_goals simp

@[simp] theorem State.anuTeardown_frame (s : State) :
    (s.anuTeardown).pending = s.pending ∧ (s.anuTeardown).cfl = s.cfl ∧ (s.anuTeardown).svl = s.svl ∧
    (s.anuTeardown).tlu = s.tlu ∧ (s.anuTeardown).smu = s.smu ∧ (s.anuTeardown).asp = s.asp ∧
    (s.anuTeardown).rsp = s.rsp ∧ (s.anuTeardown).lcu = s.lcu ∧ (s.anuTeardown).bfs = s.bfs := by
  unfold State.anuTeardown
  refine ⟨foldl_pending _ ?_ _ _, foldl_cfl _ ?_ _ _, foldl_svl _ ?_ _ _, foldl_tlu _ ?_ _ _, foldl_smu _ ?_ _ _,
    foldl_asp _ ?_ _ _, foldl_rsp _ ?_ _ _, foldl_lcu _ ?_ _ _, foldl_bfs _ ?_ _ _⟩ <;>
    (intro s i; split <;> simp)

@[simp] theorem State.anuReset_frame (b : Fin 4) (s : State) :
    (s.anuReset b).pending = s.pending ∧ (s.anuReset b).counters = s.counters ∧ (s.anuReset b).cfl = s.cfl ∧
    (s.anuReset b).svl = s.svl ∧ (s.anuReset b).tlu = s.tlu ∧ (s.anuReset b).smu = s.smu ∧
    (s.anuReset b).asp = s.asp ∧ (s.anuReset b).rsp = s.rsp ∧ (s.anuReset b).cmu = s.cmu ∧
    (s.anuReset b).lcu = s.lcu ∧ (s.anuReset b).bcu = s.bcu ∧ (s.anuReset b).bfs = s.bfs ∧
    (s.anuReset b).mix = s.mix ∧ (s.anuReset b).wku = s.wku ∧ (s.anuReset b).sfu = s.sfu := by
  unfold State.anuReset
  try dsimp only
  all_goals simp

/-! ### Machine/Lcu.lean -/

@[simp] theorem State.grantPoint_frame (s : State) :
    (s.grantPoint).pending = s.pending ∧ (s.grantPoint).cfl = s.cfl ∧ (s.grantPoint).svl = s.svl ∧
    (s.grantPoint).tlu = s.tlu ∧ (s.grantPoint).smu = s.smu ∧ (s.grantPoint).asp = s.asp ∧
    (s.grantPoint).rsp = s.rsp ∧ (s.grantPoint).cmu = s.cmu ∧ (s.grantPoint).anu = s.anu ∧
    (s.grantPoint).bcu = s.bcu ∧ (s.grantPoint).bfs = s.bfs ∧ (s.grantPoint).mix = s.mix ∧
    (s.grantPoint).wku = s.wku ∧ (s.grantPoint).sfu = s.sfu := by
  unfold State.grantPoint
  try dsimp only
  all_goals simp

@[simp] theorem State.dropStream_frame (g : Grant) (s : State) :
    (s.dropStream g).pending = s.pending ∧ (s.dropStream g).counters = s.counters ∧ (s.dropStream g).cfl = s.cfl ∧
    (s.dropStream g).svl = s.svl ∧ (s.dropStream g).tlu = s.tlu ∧ (s.dropStream g).smu = s.smu ∧
    (s.dropStream g).asp = s.asp ∧ (s.dropStream g).rsp = s.rsp ∧ (s.dropStream g).cmu = s.cmu ∧
    (s.dropStream g).anu = s.anu ∧ (s.dropStream g).bcu = s.bcu ∧ (s.dropStream g).bfs = s.bfs ∧
    (s.dropStream g).mix = s.mix ∧ (s.dropStream g).wku = s.wku := by
  unfold State.dropStream
  try dsimp only
  repeat' split
  all_goals simp

@[simp] theorem State.assignStream_frame (g : Grant) (s : State) :
    (s.assignStream g).pending = s.pending ∧ (s.assignStream g).counters = s.counters ∧
    (s.assignStream g).cfl = s.cfl ∧ (s.assignStream g).svl = s.svl ∧ (s.assignStream g).tlu = s.tlu ∧
    (s.assignStream g).smu = s.smu ∧ (s.assignStream g).asp = s.asp ∧ (s.assignStream g).rsp = s.rsp ∧
    (s.assignStream g).cmu = s.cmu ∧ (s.assignStream g).anu = s.anu ∧ (s.assignStream g).bcu = s.bcu ∧
    (s.assignStream g).bfs = s.bfs ∧ (s.assignStream g).mix = s.mix ∧ (s.assignStream g).wku = s.wku ∧
    (s.assignStream g).sfu = s.sfu := by
  unfold State.assignStream
  try dsimp only
  all_goals simp

@[simp] theorem State.applyGrants_frame (s : State) :
    s.applyGrants.1.pending = s.pending ∧ s.applyGrants.1.counters = s.counters ∧ s.applyGrants.1.cfl = s.cfl ∧
    s.applyGrants.1.svl = s.svl ∧ s.applyGrants.1.tlu = s.tlu ∧ s.applyGrants.1.smu = s.smu ∧
    s.applyGrants.1.asp = s.asp ∧ s.applyGrants.1.rsp = s.rsp ∧ s.applyGrants.1.cmu = s.cmu ∧
    s.applyGrants.1.anu = s.anu ∧ s.applyGrants.1.bcu = s.bcu ∧ s.applyGrants.1.bfs = s.bfs ∧
    s.applyGrants.1.mix = s.mix ∧ s.applyGrants.1.wku = s.wku := by
  unfold State.applyGrants
  try dsimp only
  repeat' split
  all_goals simp

@[simp] theorem State.resolveStream_frame (fresh : List Byte) (s : State) (g : Grant) :
    (s.resolveStream fresh g).pending = s.pending ∧ (s.resolveStream fresh g).counters = s.counters ∧
    (s.resolveStream fresh g).cfl = s.cfl ∧ (s.resolveStream fresh g).svl = s.svl ∧
    (s.resolveStream fresh g).tlu = s.tlu ∧ (s.resolveStream fresh g).smu = s.smu ∧
    (s.resolveStream fresh g).asp = s.asp ∧ (s.resolveStream fresh g).rsp = s.rsp ∧
    (s.resolveStream fresh g).cmu = s.cmu ∧ (s.resolveStream fresh g).anu = s.anu ∧
    (s.resolveStream fresh g).bcu = s.bcu ∧ (s.resolveStream fresh g).bfs = s.bfs ∧
    (s.resolveStream fresh g).mix = s.mix ∧ (s.resolveStream fresh g).wku = s.wku := by
  unfold State.resolveStream
  try dsimp only
  repeat' split
  all_goals simp

@[simp] theorem State.lcuMapUpdate_frame (s : State) :
    (s.lcuMapUpdate).pending = s.pending ∧ (s.lcuMapUpdate).counters = s.counters ∧ (s.lcuMapUpdate).cfl = s.cfl ∧
    (s.lcuMapUpdate).svl = s.svl ∧ (s.lcuMapUpdate).tlu = s.tlu ∧ (s.lcuMapUpdate).smu = s.smu ∧
    (s.lcuMapUpdate).asp = s.asp ∧ (s.lcuMapUpdate).rsp = s.rsp ∧ (s.lcuMapUpdate).cmu = s.cmu ∧
    (s.lcuMapUpdate).anu = s.anu ∧ (s.lcuMapUpdate).bcu = s.bcu ∧ (s.lcuMapUpdate).bfs = s.bfs ∧
    (s.lcuMapUpdate).mix = s.mix ∧ (s.lcuMapUpdate).wku = s.wku := by
  unfold State.lcuMapUpdate
  try dsimp only
  all_goals simp

@[simp] theorem State.laneTake_frame (slot : Nat) (byte : Byte) (ninth : Bool) (i : Fin 24) (s : State) :
    (s.laneTake slot byte ninth i).pending = s.pending ∧ (s.laneTake slot byte ninth i).cfl = s.cfl ∧
    (s.laneTake slot byte ninth i).svl = s.svl ∧ (s.laneTake slot byte ninth i).tlu = s.tlu ∧
    (s.laneTake slot byte ninth i).smu = s.smu ∧ (s.laneTake slot byte ninth i).asp = s.asp ∧
    (s.laneTake slot byte ninth i).rsp = s.rsp ∧ (s.laneTake slot byte ninth i).cmu = s.cmu ∧
    (s.laneTake slot byte ninth i).anu = s.anu ∧ (s.laneTake slot byte ninth i).bcu = s.bcu ∧
    (s.laneTake slot byte ninth i).bfs = s.bfs ∧ (s.laneTake slot byte ninth i).mix = s.mix ∧
    (s.laneTake slot byte ninth i).wku = s.wku ∧ (s.laneTake slot byte ninth i).sfu = s.sfu := by
  unfold State.laneTake
  try dsimp only
  repeat' split
  all_goals simp

@[simp] theorem State.takeMissCount_frame (i : Fin 24) (s : State) :
    (s.takeMissCount i).pending = s.pending ∧ (s.takeMissCount i).counters = s.counters ∧
    (s.takeMissCount i).cfl = s.cfl ∧ (s.takeMissCount i).svl = s.svl ∧ (s.takeMissCount i).tlu = s.tlu ∧
    (s.takeMissCount i).smu = s.smu ∧ (s.takeMissCount i).asp = s.asp ∧ (s.takeMissCount i).rsp = s.rsp ∧
    (s.takeMissCount i).cmu = s.cmu ∧ (s.takeMissCount i).anu = s.anu ∧ (s.takeMissCount i).bcu = s.bcu ∧
    (s.takeMissCount i).bfs = s.bfs ∧ (s.takeMissCount i).mix = s.mix ∧ (s.takeMissCount i).wku = s.wku ∧
    (s.takeMissCount i).sfu = s.sfu := by
  unfold State.takeMissCount
  try dsimp only
  repeat' split
  all_goals simp

@[simp] theorem State.asmOut_frame (tag : Byte) (o : AsmOut) (s : State) :
    (s.asmOut tag o).pending = s.pending ∧ (s.asmOut tag o).cfl = s.cfl ∧ (s.asmOut tag o).svl = s.svl ∧
    (s.asmOut tag o).tlu = s.tlu ∧ (s.asmOut tag o).smu = s.smu ∧ (s.asmOut tag o).asp = s.asp ∧
    (s.asmOut tag o).rsp = s.rsp ∧ (s.asmOut tag o).cmu = s.cmu ∧ (s.asmOut tag o).anu = s.anu ∧
    (s.asmOut tag o).lcu = s.lcu ∧ (s.asmOut tag o).bcu = s.bcu ∧ (s.asmOut tag o).bfs = s.bfs ∧
    (s.asmOut tag o).mix = s.mix ∧ (s.asmOut tag o).wku = s.wku := by
  unfold State.asmOut
  try dsimp only
  repeat' split
  all_goals simp

@[simp] theorem State.asmTake_frame (slot : Nat) (byte : Byte) (mark : Bool) (i : Fin 8) (s : State) :
    (s.asmTake slot byte mark i).pending = s.pending ∧ (s.asmTake slot byte mark i).cfl = s.cfl ∧
    (s.asmTake slot byte mark i).svl = s.svl ∧ (s.asmTake slot byte mark i).tlu = s.tlu ∧
    (s.asmTake slot byte mark i).smu = s.smu ∧ (s.asmTake slot byte mark i).asp = s.asp ∧
    (s.asmTake slot byte mark i).rsp = s.rsp ∧ (s.asmTake slot byte mark i).cmu = s.cmu ∧
    (s.asmTake slot byte mark i).anu = s.anu ∧ (s.asmTake slot byte mark i).bcu = s.bcu ∧
    (s.asmTake slot byte mark i).bfs = s.bfs ∧ (s.asmTake slot byte mark i).mix = s.mix ∧
    (s.asmTake slot byte mark i).wku = s.wku := by
  unfold State.asmTake
  try dsimp only
  repeat' split
  all_goals simp

@[simp] theorem State.lcuTake_frame (slot : Nat) (byte : Byte) (ninth : Bool) (s : State) :
    (s.lcuTake slot byte ninth).pending = s.pending ∧ (s.lcuTake slot byte ninth).cfl = s.cfl ∧
    (s.lcuTake slot byte ninth).svl = s.svl ∧ (s.lcuTake slot byte ninth).tlu = s.tlu ∧
    (s.lcuTake slot byte ninth).smu = s.smu ∧ (s.lcuTake slot byte ninth).asp = s.asp ∧
    (s.lcuTake slot byte ninth).rsp = s.rsp ∧ (s.lcuTake slot byte ninth).cmu = s.cmu ∧
    (s.lcuTake slot byte ninth).anu = s.anu ∧ (s.lcuTake slot byte ninth).bcu = s.bcu ∧
    (s.lcuTake slot byte ninth).bfs = s.bfs ∧ (s.lcuTake slot byte ninth).mix = s.mix ∧
    (s.lcuTake slot byte ninth).wku = s.wku := by
  unfold State.lcuTake
  try dsimp only
  all_goals simp

@[simp] theorem State.asmAbandoned_frame (done : Nat) (i : Fin 8) (s : State) :
    (s.asmAbandoned done i).pending = s.pending ∧ (s.asmAbandoned done i).cfl = s.cfl ∧
    (s.asmAbandoned done i).svl = s.svl ∧ (s.asmAbandoned done i).tlu = s.tlu ∧ (s.asmAbandoned done i).smu = s.smu ∧
    (s.asmAbandoned done i).asp = s.asp ∧ (s.asmAbandoned done i).rsp = s.rsp ∧ (s.asmAbandoned done i).cmu = s.cmu ∧
    (s.asmAbandoned done i).anu = s.anu ∧ (s.asmAbandoned done i).bcu = s.bcu ∧ (s.asmAbandoned done i).bfs = s.bfs ∧
    (s.asmAbandoned done i).mix = s.mix ∧ (s.asmAbandoned done i).wku = s.wku := by
  unfold State.asmAbandoned
  try dsimp only
  repeat' split
  all_goals simp

@[simp] theorem State.lcuFrameEnd_frame (abandoned : Bool) (done : Nat) (s : State) :
    (s.lcuFrameEnd abandoned done).pending = s.pending ∧ (s.lcuFrameEnd abandoned done).cfl = s.cfl ∧
    (s.lcuFrameEnd abandoned done).svl = s.svl ∧ (s.lcuFrameEnd abandoned done).tlu = s.tlu ∧
    (s.lcuFrameEnd abandoned done).smu = s.smu ∧ (s.lcuFrameEnd abandoned done).asp = s.asp ∧
    (s.lcuFrameEnd abandoned done).rsp = s.rsp ∧ (s.lcuFrameEnd abandoned done).cmu = s.cmu ∧
    (s.lcuFrameEnd abandoned done).anu = s.anu ∧ (s.lcuFrameEnd abandoned done).bcu = s.bcu ∧
    (s.lcuFrameEnd abandoned done).bfs = s.bfs ∧ (s.lcuFrameEnd abandoned done).mix = s.mix ∧
    (s.lcuFrameEnd abandoned done).wku = s.wku := by
  unfold State.lcuFrameEnd
  try dsimp only
  repeat' split
  all_goals simp

@[simp] theorem State.lcuTeardown_frame (s : State) :
    (s.lcuTeardown).pending = s.pending ∧ (s.lcuTeardown).counters = s.counters ∧ (s.lcuTeardown).cfl = s.cfl ∧
    (s.lcuTeardown).svl = s.svl ∧ (s.lcuTeardown).tlu = s.tlu ∧ (s.lcuTeardown).smu = s.smu ∧
    (s.lcuTeardown).asp = s.asp ∧ (s.lcuTeardown).rsp = s.rsp ∧ (s.lcuTeardown).cmu = s.cmu ∧
    (s.lcuTeardown).anu = s.anu ∧ (s.lcuTeardown).bcu = s.bcu ∧ (s.lcuTeardown).bfs = s.bfs ∧
    (s.lcuTeardown).mix = s.mix ∧ (s.lcuTeardown).wku = s.wku := by
  unfold State.lcuTeardown
  try dsimp only
  all_goals simp

/-! ### Machine/Asp.lean -/

@[simp] theorem State.channelWord_frame (bits : List Bool) (c : Fin 8) (s : State) :
    (s.channelWord bits c).pending = s.pending ∧ (s.channelWord bits c).cfl = s.cfl ∧
    (s.channelWord bits c).svl = s.svl ∧ (s.channelWord bits c).tlu = s.tlu ∧ (s.channelWord bits c).smu = s.smu ∧
    (s.channelWord bits c).rsp = s.rsp ∧ (s.channelWord bits c).cmu = s.cmu ∧ (s.channelWord bits c).anu = s.anu ∧
    (s.channelWord bits c).lcu = s.lcu ∧ (s.channelWord bits c).bcu = s.bcu ∧ (s.channelWord bits c).bfs = s.bfs ∧
    (s.channelWord bits c).mix = s.mix ∧ (s.channelWord bits c).wku = s.wku ∧ (s.channelWord bits c).sfu = s.sfu := by
  unfold State.channelWord
  try dsimp only
  repeat' split
  all_goals simp

@[simp] theorem State.portBits_frame (bits : List Bool) (s : State) :
    (s.portBits bits).pending = s.pending ∧ (s.portBits bits).cfl = s.cfl ∧ (s.portBits bits).svl = s.svl ∧
    (s.portBits bits).tlu = s.tlu ∧ (s.portBits bits).smu = s.smu ∧ (s.portBits bits).rsp = s.rsp ∧
    (s.portBits bits).cmu = s.cmu ∧ (s.portBits bits).anu = s.anu ∧ (s.portBits bits).lcu = s.lcu ∧
    (s.portBits bits).bcu = s.bcu ∧ (s.portBits bits).bfs = s.bfs ∧ (s.portBits bits).mix = s.mix ∧
    (s.portBits bits).wku = s.wku ∧ (s.portBits bits).sfu = s.sfu := by
  unfold State.portBits
  try dsimp only
  repeat' split
  all_goals simp

@[simp] theorem State.afsPulse_frame (s : State) :
    (s.afsPulse).pending = s.pending ∧ (s.afsPulse).cfl = s.cfl ∧ (s.afsPulse).svl = s.svl ∧
    (s.afsPulse).tlu = s.tlu ∧ (s.afsPulse).smu = s.smu ∧ (s.afsPulse).rsp = s.rsp ∧ (s.afsPulse).cmu = s.cmu ∧
    (s.afsPulse).anu = s.anu ∧ (s.afsPulse).lcu = s.lcu ∧ (s.afsPulse).bcu = s.bcu ∧ (s.afsPulse).bfs = s.bfs ∧
    (s.afsPulse).mix = s.mix ∧ (s.afsPulse).wku = s.wku ∧ (s.afsPulse).sfu = s.sfu := by
  unfold State.afsPulse
  try dsimp only
  repeat' split
  all_goals simp

@[simp] theorem State.channelFeed_frame (c : Fin 8) (s : State) :
    (s.channelFeed c).pending = s.pending ∧ (s.channelFeed c).cfl = s.cfl ∧ (s.channelFeed c).svl = s.svl ∧
    (s.channelFeed c).tlu = s.tlu ∧ (s.channelFeed c).smu = s.smu ∧ (s.channelFeed c).rsp = s.rsp ∧
    (s.channelFeed c).cmu = s.cmu ∧ (s.channelFeed c).anu = s.anu ∧ (s.channelFeed c).lcu = s.lcu ∧
    (s.channelFeed c).bcu = s.bcu ∧ (s.channelFeed c).bfs = s.bfs ∧ (s.channelFeed c).mix = s.mix ∧
    (s.channelFeed c).wku = s.wku ∧ (s.channelFeed c).sfu = s.sfu := by
  unfold State.channelFeed
  try dsimp only
  repeat' split
  all_goals simp

@[simp] theorem State.aspFrameStart_frame (s : State) :
    (s.aspFrameStart).pending = s.pending ∧ (s.aspFrameStart).cfl = s.cfl ∧ (s.aspFrameStart).svl = s.svl ∧
    (s.aspFrameStart).tlu = s.tlu ∧ (s.aspFrameStart).smu = s.smu ∧ (s.aspFrameStart).rsp = s.rsp ∧
    (s.aspFrameStart).cmu = s.cmu ∧ (s.aspFrameStart).anu = s.anu ∧ (s.aspFrameStart).lcu = s.lcu ∧
    (s.aspFrameStart).bcu = s.bcu ∧ (s.aspFrameStart).bfs = s.bfs ∧ (s.aspFrameStart).mix = s.mix ∧
    (s.aspFrameStart).wku = s.wku ∧ (s.aspFrameStart).sfu = s.sfu := by
  unfold State.aspFrameStart
  try dsimp only
  repeat' split
  all_goals simp

@[simp] theorem State.sampleTalk_frame (high : Table 4 Bool) (s : State) :
    (s.sampleTalk high).pending = s.pending ∧ (s.sampleTalk high).counters = s.counters ∧
    (s.sampleTalk high).cfl = s.cfl ∧ (s.sampleTalk high).svl = s.svl ∧ (s.sampleTalk high).tlu = s.tlu ∧
    (s.sampleTalk high).smu = s.smu ∧ (s.sampleTalk high).rsp = s.rsp ∧ (s.sampleTalk high).cmu = s.cmu ∧
    (s.sampleTalk high).anu = s.anu ∧ (s.sampleTalk high).lcu = s.lcu ∧ (s.sampleTalk high).bcu = s.bcu ∧
    (s.sampleTalk high).bfs = s.bfs ∧ (s.sampleTalk high).mix = s.mix ∧ (s.sampleTalk high).wku = s.wku ∧
    (s.sampleTalk high).sfu = s.sfu := by
  unfold State.sampleTalk
  try dsimp only
  all_goals simp

@[simp] theorem State.takeTalkActivation_frame (c : Fin 4) (s : State) :
    (s.takeTalkActivation c).pending = s.pending ∧ (s.takeTalkActivation c).counters = s.counters ∧
    (s.takeTalkActivation c).cfl = s.cfl ∧ (s.takeTalkActivation c).svl = s.svl ∧
    (s.takeTalkActivation c).tlu = s.tlu ∧ (s.takeTalkActivation c).smu = s.smu ∧
    (s.takeTalkActivation c).rsp = s.rsp ∧ (s.takeTalkActivation c).anu = s.anu ∧
    (s.takeTalkActivation c).lcu = s.lcu ∧ (s.takeTalkActivation c).bcu = s.bcu ∧
    (s.takeTalkActivation c).bfs = s.bfs ∧ (s.takeTalkActivation c).mix = s.mix ∧
    (s.takeTalkActivation c).wku = s.wku ∧ (s.takeTalkActivation c).sfu = s.sfu := by
  unfold State.takeTalkActivation
  try dsimp only
  repeat' split
  all_goals simp

@[simp] theorem State.takeTalkDeactivation_frame (c : Fin 4) (s : State) :
    (s.takeTalkDeactivation c).pending = s.pending ∧ (s.takeTalkDeactivation c).counters = s.counters ∧
    (s.takeTalkDeactivation c).cfl = s.cfl ∧ (s.takeTalkDeactivation c).svl = s.svl ∧
    (s.takeTalkDeactivation c).tlu = s.tlu ∧ (s.takeTalkDeactivation c).smu = s.smu ∧
    (s.takeTalkDeactivation c).rsp = s.rsp ∧ (s.takeTalkDeactivation c).cmu = s.cmu ∧
    (s.takeTalkDeactivation c).anu = s.anu ∧ (s.takeTalkDeactivation c).lcu = s.lcu ∧
    (s.takeTalkDeactivation c).bcu = s.bcu ∧ (s.takeTalkDeactivation c).bfs = s.bfs ∧
    (s.takeTalkDeactivation c).mix = s.mix ∧ (s.takeTalkDeactivation c).wku = s.wku ∧
    (s.takeTalkDeactivation c).sfu = s.sfu := by
  unfold State.takeTalkDeactivation
  try dsimp only
  repeat' split
  all_goals simp

/-! ### Machine/Bcu.lean -/

@[simp] theorem State.bcuTick_frame (pins : TickPins) (s : State) :
    (s.bcuTick pins).pending = s.pending ∧ (s.bcuTick pins).counters = s.counters ∧ (s.bcuTick pins).cfl = s.cfl ∧
    (s.bcuTick pins).svl = s.svl ∧ (s.bcuTick pins).tlu = s.tlu ∧ (s.bcuTick pins).smu = s.smu ∧
    (s.bcuTick pins).asp = s.asp ∧ (s.bcuTick pins).rsp = s.rsp ∧ (s.bcuTick pins).cmu = s.cmu ∧
    (s.bcuTick pins).anu = s.anu ∧ (s.bcuTick pins).lcu = s.lcu ∧ (s.bcuTick pins).bfs = s.bfs ∧
    (s.bcuTick pins).mix = s.mix ∧ (s.bcuTick pins).wku = s.wku ∧ (s.bcuTick pins).sfu = s.sfu := by
  unfold State.bcuTick
  try dsimp only
  all_goals simp

@[simp] theorem State.stepVolume_frame (b : Fin 4) (d : Dir) (s : State) :
    (s.stepVolume b d).pending = s.pending ∧ (s.stepVolume b d).counters = s.counters ∧
    (s.stepVolume b d).cfl = s.cfl ∧ (s.stepVolume b d).svl = s.svl ∧ (s.stepVolume b d).tlu = s.tlu ∧
    (s.stepVolume b d).smu = s.smu ∧ (s.stepVolume b d).asp = s.asp ∧ (s.stepVolume b d).rsp = s.rsp ∧
    (s.stepVolume b d).cmu = s.cmu ∧ (s.stepVolume b d).anu = s.anu ∧ (s.stepVolume b d).lcu = s.lcu ∧
    (s.stepVolume b d).bfs = s.bfs ∧ (s.stepVolume b d).wku = s.wku ∧ (s.stepVolume b d).sfu = s.sfu := by
  unfold State.stepVolume
  try dsimp only
  repeat' split
  all_goals simp

@[simp] theorem State.takeVolPress_frame (b : Fin 4) (d : Dir) (s : State) :
    (s.takeVolPress b d).pending = s.pending ∧ (s.takeVolPress b d).counters = s.counters ∧
    (s.takeVolPress b d).cfl = s.cfl ∧ (s.takeVolPress b d).svl = s.svl ∧ (s.takeVolPress b d).tlu = s.tlu ∧
    (s.takeVolPress b d).smu = s.smu ∧ (s.takeVolPress b d).asp = s.asp ∧ (s.takeVolPress b d).rsp = s.rsp ∧
    (s.takeVolPress b d).cmu = s.cmu ∧ (s.takeVolPress b d).anu = s.anu ∧ (s.takeVolPress b d).lcu = s.lcu ∧
    (s.takeVolPress b d).bfs = s.bfs ∧ (s.takeVolPress b d).wku = s.wku ∧ (s.takeVolPress b d).sfu = s.sfu := by
  unfold State.takeVolPress
  try dsimp only
  repeat' split
  all_goals simp

@[simp] theorem State.takeVolRelease_frame (b : Fin 4) (d : Dir) (s : State) :
    (s.takeVolRelease b d).pending = s.pending ∧ (s.takeVolRelease b d).counters = s.counters ∧
    (s.takeVolRelease b d).cfl = s.cfl ∧ (s.takeVolRelease b d).svl = s.svl ∧ (s.takeVolRelease b d).tlu = s.tlu ∧
    (s.takeVolRelease b d).smu = s.smu ∧ (s.takeVolRelease b d).asp = s.asp ∧ (s.takeVolRelease b d).rsp = s.rsp ∧
    (s.takeVolRelease b d).cmu = s.cmu ∧ (s.takeVolRelease b d).anu = s.anu ∧ (s.takeVolRelease b d).lcu = s.lcu ∧
    (s.takeVolRelease b d).bfs = s.bfs ∧ (s.takeVolRelease b d).mix = s.mix ∧ (s.takeVolRelease b d).wku = s.wku ∧
    (s.takeVolRelease b d).sfu = s.sfu := by
  unfold State.takeVolRelease
  try dsimp only
  repeat' split
  all_goals simp

@[simp] theorem State.takeRepeatTimer_frame (b : Fin 4) (d : Dir) (s : State) :
    (s.takeRepeatTimer b d).pending = s.pending ∧ (s.takeRepeatTimer b d).counters = s.counters ∧
    (s.takeRepeatTimer b d).cfl = s.cfl ∧ (s.takeRepeatTimer b d).svl = s.svl ∧ (s.takeRepeatTimer b d).tlu = s.tlu ∧
    (s.takeRepeatTimer b d).smu = s.smu ∧ (s.takeRepeatTimer b d).asp = s.asp ∧ (s.takeRepeatTimer b d).rsp = s.rsp ∧
    (s.takeRepeatTimer b d).cmu = s.cmu ∧ (s.takeRepeatTimer b d).anu = s.anu ∧ (s.takeRepeatTimer b d).lcu = s.lcu ∧
    (s.takeRepeatTimer b d).bfs = s.bfs ∧ (s.takeRepeatTimer b d).wku = s.wku ∧ (s.takeRepeatTimer b d).sfu = s.sfu := by
  unfold State.takeRepeatTimer
  try dsimp only
  repeat' split
  all_goals simp

@[simp] theorem State.takeChannelPress_frame (b : Fin 4) (d : Dir) (s : State) :
    (s.takeChannelPress b d).pending = s.pending ∧ (s.takeChannelPress b d).counters = s.counters ∧
    (s.takeChannelPress b d).cfl = s.cfl ∧ (s.takeChannelPress b d).svl = s.svl ∧
    (s.takeChannelPress b d).tlu = s.tlu ∧ (s.takeChannelPress b d).smu = s.smu ∧
    (s.takeChannelPress b d).asp = s.asp ∧ (s.takeChannelPress b d).rsp = s.rsp ∧
    (s.takeChannelPress b d).cmu = s.cmu ∧ (s.takeChannelPress b d).anu = s.anu ∧
    (s.takeChannelPress b d).lcu = s.lcu ∧ (s.takeChannelPress b d).bfs = s.bfs ∧
    (s.takeChannelPress b d).mix = s.mix ∧ (s.takeChannelPress b d).wku = s.wku ∧
    (s.takeChannelPress b d).sfu = s.sfu := by
  unfold State.takeChannelPress
  try dsimp only
  repeat' split
  all_goals simp

@[simp] theorem State.completeSwitch_frame (b : Fin 4) (ch : Choice) (cause : SwitchCause) (s : State) :
    (s.completeSwitch b ch cause).pending = s.pending ∧ (s.completeSwitch b ch cause).cfl = s.cfl ∧
    (s.completeSwitch b ch cause).svl = s.svl ∧ (s.completeSwitch b ch cause).tlu = s.tlu ∧
    (s.completeSwitch b ch cause).smu = s.smu ∧ (s.completeSwitch b ch cause).asp = s.asp ∧
    (s.completeSwitch b ch cause).rsp = s.rsp ∧ (s.completeSwitch b ch cause).cmu = s.cmu ∧
    (s.completeSwitch b ch cause).anu = s.anu ∧ (s.completeSwitch b ch cause).lcu = s.lcu ∧
    (s.completeSwitch b ch cause).bfs = s.bfs ∧ (s.completeSwitch b ch cause).mix = s.mix ∧
    (s.completeSwitch b ch cause).wku = s.wku := by
  unfold State.completeSwitch
  try dsimp only
  all_goals simp

@[simp] theorem State.completeWithoutVideo_frame (b : Fin 4) (s : State) :
    (s.completeWithoutVideo b).pending = s.pending ∧ (s.completeWithoutVideo b).cfl = s.cfl ∧
    (s.completeWithoutVideo b).svl = s.svl ∧ (s.completeWithoutVideo b).tlu = s.tlu ∧
    (s.completeWithoutVideo b).smu = s.smu ∧ (s.completeWithoutVideo b).asp = s.asp ∧
    (s.completeWithoutVideo b).rsp = s.rsp ∧ (s.completeWithoutVideo b).cmu = s.cmu ∧
    (s.completeWithoutVideo b).anu = s.anu ∧ (s.completeWithoutVideo b).lcu = s.lcu ∧
    (s.completeWithoutVideo b).bfs = s.bfs ∧ (s.completeWithoutVideo b).mix = s.mix ∧
    (s.completeWithoutVideo b).wku = s.wku := by
  unfold State.completeWithoutVideo
  try dsimp only
  repeat' split
  all_goals simp

@[simp] theorem State.bcuCompletions_frame (s : State) :
    (s.bcuCompletions).pending = s.pending ∧ (s.bcuCompletions).cfl = s.cfl ∧ (s.bcuCompletions).svl = s.svl ∧
    (s.bcuCompletions).tlu = s.tlu ∧ (s.bcuCompletions).smu = s.smu ∧ (s.bcuCompletions).asp = s.asp ∧
    (s.bcuCompletions).rsp = s.rsp ∧ (s.bcuCompletions).cmu = s.cmu ∧ (s.bcuCompletions).anu = s.anu ∧
    (s.bcuCompletions).lcu = s.lcu ∧ (s.bcuCompletions).bfs = s.bfs ∧ (s.bcuCompletions).mix = s.mix ∧
    (s.bcuCompletions).wku = s.wku := by
  unfold State.bcuCompletions
  try dsimp only
  all_goals simp

@[simp] theorem State.takePendingTimer_frame (b : Fin 4) (s : State) :
    (s.takePendingTimer b).pending = s.pending ∧ (s.takePendingTimer b).cfl = s.cfl ∧
    (s.takePendingTimer b).svl = s.svl ∧ (s.takePendingTimer b).tlu = s.tlu ∧ (s.takePendingTimer b).smu = s.smu ∧
    (s.takePendingTimer b).asp = s.asp ∧ (s.takePendingTimer b).rsp = s.rsp ∧ (s.takePendingTimer b).cmu = s.cmu ∧
    (s.takePendingTimer b).anu = s.anu ∧ (s.takePendingTimer b).lcu = s.lcu ∧ (s.takePendingTimer b).bfs = s.bfs ∧
    (s.takePendingTimer b).mix = s.mix ∧ (s.takePendingTimer b).wku = s.wku := by
  unfold State.takePendingTimer
  try dsimp only
  repeat' split
  all_goals simp

@[simp] theorem State.takeAckPress_frame (b : Fin 4) (s : State) :
    (s.takeAckPress b).pending = s.pending ∧ (s.takeAckPress b).counters = s.counters ∧
    (s.takeAckPress b).cfl = s.cfl ∧ (s.takeAckPress b).svl = s.svl ∧ (s.takeAckPress b).tlu = s.tlu ∧
    (s.takeAckPress b).smu = s.smu ∧ (s.takeAckPress b).asp = s.asp ∧ (s.takeAckPress b).rsp = s.rsp ∧
    (s.takeAckPress b).anu = s.anu ∧ (s.takeAckPress b).lcu = s.lcu ∧ (s.takeAckPress b).bfs = s.bfs := by
  unfold State.takeAckPress
  try dsimp only
  repeat' split
  all_goals simp

@[simp] theorem State.takeButtonRelease_frame (b : Fin 4) (k : Button) (s : State) :
    (s.takeButtonRelease b k).pending = s.pending ∧ (s.takeButtonRelease b k).counters = s.counters ∧
    (s.takeButtonRelease b k).cfl = s.cfl ∧ (s.takeButtonRelease b k).svl = s.svl ∧
    (s.takeButtonRelease b k).tlu = s.tlu ∧ (s.takeButtonRelease b k).smu = s.smu ∧
    (s.takeButtonRelease b k).asp = s.asp ∧ (s.takeButtonRelease b k).rsp = s.rsp ∧
    (s.takeButtonRelease b k).cmu = s.cmu ∧ (s.takeButtonRelease b k).anu = s.anu ∧
    (s.takeButtonRelease b k).lcu = s.lcu ∧ (s.takeButtonRelease b k).bfs = s.bfs ∧
    (s.takeButtonRelease b k).mix = s.mix ∧ (s.takeButtonRelease b k).wku = s.wku ∧
    (s.takeButtonRelease b k).sfu = s.sfu := by
  unfold State.takeButtonRelease
  try dsimp only
  repeat' split
  all_goals simp

@[simp] theorem State.takeHeadsetDetect_frame (b : Fin 4) (s : State) :
    (s.takeHeadsetDetect b).pending = s.pending ∧ (s.takeHeadsetDetect b).counters = s.counters ∧
    (s.takeHeadsetDetect b).cfl = s.cfl ∧ (s.takeHeadsetDetect b).svl = s.svl ∧ (s.takeHeadsetDetect b).tlu = s.tlu ∧
    (s.takeHeadsetDetect b).smu = s.smu ∧ (s.takeHeadsetDetect b).asp = s.asp ∧ (s.takeHeadsetDetect b).rsp = s.rsp ∧
    (s.takeHeadsetDetect b).cmu = s.cmu ∧ (s.takeHeadsetDetect b).anu = s.anu ∧ (s.takeHeadsetDetect b).lcu = s.lcu ∧
    (s.takeHeadsetDetect b).bfs = s.bfs ∧ (s.takeHeadsetDetect b).wku = s.wku ∧ (s.takeHeadsetDetect b).sfu = s.sfu := by
  unfold State.takeHeadsetDetect
  try dsimp only
  repeat' split
  all_goals simp

@[simp] theorem State.takeFlashPhase_frame (b : Fin 4) (s : State) :
    (s.takeFlashPhase b).pending = s.pending ∧ (s.takeFlashPhase b).counters = s.counters ∧
    (s.takeFlashPhase b).cfl = s.cfl ∧ (s.takeFlashPhase b).svl = s.svl ∧ (s.takeFlashPhase b).tlu = s.tlu ∧
    (s.takeFlashPhase b).smu = s.smu ∧ (s.takeFlashPhase b).asp = s.asp ∧ (s.takeFlashPhase b).rsp = s.rsp ∧
    (s.takeFlashPhase b).cmu = s.cmu ∧ (s.takeFlashPhase b).anu = s.anu ∧ (s.takeFlashPhase b).lcu = s.lcu ∧
    (s.takeFlashPhase b).bfs = s.bfs ∧ (s.takeFlashPhase b).mix = s.mix ∧ (s.takeFlashPhase b).wku = s.wku ∧
    (s.takeFlashPhase b).sfu = s.sfu := by
  unfold State.takeFlashPhase
  try dsimp only
  repeat' split
  all_goals simp

@[simp] theorem State.offerRecord_frame (tag : Byte) (r : List Byte) (b : Fin 4) (s : State) :
    (s.offerRecord tag r b).pending = s.pending ∧ (s.offerRecord tag r b).cfl = s.cfl ∧
    (s.offerRecord tag r b).svl = s.svl ∧ (s.offerRecord tag r b).tlu = s.tlu ∧ (s.offerRecord tag r b).smu = s.smu ∧
    (s.offerRecord tag r b).asp = s.asp ∧ (s.offerRecord tag r b).rsp = s.rsp ∧ (s.offerRecord tag r b).cmu = s.cmu ∧
    (s.offerRecord tag r b).anu = s.anu ∧ (s.offerRecord tag r b).lcu = s.lcu ∧ (s.offerRecord tag r b).bfs = s.bfs ∧
    (s.offerRecord tag r b).mix = s.mix ∧ (s.offerRecord tag r b).wku = s.wku := by
  unfold State.offerRecord
  try dsimp only
  repeat' split
  all_goals simp

@[simp] theorem State.takeRecord_frame (s : State) :
    (s.takeRecord).pending = s.pending ∧ (s.takeRecord).cfl = s.cfl ∧ (s.takeRecord).svl = s.svl ∧
    (s.takeRecord).tlu = s.tlu ∧ (s.takeRecord).smu = s.smu ∧ (s.takeRecord).asp = s.asp ∧
    (s.takeRecord).rsp = s.rsp ∧ (s.takeRecord).cmu = s.cmu ∧ (s.takeRecord).anu = s.anu ∧
    (s.takeRecord).lcu = s.lcu ∧ (s.takeRecord).bfs = s.bfs ∧ (s.takeRecord).mix = s.mix ∧ (s.takeRecord).wku = s.wku := by
  unfold State.takeRecord
  try dsimp only
  repeat' split
  all_goals simp

@[simp] theorem State.bcuReset_frame (b : Fin 4) (s : State) :
    (s.bcuReset b).pending = s.pending ∧ (s.bcuReset b).counters = s.counters ∧ (s.bcuReset b).cfl = s.cfl ∧
    (s.bcuReset b).svl = s.svl ∧ (s.bcuReset b).tlu = s.tlu ∧ (s.bcuReset b).smu = s.smu ∧
    (s.bcuReset b).asp = s.asp ∧ (s.bcuReset b).rsp = s.rsp ∧ (s.bcuReset b).cmu = s.cmu ∧
    (s.bcuReset b).anu = s.anu ∧ (s.bcuReset b).lcu = s.lcu ∧ (s.bcuReset b).bfs = s.bfs ∧
    (s.bcuReset b).mix = s.mix ∧ (s.bcuReset b).wku = s.wku ∧ (s.bcuReset b).sfu = s.sfu := by
  unfold State.bcuReset
  try dsimp only
  all_goals simp

@[simp] theorem State.berthReset_frame (b : Fin 4) (s : State) :
    (s.berthReset b).pending = s.pending ∧ (s.berthReset b).counters = s.counters ∧ (s.berthReset b).cfl = s.cfl ∧
    (s.berthReset b).svl = s.svl ∧ (s.berthReset b).tlu = s.tlu ∧ (s.berthReset b).smu = s.smu ∧
    (s.berthReset b).asp = s.asp ∧ (s.berthReset b).rsp = s.rsp ∧ (s.berthReset b).cmu = s.cmu ∧
    (s.berthReset b).lcu = s.lcu ∧ (s.berthReset b).bfs = s.bfs := by
  unfold State.berthReset
  try dsimp only
  all_goals simp

/-! ### Machine/Tlu.lean -/

@[simp] theorem State.enterListen_frame (s : State) :
    (s.enterListen).pending = s.pending ∧ (s.enterListen).cfl = s.cfl ∧ (s.enterListen).svl = s.svl ∧
    (s.enterListen).asp = s.asp ∧ (s.enterListen).bfs = s.bfs := by
  unfold State.enterListen
  try dsimp only
  all_goals simp

@[simp] theorem State.takeFramesSinceForeign_frame (s : State) :
    (s.takeFramesSinceForeign).pending = s.pending ∧ (s.takeFramesSinceForeign).cfl = s.cfl ∧
    (s.takeFramesSinceForeign).svl = s.svl ∧ (s.takeFramesSinceForeign).asp = s.asp ∧
    (s.takeFramesSinceForeign).bfs = s.bfs := by
  unfold State.takeFramesSinceForeign
  try dsimp only
  repeat' split
  all_goals simp

@[simp] theorem State.takeFramesInListen_frame (s : State) :
    (s.takeFramesInListen).pending = s.pending ∧ (s.takeFramesInListen).counters = s.counters ∧
    (s.takeFramesInListen).cfl = s.cfl ∧ (s.takeFramesInListen).svl = s.svl ∧ (s.takeFramesInListen).smu = s.smu ∧
    (s.takeFramesInListen).asp = s.asp ∧ (s.takeFramesInListen).rsp = s.rsp ∧ (s.takeFramesInListen).cmu = s.cmu ∧
    (s.takeFramesInListen).anu = s.anu ∧ (s.takeFramesInListen).lcu = s.lcu ∧ (s.takeFramesInListen).bcu = s.bcu ∧
    (s.takeFramesInListen).bfs = s.bfs ∧ (s.takeFramesInListen).mix = s.mix ∧ (s.takeFramesInListen).wku = s.wku ∧
    (s.takeFramesInListen).sfu = s.sfu := by
  unfold State.takeFramesInListen
  try dsimp only
  repeat' split
  all_goals simp

@[simp] theorem State.timerExpiry_frame (g : GuardReading) (s : State) :
    (s.timerExpiry g).pending = s.pending ∧ (s.timerExpiry g).counters = s.counters ∧ (s.timerExpiry g).cfl = s.cfl ∧
    (s.timerExpiry g).svl = s.svl ∧ (s.timerExpiry g).smu = s.smu ∧ (s.timerExpiry g).asp = s.asp ∧
    (s.timerExpiry g).rsp = s.rsp ∧ (s.timerExpiry g).cmu = s.cmu ∧ (s.timerExpiry g).anu = s.anu ∧
    (s.timerExpiry g).lcu = s.lcu ∧ (s.timerExpiry g).bcu = s.bcu ∧ (s.timerExpiry g).bfs = s.bfs ∧
    (s.timerExpiry g).mix = s.mix ∧ (s.timerExpiry g).wku = s.wku ∧ (s.timerExpiry g).sfu = s.sfu := by
  unfold State.timerExpiry
  try dsimp only
  repeat' split
  all_goals simp

@[simp] theorem State.guardRunEnds_frame (s : State) :
    (s.guardRunEnds).pending = s.pending ∧ (s.guardRunEnds).counters = s.counters ∧ (s.guardRunEnds).cfl = s.cfl ∧
    (s.guardRunEnds).svl = s.svl ∧ (s.guardRunEnds).smu = s.smu ∧ (s.guardRunEnds).asp = s.asp ∧
    (s.guardRunEnds).rsp = s.rsp ∧ (s.guardRunEnds).cmu = s.cmu ∧ (s.guardRunEnds).anu = s.anu ∧
    (s.guardRunEnds).lcu = s.lcu ∧ (s.guardRunEnds).bcu = s.bcu ∧ (s.guardRunEnds).bfs = s.bfs ∧
    (s.guardRunEnds).mix = s.mix ∧ (s.guardRunEnds).wku = s.wku ∧ (s.guardRunEnds).sfu = s.sfu := by
  unfold State.guardRunEnds
  try dsimp only
  repeat' split
  all_goals simp

@[simp] theorem State.silence_frame (k : Fin 40) (h : Fin 11) (s : State) :
    (s.silence k h).pending = s.pending ∧ (s.silence k h).counters = s.counters ∧ (s.silence k h).cfl = s.cfl ∧
    (s.silence k h).svl = s.svl ∧ (s.silence k h).smu = s.smu ∧ (s.silence k h).asp = s.asp ∧
    (s.silence k h).rsp = s.rsp ∧ (s.silence k h).cmu = s.cmu ∧ (s.silence k h).anu = s.anu ∧
    (s.silence k h).lcu = s.lcu ∧ (s.silence k h).bcu = s.bcu ∧ (s.silence k h).bfs = s.bfs ∧
    (s.silence k h).mix = s.mix ∧ (s.silence k h).wku = s.wku ∧ (s.silence k h).sfu = s.sfu := by
  unfold State.silence
  try dsimp only
  all_goals simp

@[simp] theorem State.readBack_frame (k : Fin 40) (s : State) :
    (s.readBack k).pending = s.pending ∧ (s.readBack k).counters = s.counters ∧ (s.readBack k).cfl = s.cfl ∧
    (s.readBack k).svl = s.svl ∧ (s.readBack k).smu = s.smu ∧ (s.readBack k).asp = s.asp ∧
    (s.readBack k).rsp = s.rsp ∧ (s.readBack k).cmu = s.cmu ∧ (s.readBack k).anu = s.anu ∧
    (s.readBack k).lcu = s.lcu ∧ (s.readBack k).bcu = s.bcu ∧ (s.readBack k).bfs = s.bfs ∧
    (s.readBack k).mix = s.mix ∧ (s.readBack k).wku = s.wku ∧ (s.readBack k).sfu = s.sfu := by
  unfold State.readBack
  try dsimp only
  repeat' split
  all_goals simp

/-! ### Machine/Svl.lean -/

@[simp] theorem State.replyOk_frame (code : Byte) (data : List Byte) (s : State) :
    (s.replyOk code data).pending = s.pending ∧ (s.replyOk code data).counters = s.counters ∧
    (s.replyOk code data).cfl = s.cfl ∧ (s.replyOk code data).tlu = s.tlu ∧ (s.replyOk code data).smu = s.smu ∧
    (s.replyOk code data).asp = s.asp ∧ (s.replyOk code data).rsp = s.rsp ∧ (s.replyOk code data).cmu = s.cmu ∧
    (s.replyOk code data).anu = s.anu ∧ (s.replyOk code data).lcu = s.lcu ∧ (s.replyOk code data).bcu = s.bcu ∧
    (s.replyOk code data).bfs = s.bfs ∧ (s.replyOk code data).mix = s.mix ∧ (s.replyOk code data).wku = s.wku ∧
    (s.replyOk code data).sfu = s.sfu := by
  unfold State.replyOk
  try dsimp only
  all_goals simp

@[simp] theorem State.sendEffect_frame (c : List Byte) (s : State) :
    (s.sendEffect c).pending = s.pending ∧ (s.sendEffect c).counters = s.counters ∧ (s.sendEffect c).cfl = s.cfl ∧
    (s.sendEffect c).tlu = s.tlu ∧ (s.sendEffect c).smu = s.smu ∧ (s.sendEffect c).asp = s.asp ∧
    (s.sendEffect c).rsp = s.rsp ∧ (s.sendEffect c).anu = s.anu ∧ (s.sendEffect c).lcu = s.lcu ∧
    (s.sendEffect c).bcu = s.bcu ∧ (s.sendEffect c).bfs = s.bfs ∧ (s.sendEffect c).mix = s.mix ∧
    (s.sendEffect c).wku = s.wku ∧ (s.sendEffect c).sfu = s.sfu := by
  unfold State.sendEffect
  try dsimp only
  repeat' split
  all_goals simp

@[simp] theorem State.takeSend_frame (s : State) :
    (s.takeSend).pending = s.pending ∧ (s.takeSend).cfl = s.cfl ∧ (s.takeSend).tlu = s.tlu ∧
    (s.takeSend).smu = s.smu ∧ (s.takeSend).asp = s.asp ∧ (s.takeSend).rsp = s.rsp ∧ (s.takeSend).anu = s.anu ∧
    (s.takeSend).lcu = s.lcu ∧ (s.takeSend).bcu = s.bcu ∧ (s.takeSend).bfs = s.bfs ∧ (s.takeSend).mix = s.mix ∧
    (s.takeSend).wku = s.wku ∧ (s.takeSend).sfu = s.sfu := by
  simp only [State.takeSend, State.takeCommand]
  repeat' split
  all_goals simp

@[simp] theorem State.takeReadNode_frame (s : State) :
    (s.takeReadNode).pending = s.pending ∧ (s.takeReadNode).cfl = s.cfl ∧ (s.takeReadNode).tlu = s.tlu ∧
    (s.takeReadNode).smu = s.smu ∧ (s.takeReadNode).asp = s.asp ∧ (s.takeReadNode).rsp = s.rsp ∧
    (s.takeReadNode).cmu = s.cmu ∧ (s.takeReadNode).anu = s.anu ∧ (s.takeReadNode).lcu = s.lcu ∧
    (s.takeReadNode).bcu = s.bcu ∧ (s.takeReadNode).bfs = s.bfs ∧ (s.takeReadNode).mix = s.mix ∧
    (s.takeReadNode).wku = s.wku ∧ (s.takeReadNode).sfu = s.sfu := by
  simp only [State.takeReadNode, State.takeCommand]
  repeat' split
  all_goals simp

@[simp] theorem State.takeReadSlots_frame (s : State) :
    (s.takeReadSlots).pending = s.pending ∧ (s.takeReadSlots).cfl = s.cfl ∧ (s.takeReadSlots).tlu = s.tlu ∧
    (s.takeReadSlots).smu = s.smu ∧ (s.takeReadSlots).asp = s.asp ∧ (s.takeReadSlots).rsp = s.rsp ∧
    (s.takeReadSlots).cmu = s.cmu ∧ (s.takeReadSlots).anu = s.anu ∧ (s.takeReadSlots).lcu = s.lcu ∧
    (s.takeReadSlots).bcu = s.bcu ∧ (s.takeReadSlots).bfs = s.bfs ∧ (s.takeReadSlots).mix = s.mix ∧
    (s.takeReadSlots).wku = s.wku ∧ (s.takeReadSlots).sfu = s.sfu := by
  simp only [State.takeReadSlots, State.takeCommand]
  repeat' split
  all_goals simp

@[simp] theorem State.takeReadTable_frame (s : State) :
    (s.takeReadTable).pending = s.pending ∧ (s.takeReadTable).cfl = s.cfl ∧ (s.takeReadTable).tlu = s.tlu ∧
    (s.takeReadTable).smu = s.smu ∧ (s.takeReadTable).asp = s.asp ∧ (s.takeReadTable).rsp = s.rsp ∧
    (s.takeReadTable).cmu = s.cmu ∧ (s.takeReadTable).anu = s.anu ∧ (s.takeReadTable).lcu = s.lcu ∧
    (s.takeReadTable).bcu = s.bcu ∧ (s.takeReadTable).bfs = s.bfs ∧ (s.takeReadTable).mix = s.mix ∧
    (s.takeReadTable).wku = s.wku ∧ (s.takeReadTable).sfu = s.sfu := by
  simp only [State.takeReadTable, State.takeCommand]
  repeat' split
  all_goals simp

@[simp] theorem State.takeReadBerth_frame (s : State) :
    (s.takeReadBerth).pending = s.pending ∧ (s.takeReadBerth).cfl = s.cfl ∧ (s.takeReadBerth).tlu = s.tlu ∧
    (s.takeReadBerth).smu = s.smu ∧ (s.takeReadBerth).asp = s.asp ∧ (s.takeReadBerth).rsp = s.rsp ∧
    (s.takeReadBerth).cmu = s.cmu ∧ (s.takeReadBerth).anu = s.anu ∧ (s.takeReadBerth).lcu = s.lcu ∧
    (s.takeReadBerth).bcu = s.bcu ∧ (s.takeReadBerth).bfs = s.bfs ∧ (s.takeReadBerth).mix = s.mix ∧
    (s.takeReadBerth).wku = s.wku ∧ (s.takeReadBerth).sfu = s.sfu := by
  simp only [State.takeReadBerth, State.takeCommand, State.withBerth]
  repeat' split
  all_goals simp

@[simp] theorem State.takeReadMissed_frame (s : State) :
    (s.takeReadMissed).pending = s.pending ∧ (s.takeReadMissed).cfl = s.cfl ∧ (s.takeReadMissed).tlu = s.tlu ∧
    (s.takeReadMissed).smu = s.smu ∧ (s.takeReadMissed).asp = s.asp ∧ (s.takeReadMissed).rsp = s.rsp ∧
    (s.takeReadMissed).cmu = s.cmu ∧ (s.takeReadMissed).anu = s.anu ∧ (s.takeReadMissed).lcu = s.lcu ∧
    (s.takeReadMissed).bcu = s.bcu ∧ (s.takeReadMissed).bfs = s.bfs ∧ (s.takeReadMissed).mix = s.mix ∧
    (s.takeReadMissed).wku = s.wku ∧ (s.takeReadMissed).sfu = s.sfu := by
  simp only [State.takeReadMissed, State.takeCommand]
  repeat' split
  all_goals simp

@[simp] theorem State.takeResetBerth_frame (s : State) :
    (s.takeResetBerth).pending = s.pending ∧ (s.takeResetBerth).cfl = s.cfl ∧ (s.takeResetBerth).tlu = s.tlu ∧
    (s.takeResetBerth).smu = s.smu ∧ (s.takeResetBerth).asp = s.asp ∧ (s.takeResetBerth).rsp = s.rsp ∧
    (s.takeResetBerth).cmu = s.cmu ∧ (s.takeResetBerth).lcu = s.lcu ∧ (s.takeResetBerth).bfs = s.bfs := by
  simp only [State.takeResetBerth, State.takeCommand, State.withBerth]
  repeat' split
  all_goals simp

@[simp] theorem State.clearCounters_frame (s : State) :
    (s.clearCounters).pending = s.pending ∧ (s.clearCounters).cfl = s.cfl ∧ (s.clearCounters).svl = s.svl ∧
    (s.clearCounters).tlu = s.tlu ∧ (s.clearCounters).smu = s.smu ∧ (s.clearCounters).asp = s.asp ∧
    (s.clearCounters).rsp = s.rsp ∧ (s.clearCounters).cmu = s.cmu ∧ (s.clearCounters).anu = s.anu ∧
    (s.clearCounters).lcu = s.lcu ∧ (s.clearCounters).bcu = s.bcu ∧ (s.clearCounters).bfs = s.bfs ∧
    (s.clearCounters).mix = s.mix ∧ (s.clearCounters).wku = s.wku ∧ (s.clearCounters).sfu = s.sfu := by
  unfold State.clearCounters
  try dsimp only
  all_goals simp

@[simp] theorem State.takeClearCounters_frame (s : State) :
    (s.takeClearCounters).pending = s.pending ∧ (s.takeClearCounters).cfl = s.cfl ∧
    (s.takeClearCounters).tlu = s.tlu ∧ (s.takeClearCounters).smu = s.smu ∧ (s.takeClearCounters).asp = s.asp ∧
    (s.takeClearCounters).rsp = s.rsp ∧ (s.takeClearCounters).cmu = s.cmu ∧ (s.takeClearCounters).anu = s.anu ∧
    (s.takeClearCounters).lcu = s.lcu ∧ (s.takeClearCounters).bcu = s.bcu ∧ (s.takeClearCounters).bfs = s.bfs ∧
    (s.takeClearCounters).mix = s.mix ∧ (s.takeClearCounters).wku = s.wku ∧ (s.takeClearCounters).sfu = s.sfu := by
  simp only [State.takeClearCounters, State.takeCommand]
  repeat' split
  all_goals simp

@[simp] theorem State.takeUnknown_frame (s : State) :
    (s.takeUnknown).pending = s.pending ∧ (s.takeUnknown).cfl = s.cfl ∧ (s.takeUnknown).tlu = s.tlu ∧
    (s.takeUnknown).smu = s.smu ∧ (s.takeUnknown).asp = s.asp ∧ (s.takeUnknown).rsp = s.rsp ∧
    (s.takeUnknown).cmu = s.cmu ∧ (s.takeUnknown).anu = s.anu ∧ (s.takeUnknown).lcu = s.lcu ∧
    (s.takeUnknown).bcu = s.bcu ∧ (s.takeUnknown).bfs = s.bfs ∧ (s.takeUnknown).mix = s.mix ∧
    (s.takeUnknown).wku = s.wku ∧ (s.takeUnknown).sfu = s.sfu := by
  simp only [State.takeUnknown, State.takeCommand]
  repeat' split
  all_goals simp

@[simp] theorem State.svlTick_frame (s : State) :
    (s.svlTick).pending = s.pending ∧ (s.svlTick).counters = s.counters ∧ (s.svlTick).cfl = s.cfl ∧
    (s.svlTick).tlu = s.tlu ∧ (s.svlTick).smu = s.smu ∧ (s.svlTick).asp = s.asp ∧ (s.svlTick).rsp = s.rsp ∧
    (s.svlTick).cmu = s.cmu ∧ (s.svlTick).anu = s.anu ∧ (s.svlTick).lcu = s.lcu ∧ (s.svlTick).bcu = s.bcu ∧
    (s.svlTick).bfs = s.bfs ∧ (s.svlTick).mix = s.mix ∧ (s.svlTick).wku = s.wku ∧ (s.svlTick).sfu = s.sfu := by
  unfold State.svlTick
  try dsimp only
  all_goals simp

@[simp] theorem State.takeGap_frame (s : State) :
    (s.takeGap).pending = s.pending ∧ (s.takeGap).counters = s.counters ∧ (s.takeGap).cfl = s.cfl ∧
    (s.takeGap).tlu = s.tlu ∧ (s.takeGap).smu = s.smu ∧ (s.takeGap).asp = s.asp ∧ (s.takeGap).rsp = s.rsp ∧
    (s.takeGap).cmu = s.cmu ∧ (s.takeGap).anu = s.anu ∧ (s.takeGap).lcu = s.lcu ∧ (s.takeGap).bcu = s.bcu ∧
    (s.takeGap).bfs = s.bfs ∧ (s.takeGap).mix = s.mix ∧ (s.takeGap).wku = s.wku ∧ (s.takeGap).sfu = s.sfu := by
  unfold State.takeGap
  try dsimp only
  repeat' split
  all_goals simp

@[simp] theorem State.linkByte_frame (byte : Byte) (stop : Bool) (s : State) :
    (s.linkByte byte stop).pending = s.pending ∧ (s.linkByte byte stop).counters = s.counters ∧
    (s.linkByte byte stop).cfl = s.cfl ∧ (s.linkByte byte stop).tlu = s.tlu ∧ (s.linkByte byte stop).smu = s.smu ∧
    (s.linkByte byte stop).asp = s.asp ∧ (s.linkByte byte stop).rsp = s.rsp ∧ (s.linkByte byte stop).cmu = s.cmu ∧
    (s.linkByte byte stop).anu = s.anu ∧ (s.linkByte byte stop).lcu = s.lcu ∧ (s.linkByte byte stop).bcu = s.bcu ∧
    (s.linkByte byte stop).bfs = s.bfs ∧ (s.linkByte byte stop).mix = s.mix ∧ (s.linkByte byte stop).wku = s.wku ∧
    (s.linkByte byte stop).sfu = s.sfu := by
  unfold State.linkByte
  try dsimp only
  repeat' split
  all_goals simp

@[simp] theorem State.replyDone_frame (s : State) :
    (s.replyDone).pending = s.pending ∧ (s.replyDone).counters = s.counters ∧ (s.replyDone).cfl = s.cfl ∧
    (s.replyDone).tlu = s.tlu ∧ (s.replyDone).smu = s.smu ∧ (s.replyDone).asp = s.asp ∧ (s.replyDone).rsp = s.rsp ∧
    (s.replyDone).cmu = s.cmu ∧ (s.replyDone).anu = s.anu ∧ (s.replyDone).lcu = s.lcu ∧ (s.replyDone).bcu = s.bcu ∧
    (s.replyDone).bfs = s.bfs ∧ (s.replyDone).mix = s.mix ∧ (s.replyDone).wku = s.wku ∧ (s.replyDone).sfu = s.sfu := by
  unfold State.replyDone
  try dsimp only
  all_goals simp

/-! ### Machine/Events.lean -/

@[simp] theorem takeEvent_frame (e : Event) (s : State) :
    (takeEvent e s).pending = s.pending ∧ (takeEvent e s).cfl = s.cfl ∧ (takeEvent e s).bfs = s.bfs := by
  unfold takeEvent
  try dsimp only
  repeat' split
  all_goals simp

@[simp] theorem State.settle_frame (s : State) :
    (s.settle).pending = s.pending ∧ (s.settle).cfl = s.cfl ∧ (s.settle).bfs = s.bfs := by
  unfold State.settle
  try dsimp only
  all_goals simp

@[simp] theorem Loader.periodPasses_config (l : Loader) : l.periodPasses.config = l.config := by
  unfold Loader.periodPasses; split <;> rfl

@[simp] theorem Loader.periodPasses_node (l : Loader) : l.periodPasses.node = l.node := by
  unfold Loader.periodPasses; split <;> rfl

@[simp] theorem State.timePasses_config (s : State) : s.timePasses.cfl.config = s.cfl.config := by
  unfold State.timePasses; split <;> simp

@[simp] theorem State.timePasses_node (s : State) : s.timePasses.cfl.node = s.cfl.node := by
  unfold State.timePasses; split <;> simp

@[simp] theorem Tlu.bitTimePasses_link (t : Tlu) : t.bitTimePasses.link = t.link := by
  unfold Tlu.bitTimePasses; split <;> rfl

@[simp] theorem State.timePasses_link (s : State) : s.timePasses.tlu.link = s.tlu.link := by
  unfold State.timePasses; split <;> simp

@[simp] theorem State.timePasses_frame (s : State) :
    (s.timePasses).pending = s.pending ∧ (s.timePasses).counters = s.counters ∧ (s.timePasses).svl = s.svl ∧
    (s.timePasses).smu = s.smu ∧ (s.timePasses).asp = s.asp ∧ (s.timePasses).rsp = s.rsp ∧
    (s.timePasses).cmu = s.cmu ∧ (s.timePasses).anu = s.anu ∧ (s.timePasses).lcu = s.lcu ∧
    (s.timePasses).bcu = s.bcu ∧ (s.timePasses).bfs = s.bfs ∧ (s.timePasses).mix = s.mix ∧
    (s.timePasses).wku = s.wku ∧ (s.timePasses).sfu = s.sfu := by
  unfold State.timePasses
  split
  all_goals simp

@[simp] theorem State.idle_frame (s : State) :
    (s.idle).pending = s.pending ∧ (s.idle).cfl.config = s.cfl.config ∧ (s.idle).cfl.node = s.cfl.node ∧ (s.idle).bfs = s.bfs := by
  unfold State.idle
  try dsimp only
  repeat' split
  all_goals simp

/-! ### Machine/Frame.lean -/

@[simp] theorem takeAll_frame (es : List Event) (s : State) :
    (takeAll es s).pending = s.pending ∧ (takeAll es s).cfl = s.cfl ∧ (takeAll es s).bfs = s.bfs := by
  unfold takeAll
  try dsimp only
  all_goals simp

@[simp] theorem State.takeLink_frame (s : State) :
    (s.takeLink).pending = s.pending ∧ (s.takeLink).cfl = s.cfl ∧ (s.takeLink).svl = s.svl ∧
    (s.takeLink).asp = s.asp ∧ (s.takeLink).bfs = s.bfs := by
  unfold State.takeLink
  try dsimp only
  all_goals simp

@[simp] theorem State.cycleTick_frame (fs : FrameStart) (s : State) :
    (s.cycleTick fs).pending = s.pending ∧ (s.cycleTick fs).counters = s.counters ∧ (s.cycleTick fs).cfl = s.cfl ∧
    (s.cycleTick fs).smu = s.smu ∧ (s.cycleTick fs).rsp = s.rsp ∧ (s.cycleTick fs).lcu = s.lcu ∧
    (s.cycleTick fs).bfs = s.bfs := by
  unfold State.cycleTick
  try dsimp only
  repeat' split
  all_goals simp

@[simp] theorem State.dataFrameEnd_frame (e : FrameEnd) (o : FrameOrder) (s : State) :
    (s.dataFrameEnd e o).pending = s.pending ∧ (s.dataFrameEnd e o).counters = s.counters ∧
    (s.dataFrameEnd e o).cfl = s.cfl ∧ (s.dataFrameEnd e o).svl = s.svl ∧ (s.dataFrameEnd e o).tlu = s.tlu ∧
    (s.dataFrameEnd e o).smu = s.smu ∧ (s.dataFrameEnd e o).asp = s.asp ∧ (s.dataFrameEnd e o).anu = s.anu ∧
    (s.dataFrameEnd e o).lcu = s.lcu ∧ (s.dataFrameEnd e o).bcu = s.bcu ∧ (s.dataFrameEnd e o).bfs = s.bfs ∧
    (s.dataFrameEnd e o).wku = s.wku ∧ (s.dataFrameEnd e o).sfu = s.sfu := by
  unfold State.dataFrameEnd
  try dsimp only
  repeat' split
  all_goals simp

@[simp] theorem State.feedFrame_frame (e : FrameEnd) (o : FrameOrder) (s : State) :
    (s.feedFrame e o).pending = s.pending ∧ (s.feedFrame e o).cfl = s.cfl ∧ (s.feedFrame e o).svl = s.svl ∧
    (s.feedFrame e o).tlu = s.tlu ∧ (s.feedFrame e o).smu = s.smu ∧ (s.feedFrame e o).anu = s.anu ∧
    (s.feedFrame e o).lcu = s.lcu ∧ (s.feedFrame e o).bcu = s.bcu ∧ (s.feedFrame e o).wku = s.wku ∧
    (s.feedFrame e o).sfu = s.sfu := by
  unfold State.feedFrame
  try dsimp only
  repeat' split
  all_goals simp

@[simp] theorem State.tablesTick_frame (listen : Bool) (s : State) :
    (s.tablesTick listen).pending = s.pending ∧ (s.tablesTick listen).cfl = s.cfl ∧
    (s.tablesTick listen).svl = s.svl ∧ (s.tablesTick listen).tlu = s.tlu ∧ (s.tablesTick listen).asp = s.asp ∧
    (s.tablesTick listen).lcu = s.lcu ∧ (s.tablesTick listen).bfs = s.bfs := by
  unfold State.tablesTick
  try dsimp only
  repeat' split
  all_goals simp

@[simp] theorem State.startFrame_frame (fs : FrameStart) (e : FrameEnd) (s : State) :
    (s.startFrame fs e).pending = s.pending ∧ (s.startFrame fs e).cfl = s.cfl := by
  unfold State.startFrame
  dsimp only
  simp [apply_ite State.pending, apply_ite State.cfl]

/-! ### Machine/Trunk.lean -/

@[simp] theorem State.flywheelStart_frame (bitTime : Nat) (fs : FrameStart) (s : State) :
    (s.flywheelStart bitTime fs).pending = s.pending ∧ (s.flywheelStart bitTime fs).cfl = s.cfl := by
  unfold State.flywheelStart
  try dsimp only
  all_goals simp

@[simp] theorem State.countMark_frame (form : MarkForm) (mid : Bool) (s : State) :
    (s.countMark form mid).pending = s.pending ∧ (s.countMark form mid).cfl = s.cfl ∧
    (s.countMark form mid).svl = s.svl ∧ (s.countMark form mid).tlu = s.tlu ∧ (s.countMark form mid).smu = s.smu ∧
    (s.countMark form mid).asp = s.asp ∧ (s.countMark form mid).rsp = s.rsp ∧ (s.countMark form mid).cmu = s.cmu ∧
    (s.countMark form mid).anu = s.anu ∧ (s.countMark form mid).lcu = s.lcu ∧ (s.countMark form mid).bcu = s.bcu ∧
    (s.countMark form mid).bfs = s.bfs ∧ (s.countMark form mid).mix = s.mix ∧ (s.countMark form mid).wku = s.wku ∧
    (s.countMark form mid).sfu = s.sfu := by
  unfold State.countMark
  try dsimp only
  repeat' split
  all_goals simp

@[simp] theorem State.markStart_frame (form : MarkForm) (start : Nat) (fs : FrameStart) (s : State) :
    (s.markStart form start fs).pending = s.pending ∧ (s.markStart form start fs).cfl = s.cfl := by
  unfold State.markStart
  try dsimp only
  all_goals simp

@[simp] theorem State.takeMark_frame (form : MarkForm) (start : Nat) (fs : FrameStart) (s : State) :
    (s.takeMark form start fs).pending = s.pending ∧ (s.takeMark form start fs).cfl = s.cfl := by
  unfold State.takeMark
  try dsimp only
  repeat' split
  all_goals simp

@[simp] theorem State.withReadBack_frame (k : Fin 40) (line : SlotBits) (s : State) :
    (s.withReadBack k line).pending = s.pending ∧ (s.withReadBack k line).counters = s.counters ∧
    (s.withReadBack k line).cfl = s.cfl ∧ (s.withReadBack k line).svl = s.svl ∧
    (s.withReadBack k line).smu = s.smu ∧ (s.withReadBack k line).asp = s.asp ∧
    (s.withReadBack k line).rsp = s.rsp ∧ (s.withReadBack k line).cmu = s.cmu ∧
    (s.withReadBack k line).anu = s.anu ∧ (s.withReadBack k line).lcu = s.lcu ∧
    (s.withReadBack k line).bcu = s.bcu ∧ (s.withReadBack k line).bfs = s.bfs ∧
    (s.withReadBack k line).mix = s.mix ∧ (s.withReadBack k line).wku = s.wku ∧
    (s.withReadBack k line).sfu = s.sfu := by
  unfold State.withReadBack
  try dsimp only
  repeat' split
  all_goals simp

@[simp] theorem State.slotOver_frame (k : Fin 40) (wait : Fin 13) (s : State) :
    (s.slotOver k wait).pending = s.pending ∧ (s.slotOver k wait).counters = s.counters ∧ (s.slotOver k wait).cfl = s.cfl ∧
    (s.slotOver k wait).svl = s.svl ∧ (s.slotOver k wait).smu = s.smu ∧ (s.slotOver k wait).asp = s.asp ∧
    (s.slotOver k wait).rsp = s.rsp ∧ (s.slotOver k wait).cmu = s.cmu ∧ (s.slotOver k wait).anu = s.anu ∧
    (s.slotOver k wait).lcu = s.lcu ∧ (s.slotOver k wait).bcu = s.bcu ∧ (s.slotOver k wait).bfs = s.bfs ∧
    (s.slotOver k wait).mix = s.mix ∧ (s.slotOver k wait).wku = s.wku ∧ (s.slotOver k wait).sfu = s.sfu := by
  unfold State.slotOver
  try dsimp only
  all_goals simp

@[simp] theorem State.mapUpdate_frame (s : State) :
    (s.mapUpdate).pending = s.pending ∧ (s.mapUpdate).cfl = s.cfl ∧ (s.mapUpdate).svl = s.svl ∧
    (s.mapUpdate).tlu = s.tlu ∧ (s.mapUpdate).asp = s.asp ∧ (s.mapUpdate).bfs = s.bfs := by
  unfold State.mapUpdate
  try dsimp only
  all_goals simp

@[simp] theorem State.tagSlot_frame (k : Fin 40) (byte : Byte) (wait : Fin 13) (s : State) :
    (s.tagSlot k byte wait).pending = s.pending ∧ (s.tagSlot k byte wait).cfl = s.cfl ∧ (s.tagSlot k byte wait).svl = s.svl ∧
    (s.tagSlot k byte wait).asp = s.asp ∧ (s.tagSlot k byte wait).bfs = s.bfs := by
  unfold State.tagSlot
  try dsimp only
  repeat' split
  all_goals simp

@[simp] theorem State.dataSlot_frame (k : Fin 40) (byte : Byte) (ninth : Bool) (wait : Fin 13) (s : State) :
    (s.dataSlot k byte ninth wait).pending = s.pending ∧ (s.dataSlot k byte ninth wait).cfl = s.cfl ∧
    (s.dataSlot k byte ninth wait).svl = s.svl ∧ (s.dataSlot k byte ninth wait).asp = s.asp ∧
    (s.dataSlot k byte ninth wait).anu = s.anu ∧ (s.dataSlot k byte ninth wait).bcu = s.bcu ∧
    (s.dataSlot k byte ninth wait).bfs = s.bfs ∧ (s.dataSlot k byte ninth wait).mix = s.mix ∧
    (s.dataSlot k byte ninth wait).wku = s.wku := by
  unfold State.dataSlot
  try dsimp only
  repeat' split
  all_goals simp

/-! ### Machine/Cfl.lean -/

@[simp] theorem State.loadBerth_frame (b : Fin 4) (s : State) :
    (s.loadBerth b).pending = s.pending ∧ (s.loadBerth b).counters = s.counters ∧ (s.loadBerth b).cfl = s.cfl ∧
    (s.loadBerth b).svl = s.svl ∧ (s.loadBerth b).tlu = s.tlu ∧ (s.loadBerth b).smu = s.smu ∧
    (s.loadBerth b).asp = s.asp ∧ (s.loadBerth b).rsp = s.rsp ∧ (s.loadBerth b).cmu = s.cmu ∧
    (s.loadBerth b).anu = s.anu ∧ (s.loadBerth b).lcu = s.lcu ∧ (s.loadBerth b).bfs = s.bfs := by
  unfold State.loadBerth
  try dsimp only
  repeat' split
  all_goals simp

@[simp] theorem State.configure_frame (image : List Byte) (straps : BitVec 6) (s : State) :
    (s.configure image straps).pending = s.pending ∧ (s.configure image straps).svl = s.svl ∧
    (s.configure image straps).tlu = s.tlu ∧ (s.configure image straps).smu = s.smu ∧
    (s.configure image straps).asp = s.asp ∧ (s.configure image straps).rsp = s.rsp ∧
    (s.configure image straps).cmu = s.cmu ∧ (s.configure image straps).lcu = s.lcu ∧
    (s.configure image straps).bfs = s.bfs := by
  unfold State.configure
  try dsimp only
  all_goals simp

@[simp] theorem State.firstFrame_frame (fs : FrameStart) (s : State) :
    (s.firstFrame fs).pending = s.pending ∧ (s.firstFrame fs).cfl = s.cfl := by
  unfold State.firstFrame
  try dsimp only
  all_goals simp

end Sys2Proof.Machine
end

