-- ==== Sys2Proof/Laws/Ops.lean ====
section
/-!
SUPPORT. Laws/Ops.lean: what the shared operations do: counters, levels, debouncers, timers, check bytes, marks, port
bits, and taking what is due.
-/

namespace Sys2Proof
open Machine

/-! ### Levels -/

@[simp] theorem Level.rank_ofRank (n : Nat) : (Level.ofRank n).rank = n := by cases n <;> rfl

@[simp] theorem Level.ofRank_rank (l : Level) : Level.ofRank l.rank = l := by cases l <;> rfl

theorem Level.rank_injective {a b : Level} (h : a.rank = b.rank) : a = b := by
  rw [← a.ofRank_rank, ← b.ofRank_rank, h]

@[simp] theorem Level.distance_self (l : Level) : l.distance l = 0 := by simp [Level.distance]

/-- A step toward a target that has not been reached brings it one nearer (R146). -/
theorem Level.distance_toward {cur target : Level} (h : cur ≠ target) :
    (cur.toward target).distance target + 1 = cur.distance target := by
  have hr : cur.rank ≠ target.rank := fun e => h (Level.rank_injective e)
  simp only [Level.toward, Level.distance]
  split
  · simp only [Level.rank_ofRank]; omega
  · split
    · simp only [Level.rank_ofRank]; omega
    · omega

namespace Machine

/-! ### Counters (R206) -/

theorem Counter.idx_injective {a b : Counter} (h : a.idx = b.idx) : a = b := by
  cases a <;> cases b <;> first | rfl | exact absurd h (by decide)

theorem satInc_full : satInc 0xFFFF = 0xFFFF := rfl

theorem satInc_of_ne {c : BitVec 16} (h : c ≠ 0xFFFF) : satInc c = c + 1 := if_neg h

theorem State.counter_bump (s : State) (c d : Counter) :
    (s.bump c).counter d = if c = d then satInc (s.counter d) else s.counter d := by
  unfold State.counter State.bump
  rw [Table.get_modify]
  by_cases h : c = d
  · simp [h]
  · have : c.idx ≠ d.idx := fun e => h (Counter.idx_injective e)
    simp [h, this]

@[simp] theorem State.bumpN_zero (c : Counter) (s : State) : s.bumpN c 0 = s := rfl

@[simp] theorem State.bumpN_one (c : Counter) (s : State) : s.bumpN c 1 = s.bump c := rfl

/-! ### Debouncers and timers -/

theorem Debouncer.sample_same (d : Debouncer) : d.sample d.active = { d with run := 0 } := by simp [Debouncer.sample]

theorem Debouncer.sample_differs {d : Debouncer} {l : Bool} (h : l ≠ d.active) :
    d.sample l = { d with run := min (d.run + 1) 3 } := by simp [Debouncer.sample, h]

@[simp] theorem Debouncer.accept_not_due (d : Debouncer) : d.accept.due = false := by
  simp [Debouncer.accept, Debouncer.due]

@[simp] theorem expired_none : expired none = false := rfl

@[simp] theorem expired_zero : expired (some 0) = true := rfl

@[simp] theorem expired_succ (n : Nat) : expired (some (n + 1)) = false := rfl

@[simp] theorem countDown_none : countDown none = none := rfl

@[simp] theorem countDown_some (n : Nat) : countDown (some n) = some (n - 1) := rfl

/-! ### Check bytes -/

theorem xorAll_append (a b : List Byte) : xorAll (a ++ b) = xorAll a ^^^ xorAll b := by
  have key : ∀ (l : List Byte) (x : Byte), l.foldl (· ^^^ ·) x = x ^^^ l.foldl (· ^^^ ·) 0 := by
    intro l
    induction l with
    | nil => simp
    | cons c l ih =>
      intro x
      rw [List.foldl_cons, ih, List.foldl_cons, ih (0 ^^^ c)]
      simp [BitVec.xor_assoc]
  rw [xorAll, List.foldl_append, key]
  rfl

theorem xorAll_withCheck (l : List Byte) : xorAll (withCheck l) = 0 := by
  simp [withCheck, xorAll]

/-! ### Taking what is due -/

theorem State.settle_of_nothingDue {s : State} (h : s.nothingDue) : s.settle = s := by
  unfold State.settle
  rw [h]
  rfl

@[simp] theorem takeAll_nil (s : State) : takeAll [] s = s := rfl

theorem takeAll_cons (e : Event) (es : List Event) (s : State) : takeAll (e :: es) s = takeAll es (takeEvent e s) := rfl

/-! ### Marks (R3) -/

theorem markForm_eq_none {run : Nat} : markForm run = none ↔ run < 12 := by
  unfold markForm; split <;> [skip; split] <;> simp <;> omega

theorem markForm_eq_f {run : Nat} : markForm run = some .f ↔ run = 12 := by
  unfold markForm; split <;> [skip; split] <;> simp <;> omega

theorem markForm_eq_c {run : Nat} : markForm run = some .c ↔ 13 ≤ run := by
  unfold markForm; split <;> [skip; split] <;> simp <;> omega

/-- R3: marks driven together are read as C when one of them is, and as F when each is F. -/
theorem markForm_together (a b : Nat) :
    (markForm (max a b) = some .c ↔ markForm a = some .c ∨ markForm b = some .c) ∧
      (markForm a = some .f → markForm b = some .f → markForm (max a b) = some .f) := by
  simp only [markForm_eq_c, markForm_eq_f]; omega

/-! ### Port bits (R44, R45) -/

theorem State.portBits_closed {s : State} (h : s.asp.portOpen = false) (bits : List Bool) : s.portBits bits = s := by
  simp [State.portBits, h]

/-! ### The screen port (R192) -/

/-- An edge places a byte exactly when SRDY is high, and with SSOR high exactly for the first byte. -/
theorem Feed.edge_eq (r : List Byte) (f : Feed) (ready : Bool) :
    (f.edge r ready).sent = f.sent + ready.toNat ∧ (f.edge r ready).sdat = (if ready then r.getD f.sent 0 else f.sdat) ∧
      (f.edge r ready).ssor = (ready && decide (f.sent = 0)) := by
  cases ready <;> simp [Feed.edge]

@[simp] theorem Feed.send_nil (r : List Byte) (rest : List (List Byte)) (f : Feed) : f.send r rest [] = f := rfl

end Machine
end Sys2Proof
end

