-- ==== Sys2Proof/Laws/Counters.lean ====
section
/-!
SUPPORT. Laws/Counters.lean: the operations of a frame start, a map update and a slot completion leave the Trunk Line Unit's
four counters (the first four of R206's table) as they were.
-/

namespace Sys2Proof.Machine

/-- The counters that R206 gives the TLU. -/
def ofTrunk : Counter → Bool
  | .earlyMarks | .ignoredMarks | .cycleSlips | .linkDrops => true
  | _ => false

theorem bump_trunk {c : Counter} (s : State) (h : ofTrunk c = false) :
    (s.bump c).counters.get 0 = s.counters.get 0 ∧ (s.bump c).counters.get 1 = s.counters.get 1 ∧
    (s.bump c).counters.get 2 = s.counters.get 2 ∧ (s.bump c).counters.get 3 = s.counters.get 3 := by
  cases c <;> first | exact absurd h (by decide) | simp [Counter.idx]

theorem bumpN_trunk {c : Counter} (n : Nat) (s : State) (h : ofTrunk c = false) :
    (s.bumpN c n).counters.get 0 = s.counters.get 0 ∧ (s.bumpN c n).counters.get 1 = s.counters.get 1 ∧
    (s.bumpN c n).counters.get 2 = s.counters.get 2 ∧ (s.bumpN c n).counters.get 3 = s.counters.get 3 := by
  induction n with
  | zero => simp [State.bumpN]
  | succ n ih => simp only [State.bumpN, bump_trunk _ h, ih, and_self]

@[simp] theorem bump_trunk_undescribed (s : State) :
    (s.bump .undescribed).counters.get 0 = s.counters.get 0 ∧ (s.bump .undescribed).counters.get 1 = s.counters.get 1 ∧
    (s.bump .undescribed).counters.get 2 = s.counters.get 2 ∧ (s.bump .undescribed).counters.get 3 = s.counters.get 3 :=
  bump_trunk s rfl

@[simp] theorem bump_trunk_tableFull (s : State) :
    (s.bump .tableFull).counters.get 0 = s.counters.get 0 ∧ (s.bump .tableFull).counters.get 1 = s.counters.get 1 ∧
    (s.bump .tableFull).counters.get 2 = s.counters.get 2 ∧ (s.bump .tableFull).counters.get 3 = s.counters.get 3 :=
  bump_trunk s rfl

@[simp] theorem bump_trunk_sourceUnderruns (s : State) :
    (s.bump .sourceUnderruns).counters.get 0 = s.counters.get 0 ∧ (s.bump .sourceUnderruns).counters.get 1 = s.counters.get 1 ∧
    (s.bump .sourceUnderruns).counters.get 2 = s.counters.get 2 ∧ (s.bump .sourceUnderruns).counters.get 3 = s.counters.get 3 :=
  bump_trunk s rfl

@[simp] theorem bump_trunk_recordCheckErrors (s : State) :
    (s.bump .recordCheckErrors).counters.get 0 = s.counters.get 0 ∧ (s.bump .recordCheckErrors).counters.get 1 = s.counters.get 1 ∧
    (s.bump .recordCheckErrors).counters.get 2 = s.counters.get 2 ∧ (s.bump .recordCheckErrors).counters.get 3 = s.counters.get 3 :=
  bump_trunk s rfl

@[simp] theorem bump_trunk_parityErrors (s : State) :
    (s.bump .parityErrors).counters.get 0 = s.counters.get 0 ∧ (s.bump .parityErrors).counters.get 1 = s.counters.get 1 ∧
    (s.bump .parityErrors).counters.get 2 = s.counters.get 2 ∧ (s.bump .parityErrors).counters.get 3 = s.counters.get 3 :=
  bump_trunk s rfl

@[simp] theorem bump_trunk_shortRecords (s : State) :
    (s.bump .shortRecords).counters.get 0 = s.counters.get 0 ∧ (s.bump .shortRecords).counters.get 1 = s.counters.get 1 ∧
    (s.bump .shortRecords).counters.get 2 = s.counters.get 2 ∧ (s.bump .shortRecords).counters.get 3 = s.counters.get 3 :=
  bump_trunk s rfl

@[simp] theorem bump_trunk_overlongRecords (s : State) :
    (s.bump .overlongRecords).counters.get 0 = s.counters.get 0 ∧ (s.bump .overlongRecords).counters.get 1 = s.counters.get 1 ∧
    (s.bump .overlongRecords).counters.get 2 = s.counters.get 2 ∧ (s.bump .overlongRecords).counters.get 3 = s.counters.get 3 :=
  bump_trunk s rfl

@[simp] theorem bump_trunk_queueDrops (s : State) :
    (s.bump .queueDrops).counters.get 0 = s.counters.get 0 ∧ (s.bump .queueDrops).counters.get 1 = s.counters.get 1 ∧
    (s.bump .queueDrops).counters.get 2 = s.counters.get 2 ∧ (s.bump .queueDrops).counters.get 3 = s.counters.get 3 :=
  bump_trunk s rfl

@[simp] theorem bump_trunk_contentionLosses (s : State) :
    (s.bump .contentionLosses).counters.get 0 = s.counters.get 0 ∧ (s.bump .contentionLosses).counters.get 1 = s.counters.get 1 ∧
    (s.bump .contentionLosses).counters.get 2 = s.counters.get 2 ∧ (s.bump .contentionLosses).counters.get 3 = s.counters.get 3 :=
  bump_trunk s rfl

@[simp] theorem bump_trunk_slotsLost (s : State) :
    (s.bump .slotsLost).counters.get 0 = s.counters.get 0 ∧ (s.bump .slotsLost).counters.get 1 = s.counters.get 1 ∧
    (s.bump .slotsLost).counters.get 2 = s.counters.get 2 ∧ (s.bump .slotsLost).counters.get 3 = s.counters.get 3 :=
  bump_trunk s rfl

@[simp] theorem bump_trunk_dataCollisions (s : State) :
    (s.bump .dataCollisions).counters.get 0 = s.counters.get 0 ∧ (s.bump .dataCollisions).counters.get 1 = s.counters.get 1 ∧
    (s.bump .dataCollisions).counters.get 2 = s.counters.get 2 ∧ (s.bump .dataCollisions).counters.get 3 = s.counters.get 3 :=
  bump_trunk s rfl

@[simp] theorem bumpN_trunk_badMessages (n : Nat) (s : State) :
    (s.bumpN .badMessages n).counters.get 0 = s.counters.get 0 ∧ (s.bumpN .badMessages n).counters.get 1 = s.counters.get 1 ∧
    (s.bumpN .badMessages n).counters.get 2 = s.counters.get 2 ∧ (s.bumpN .badMessages n).counters.get 3 = s.counters.get 3 :=
  bumpN_trunk n s rfl

@[simp] theorem bumpN_trunk_laneDenials (n : Nat) (s : State) :
    (s.bumpN .laneDenials n).counters.get 0 = s.counters.get 0 ∧ (s.bumpN .laneDenials n).counters.get 1 = s.counters.get 1 ∧
    (s.bumpN .laneDenials n).counters.get 2 = s.counters.get 2 ∧ (s.bumpN .laneDenials n).counters.get 3 = s.counters.get 3 :=
  bumpN_trunk n s rfl

@[simp] theorem bumpN_trunk_queueDrops (n : Nat) (s : State) :
    (s.bumpN .queueDrops n).counters.get 0 = s.counters.get 0 ∧ (s.bumpN .queueDrops n).counters.get 1 = s.counters.get 1 ∧
    (s.bumpN .queueDrops n).counters.get 2 = s.counters.get 2 ∧ (s.bumpN .queueDrops n).counters.get 3 = s.counters.get 3 :=
  bumpN_trunk n s rfl

@[simp] theorem bumpN_trunk_duplicateTags (n : Nat) (s : State) :
    (s.bumpN .duplicateTags n).counters.get 0 = s.counters.get 0 ∧ (s.bumpN .duplicateTags n).counters.get 1 = s.counters.get 1 ∧
    (s.bumpN .duplicateTags n).counters.get 2 = s.counters.get 2 ∧ (s.bumpN .duplicateTags n).counters.get 3 = s.counters.get 3 :=
  bumpN_trunk n s rfl

@[simp] theorem foldl_get {α : Type} (i : Fin 24) (f : State → α → State)
    (h : ∀ s a, (f s a).counters.get i = s.counters.get i) (l : List α) (s : State) :
    (l.foldl f s).counters.get i = s.counters.get i := by
  induction l generalizing s with
  | nil => rfl
  | cons a l ih => rw [List.foldl_cons, ih, h]

section trunk
variable (s : State)

@[simp] theorem State.receiverTake_trunk (slot : Nat) (byte : Byte) (mark : Bool) (i : Fin 4) :
    (s.receiverTake slot byte mark i).counters.get 0 = s.counters.get 0 ∧ (s.receiverTake slot byte mark i).counters.get 1 = s.counters.get 1 ∧
    (s.receiverTake slot byte mark i).counters.get 2 = s.counters.get 2 ∧ (s.receiverTake slot byte mark i).counters.get 3 = s.counters.get 3 := by
  unfold State.receiverTake
  try dsimp only
  repeat' split
  all_goals simp [-State.bump_counters]

@[simp] theorem State.receiversTake_trunk (slot : Nat) (byte : Byte) (mark : Bool) :
    (s.receiversTake slot byte mark).counters.get 0 = s.counters.get 0 ∧ (s.receiversTake slot byte mark).counters.get 1 = s.counters.get 1 ∧
    (s.receiversTake slot byte mark).counters.get 2 = s.counters.get 2 ∧ (s.receiversTake slot byte mark).counters.get 3 = s.counters.get 3 := by
  unfold State.receiversTake
  try dsimp only
  all_goals simp [-State.bump_counters]

@[simp] theorem State.replaceMap_trunk :
    s.replaceMap.counters.get 0 = s.counters.get 0 ∧ s.replaceMap.counters.get 1 = s.counters.get 1 ∧
    s.replaceMap.counters.get 2 = s.counters.get 2 ∧ s.replaceMap.counters.get 3 = s.counters.get 3 := by
  unfold State.replaceMap
  try dsimp only
  all_goals simp [-State.bump_counters]

@[simp] theorem State.settleHolding_trunk (h : Fin 11) :
    (s.settleHolding h).counters.get 0 = s.counters.get 0 ∧ (s.settleHolding h).counters.get 1 = s.counters.get 1 ∧
    (s.settleHolding h).counters.get 2 = s.counters.get 2 ∧ (s.settleHolding h).counters.get 3 = s.counters.get 3 := by
  unfold State.settleHolding
  try dsimp only
  repeat' split
  all_goals simp [-State.bump_counters]

@[simp] theorem State.smuMapUpdate_trunk :
    s.smuMapUpdate.counters.get 0 = s.counters.get 0 ∧ s.smuMapUpdate.counters.get 1 = s.counters.get 1 ∧
    s.smuMapUpdate.counters.get 2 = s.counters.get 2 ∧ s.smuMapUpdate.counters.get 3 = s.counters.get 3 := by
  unfold State.smuMapUpdate
  try dsimp only
  all_goals simp [-State.bump_counters]

@[simp] theorem State.collide_trunk (h : Fin 11) :
    (s.collide h).counters.get 0 = s.counters.get 0 ∧ (s.collide h).counters.get 1 = s.counters.get 1 ∧
    (s.collide h).counters.get 2 = s.counters.get 2 ∧ (s.collide h).counters.get 3 = s.counters.get 3 := by
  unfold State.collide
  try dsimp only
  repeat' split
  all_goals simp [-State.bump_counters]

@[simp] theorem State.placeCard_trunk (b : Fin 4) (r : List Byte) :
    (s.placeCard b r).counters.get 0 = s.counters.get 0 ∧ (s.placeCard b r).counters.get 1 = s.counters.get 1 ∧
    (s.placeCard b r).counters.get 2 = s.counters.get 2 ∧ (s.placeCard b r).counters.get 3 = s.counters.get 3 := by
  unfold State.placeCard
  try dsimp only
  all_goals simp [-State.bump_counters]

@[simp] theorem State.showBase_trunk (b : Fin 4) (c : BaseCard) :
    (s.showBase b c).counters.get 0 = s.counters.get 0 ∧ (s.showBase b c).counters.get 1 = s.counters.get 1 ∧
    (s.showBase b c).counters.get 2 = s.counters.get 2 ∧ (s.showBase b c).counters.get 3 = s.counters.get 3 := by
  unfold State.showBase
  try dsimp only
  repeat' split
  all_goals simp [-State.bump_counters]

@[simp] theorem State.dropRecord_trunk (b : Fin 4) :
    (s.dropRecord b).counters.get 0 = s.counters.get 0 ∧ (s.dropRecord b).counters.get 1 = s.counters.get 1 ∧
    (s.dropRecord b).counters.get 2 = s.counters.get 2 ∧ (s.dropRecord b).counters.get 3 = s.counters.get 3 := by
  unfold State.dropRecord
  try dsimp only
  repeat' split
  all_goals simp [-State.bump_counters]

@[simp] theorem State.appendRecord_trunk (b : Fin 4) (r : List Byte) :
    (s.appendRecord b r).counters.get 0 = s.counters.get 0 ∧ (s.appendRecord b r).counters.get 1 = s.counters.get 1 ∧
    (s.appendRecord b r).counters.get 2 = s.counters.get 2 ∧ (s.appendRecord b r).counters.get 3 = s.counters.get 3 := by
  unfold State.appendRecord
  try dsimp only
  repeat' split
  all_goals simp [-State.bump_counters]

@[simp] theorem State.beginAtKey_trunk (b : Fin 4) (r : List Byte) :
    (s.beginAtKey b r).counters.get 0 = s.counters.get 0 ∧ (s.beginAtKey b r).counters.get 1 = s.counters.get 1 ∧
    (s.beginAtKey b r).counters.get 2 = s.counters.get 2 ∧ (s.beginAtKey b r).counters.get 3 = s.counters.get 3 := by
  unfold State.beginAtKey
  try dsimp only
  repeat' split
  all_goals simp [-State.bump_counters]

@[simp] theorem State.endFeed_trunk (b : Fin 4) :
    (s.endFeed b).counters.get 0 = s.counters.get 0 ∧ (s.endFeed b).counters.get 1 = s.counters.get 1 ∧
    (s.endFeed b).counters.get 2 = s.counters.get 2 ∧ (s.endFeed b).counters.get 3 = s.counters.get 3 := by
  unfold State.endFeed
  try dsimp only
  all_goals simp [-State.bump_counters]

@[simp] theorem State.choiceNotice_trunk (b : Fin 4) (ch : Choice) (cause : SwitchCause) :
    (s.choiceNotice b ch cause).counters.get 0 = s.counters.get 0 ∧ (s.choiceNotice b ch cause).counters.get 1 = s.counters.get 1 ∧
    (s.choiceNotice b ch cause).counters.get 2 = s.counters.get 2 ∧ (s.choiceNotice b ch cause).counters.get 3 = s.counters.get 3 := by
  unfold State.choiceNotice
  try dsimp only
  repeat' split
  all_goals simp [-State.bump_counters]

@[simp] theorem State.showOverlay_trunk (b : Fin 4) (o : Overlay) :
    (s.showOverlay b o).counters.get 0 = s.counters.get 0 ∧ (s.showOverlay b o).counters.get 1 = s.counters.get 1 ∧
    (s.showOverlay b o).counters.get 2 = s.counters.get 2 ∧ (s.showOverlay b o).counters.get 3 = s.counters.get 3 := by
  unfold State.showOverlay
  try dsimp only
  all_goals simp [-State.bump_counters]

@[simp] theorem State.sfuFollowChange_trunk (b : Fin 4) (new : Follow) :
    (s.sfuFollowChange b new).counters.get 0 = s.counters.get 0 ∧ (s.sfuFollowChange b new).counters.get 1 = s.counters.get 1 ∧
    (s.sfuFollowChange b new).counters.get 2 = s.counters.get 2 ∧ (s.sfuFollowChange b new).counters.get 3 = s.counters.get 3 := by
  unfold State.sfuFollowChange
  try dsimp only
  repeat' split
  all_goals simp [-State.bump_counters]

@[simp] theorem State.publish_trunk (b : Fin 4) (new : Follow) :
    (s.publish b new).counters.get 0 = s.counters.get 0 ∧ (s.publish b new).counters.get 1 = s.counters.get 1 ∧
    (s.publish b new).counters.get 2 = s.counters.get 2 ∧ (s.publish b new).counters.get 3 = s.counters.get 3 := by
  unfold State.publish
  try dsimp only
  all_goals simp [-State.bump_counters]

@[simp] theorem State.endFollows_trunk (i : Fin 16) :
    (s.endFollows i).counters.get 0 = s.counters.get 0 ∧ (s.endFollows i).counters.get 1 = s.counters.get 1 ∧
    (s.endFollows i).counters.get 2 = s.counters.get 2 ∧ (s.endFollows i).counters.get 3 = s.counters.get 3 := by
  unfold State.endFollows
  refine ⟨foldl_get _ _ ?_ _ _, foldl_get _ _ ?_ _ _, foldl_get _ _ ?_ _ _, foldl_get _ _ ?_ _ _⟩ <;>
    (intro s i; split <;> simp)

@[simp] theorem State.freeNow_trunk (i : Fin 16) :
    (s.freeNow i).counters.get 0 = s.counters.get 0 ∧ (s.freeNow i).counters.get 1 = s.counters.get 1 ∧
    (s.freeNow i).counters.get 2 = s.counters.get 2 ∧ (s.freeNow i).counters.get 3 = s.counters.get 3 := by
  unfold State.freeNow
  try dsimp only
  all_goals simp [-State.bump_counters]

@[simp] theorem State.followBerth_trunk (b : Fin 4) :
    (s.followBerth b).counters.get 0 = s.counters.get 0 ∧ (s.followBerth b).counters.get 1 = s.counters.get 1 ∧
    (s.followBerth b).counters.get 2 = s.counters.get 2 ∧ (s.followBerth b).counters.get 3 = s.counters.get 3 := by
  unfold State.followBerth
  try dsimp only
  repeat' split
  all_goals simp [-State.bump_counters]

@[simp] theorem State.updateEntry_trunk (heard : List Byte) (i : Fin 16) :
    (s.updateEntry heard i).counters.get 0 = s.counters.get 0 ∧ (s.updateEntry heard i).counters.get 1 = s.counters.get 1 ∧
    (s.updateEntry heard i).counters.get 2 = s.counters.get 2 ∧ (s.updateEntry heard i).counters.get 3 = s.counters.get 3 := by
  unfold State.updateEntry
  try dsimp only
  repeat' split
  all_goals simp [-State.bump_counters]

@[simp] theorem State.allocateHeard_trunk (t : Byte) :
    (s.allocateHeard t).counters.get 0 = s.counters.get 0 ∧ (s.allocateHeard t).counters.get 1 = s.counters.get 1 ∧
    (s.allocateHeard t).counters.get 2 = s.counters.get 2 ∧ (s.allocateHeard t).counters.get 3 = s.counters.get 3 := by
  unfold State.allocateHeard
  try dsimp only
  repeat' split
  all_goals simp [-State.bump_counters]

@[simp] theorem State.evaluateTable_trunk :
    s.evaluateTable.counters.get 0 = s.counters.get 0 ∧ s.evaluateTable.counters.get 1 = s.counters.get 1 ∧
    s.evaluateTable.counters.get 2 = s.counters.get 2 ∧ s.evaluateTable.counters.get 3 = s.counters.get 3 := by
  unfold State.evaluateTable
  try dsimp only
  all_goals simp [-State.bump_counters]

@[simp] theorem State.evaluate_trunk :
    s.evaluate.counters.get 0 = s.counters.get 0 ∧ s.evaluate.counters.get 1 = s.counters.get 1 ∧
    s.evaluate.counters.get 2 = s.counters.get 2 ∧ s.evaluate.counters.get 3 = s.counters.get 3 := by
  unfold State.evaluate
  try dsimp only
  all_goals simp [-State.bump_counters]

@[simp] theorem State.anuTeardown_trunk :
    s.anuTeardown.counters.get 0 = s.counters.get 0 ∧ s.anuTeardown.counters.get 1 = s.counters.get 1 ∧
    s.anuTeardown.counters.get 2 = s.counters.get 2 ∧ s.anuTeardown.counters.get 3 = s.counters.get 3 := by
  unfold State.anuTeardown
  refine ⟨foldl_get _ _ ?_ _ _, foldl_get _ _ ?_ _ _, foldl_get _ _ ?_ _ _, foldl_get _ _ ?_ _ _⟩ <;>
    (intro s i; split <;> simp)

@[simp] theorem State.grantPoint_trunk :
    s.grantPoint.counters.get 0 = s.counters.get 0 ∧ s.grantPoint.counters.get 1 = s.counters.get 1 ∧
    s.grantPoint.counters.get 2 = s.counters.get 2 ∧ s.grantPoint.counters.get 3 = s.counters.get 3 := by
  unfold State.grantPoint
  try dsimp only
  all_goals simp [-State.bump_counters]

@[simp] theorem State.laneTake_trunk (slot : Nat) (byte : Byte) (ninth : Bool) (i : Fin 24) :
    (s.laneTake slot byte ninth i).counters.get 0 = s.counters.get 0 ∧ (s.laneTake slot byte ninth i).counters.get 1 = s.counters.get 1 ∧
    (s.laneTake slot byte ninth i).counters.get 2 = s.counters.get 2 ∧ (s.laneTake slot byte ninth i).counters.get 3 = s.counters.get 3 := by
  unfold State.laneTake
  try dsimp only
  repeat' split
  all_goals simp [-State.bump_counters]

@[simp] theorem State.asmOut_trunk (tag : Byte) (o : AsmOut) :
    (s.asmOut tag o).counters.get 0 = s.counters.get 0 ∧ (s.asmOut tag o).counters.get 1 = s.counters.get 1 ∧
    (s.asmOut tag o).counters.get 2 = s.counters.get 2 ∧ (s.asmOut tag o).counters.get 3 = s.counters.get 3 := by
  unfold State.asmOut
  try dsimp only
  repeat' split
  all_goals simp [-State.bump_counters]

@[simp] theorem State.asmTake_trunk (slot : Nat) (byte : Byte) (mark : Bool) (i : Fin 8) :
    (s.asmTake slot byte mark i).counters.get 0 = s.counters.get 0 ∧ (s.asmTake slot byte mark i).counters.get 1 = s.counters.get 1 ∧
    (s.asmTake slot byte mark i).counters.get 2 = s.counters.get 2 ∧ (s.asmTake slot byte mark i).counters.get 3 = s.counters.get 3 := by
  unfold State.asmTake
  try dsimp only
  repeat' split
  all_goals simp [-State.bump_counters]

@[simp] theorem State.lcuTake_trunk (slot : Nat) (byte : Byte) (ninth : Bool) :
    (s.lcuTake slot byte ninth).counters.get 0 = s.counters.get 0 ∧ (s.lcuTake slot byte ninth).counters.get 1 = s.counters.get 1 ∧
    (s.lcuTake slot byte ninth).counters.get 2 = s.counters.get 2 ∧ (s.lcuTake slot byte ninth).counters.get 3 = s.counters.get 3 := by
  unfold State.lcuTake
  try dsimp only
  all_goals simp [-State.bump_counters]

@[simp] theorem State.asmAbandoned_trunk (done : Nat) (i : Fin 8) :
    (s.asmAbandoned done i).counters.get 0 = s.counters.get 0 ∧ (s.asmAbandoned done i).counters.get 1 = s.counters.get 1 ∧
    (s.asmAbandoned done i).counters.get 2 = s.counters.get 2 ∧ (s.asmAbandoned done i).counters.get 3 = s.counters.get 3 := by
  unfold State.asmAbandoned
  try dsimp only
  repeat' split
  all_goals simp [-State.bump_counters]

@[simp] theorem State.lcuFrameEnd_trunk (abandoned : Bool) (done : Nat) :
    (s.lcuFrameEnd abandoned done).counters.get 0 = s.counters.get 0 ∧ (s.lcuFrameEnd abandoned done).counters.get 1 = s.counters.get 1 ∧
    (s.lcuFrameEnd abandoned done).counters.get 2 = s.counters.get 2 ∧ (s.lcuFrameEnd abandoned done).counters.get 3 = s.counters.get 3 := by
  unfold State.lcuFrameEnd
  try dsimp only
  repeat' split
  all_goals simp [-State.bump_counters]

@[simp] theorem State.channelFeed_trunk (c : Fin 8) :
    (s.channelFeed c).counters.get 0 = s.counters.get 0 ∧ (s.channelFeed c).counters.get 1 = s.counters.get 1 ∧
    (s.channelFeed c).counters.get 2 = s.counters.get 2 ∧ (s.channelFeed c).counters.get 3 = s.counters.get 3 := by
  unfold State.channelFeed
  try dsimp only
  repeat' split
  all_goals simp [-State.bump_counters]

@[simp] theorem State.aspFrameStart_trunk :
    s.aspFrameStart.counters.get 0 = s.counters.get 0 ∧ s.aspFrameStart.counters.get 1 = s.counters.get 1 ∧
    s.aspFrameStart.counters.get 2 = s.counters.get 2 ∧ s.aspFrameStart.counters.get 3 = s.counters.get 3 := by
  unfold State.aspFrameStart
  try dsimp only
  repeat' split
  all_goals simp [-State.bump_counters]

@[simp] theorem State.completeSwitch_trunk (b : Fin 4) (ch : Choice) (cause : SwitchCause) :
    (s.completeSwitch b ch cause).counters.get 0 = s.counters.get 0 ∧ (s.completeSwitch b ch cause).counters.get 1 = s.counters.get 1 ∧
    (s.completeSwitch b ch cause).counters.get 2 = s.counters.get 2 ∧ (s.completeSwitch b ch cause).counters.get 3 = s.counters.get 3 := by
  unfold State.completeSwitch
  try dsimp only
  all_goals simp [-State.bump_counters]

@[simp] theorem State.completeWithoutVideo_trunk (b : Fin 4) :
    (s.completeWithoutVideo b).counters.get 0 = s.counters.get 0 ∧ (s.completeWithoutVideo b).counters.get 1 = s.counters.get 1 ∧
    (s.completeWithoutVideo b).counters.get 2 = s.counters.get 2 ∧ (s.completeWithoutVideo b).counters.get 3 = s.counters.get 3 := by
  unfold State.completeWithoutVideo
  try dsimp only
  repeat' split
  all_goals simp [-State.bump_counters]

@[simp] theorem State.bcuCompletions_trunk :
    s.bcuCompletions.counters.get 0 = s.counters.get 0 ∧ s.bcuCompletions.counters.get 1 = s.counters.get 1 ∧
    s.bcuCompletions.counters.get 2 = s.counters.get 2 ∧ s.bcuCompletions.counters.get 3 = s.counters.get 3 := by
  unfold State.bcuCompletions
  try dsimp only
  all_goals simp [-State.bump_counters]

@[simp] theorem State.feedFrame_trunk (e : FrameEnd) (o : FrameOrder) :
    (s.feedFrame e o).counters.get 0 = s.counters.get 0 ∧ (s.feedFrame e o).counters.get 1 = s.counters.get 1 ∧
    (s.feedFrame e o).counters.get 2 = s.counters.get 2 ∧ (s.feedFrame e o).counters.get 3 = s.counters.get 3 := by
  unfold State.feedFrame
  try dsimp only
  repeat' split
  all_goals simp [-State.bump_counters]

@[simp] theorem State.tablesTick_trunk (listen : Bool) :
    (s.tablesTick listen).counters.get 0 = s.counters.get 0 ∧ (s.tablesTick listen).counters.get 1 = s.counters.get 1 ∧
    (s.tablesTick listen).counters.get 2 = s.counters.get 2 ∧ (s.tablesTick listen).counters.get 3 = s.counters.get 3 := by
  unfold State.tablesTick
  try dsimp only
  repeat' split
  all_goals simp [-State.bump_counters]

end trunk

end Sys2Proof.Machine
end

