-- ==== Sys2Proof/Laws/PerInstr.lean ====
section
/-!
SUPPORT. Laws/PerInstr.lean: what is said of every command as syntax: which operands are well formed, and that no word
spells it.
-/

namespace Sys2Proof.Laws.Operands

/-- The operands that the command's lines can carry (R4, R196); every other operand is in range by its type. -/
def carried : Instr → Prop
  | .loadingEnd image _ _ => image.length = 128
  | .markRecognised _ start _ => start ≤ 495
  | _ => True

/-- A command is well formed exactly when its operands can be carried, and no word spells it. -/
def Statement (i : Instr) : Prop := (i.wellFormed = true ↔ carried i) ∧ ∀ n w, decodeTableWord n w ≠ some i

theorem deviceReset : Statement .deviceReset := ⟨⟨fun _ => trivial, fun _ => rfl⟩, nofun⟩
theorem loadingStart : Statement .loadingStart := ⟨⟨fun _ => trivial, fun _ => rfl⟩, nofun⟩
theorem loadingEnd (image : List Byte) (straps : BitVec 6) (fs : FrameStart) : Statement (.loadingEnd image straps fs) := ⟨decide_eq_true_iff, nofun⟩
theorem frameTimerExpiry (g : GuardReading) : Statement (.frameTimerExpiry g) := ⟨⟨fun _ => trivial, fun _ => rfl⟩, nofun⟩
theorem flywheel (fs : FlywheelStart) : Statement (.flywheel fs) := ⟨⟨fun _ => trivial, fun _ => rfl⟩, nofun⟩
theorem markRecognised (run start : Nat) (fs : FrameStart) : Statement (.markRecognised run start fs) := ⟨decide_eq_true_iff, nofun⟩
theorem framesSinceForeignExpiry : Statement .framesSinceForeignExpiry := ⟨⟨fun _ => trivial, fun _ => rfl⟩, nofun⟩
theorem framesInListenExpiry : Statement .framesInListenExpiry := ⟨⟨fun _ => trivial, fun _ => rfl⟩, nofun⟩
theorem slotCompletion (k : Fin 40) (line : SlotBits) (wait : Fin 13) : Statement (.slotCompletion k line wait) := ⟨⟨fun _ => trivial, fun _ => rfl⟩, nofun⟩
theorem fadingExpiry (i : Fin 16) : Statement (.fadingExpiry i) := ⟨⟨fun _ => trivial, fun _ => rfl⟩, nofun⟩
theorem descriptionAgeExpiry (i : Fin 16) : Statement (.descriptionAgeExpiry i) := ⟨⟨fun _ => trivial, fun _ => rfl⟩, nofun⟩
theorem entry0FadeExpiry : Statement .entry0FadeExpiry := ⟨⟨fun _ => trivial, fun _ => rfl⟩, nofun⟩
theorem missCountLimit (l : Fin 24) : Statement (.missCountLimit l) := ⟨⟨fun _ => trivial, fun _ => rfl⟩, nofun⟩
theorem recordDelivered : Statement .recordDelivered := ⟨⟨fun _ => trivial, fun _ => rfl⟩, nofun⟩
theorem present : Statement .present := ⟨⟨fun _ => trivial, fun _ => rfl⟩, nofun⟩
theorem withdraw : Statement .withdraw := ⟨⟨fun _ => trivial, fun _ => rfl⟩, nofun⟩
theorem berthSet : Statement .berthSet := ⟨⟨fun _ => trivial, fun _ => rfl⟩, nofun⟩
theorem zoneMode : Statement .zoneMode := ⟨⟨fun _ => trivial, fun _ => rfl⟩, nofun⟩
theorem card : Statement .card := ⟨⟨fun _ => trivial, fun _ => rfl⟩, nofun⟩
theorem wakeMissed : Statement .wakeMissed := ⟨⟨fun _ => trivial, fun _ => rfl⟩, nofun⟩
theorem wakeClear : Statement .wakeClear := ⟨⟨fun _ => trivial, fun _ => rfl⟩, nofun⟩
theorem secondsPrescalerExpiry : Statement .secondsPrescalerExpiry := ⟨⟨fun _ => trivial, fun _ => rfl⟩, nofun⟩
theorem backoffExpiry (h : Fin 11) : Statement (.backoffExpiry h) := ⟨⟨fun _ => trivial, fun _ => rfl⟩, nofun⟩
theorem portFrameComplete (bits : List Bool) : Statement (.portFrameComplete bits) := ⟨⟨fun _ => trivial, fun _ => rfl⟩, nofun⟩
theorem afsPulse : Statement .afsPulse := ⟨⟨fun _ => trivial, fun _ => rfl⟩, nofun⟩
theorem talkActivation (c : Fin 4) : Statement (.talkActivation c) := ⟨⟨fun _ => trivial, fun _ => rfl⟩, nofun⟩
theorem talkDeactivation (c : Fin 4) : Statement (.talkDeactivation c) := ⟨⟨fun _ => trivial, fun _ => rfl⟩, nofun⟩
theorem alertStateAccepted : Statement .alertStateAccepted := ⟨⟨fun _ => trivial, fun _ => rfl⟩, nofun⟩
theorem recordByteStrobe (r : Fin 2) (rsor : Bool) (byte : Byte) : Statement (.recordByteStrobe r rsor byte) := ⟨⟨fun _ => trivial, fun _ => rfl⟩, nofun⟩
theorem volPress (b : Fin 4) (d : Dir) : Statement (.volPress b d) := ⟨⟨fun _ => trivial, fun _ => rfl⟩, nofun⟩
theorem volRelease (b : Fin 4) (d : Dir) : Statement (.volRelease b d) := ⟨⟨fun _ => trivial, fun _ => rfl⟩, nofun⟩
theorem repeatTimerExpiry (b : Fin 4) (d : Dir) : Statement (.repeatTimerExpiry b d) := ⟨⟨fun _ => trivial, fun _ => rfl⟩, nofun⟩
theorem channelPress (b : Fin 4) (d : Dir) : Statement (.channelPress b d) := ⟨⟨fun _ => trivial, fun _ => rfl⟩, nofun⟩
theorem pendingTimerExpiry (b : Fin 4) : Statement (.pendingTimerExpiry b) := ⟨⟨fun _ => trivial, fun _ => rfl⟩, nofun⟩
theorem ackPress (b : Fin 4) : Statement (.ackPress b) := ⟨⟨fun _ => trivial, fun _ => rfl⟩, nofun⟩
theorem headsetDetectChange (b : Fin 4) : Statement (.headsetDetectChange b) := ⟨⟨fun _ => trivial, fun _ => rfl⟩, nofun⟩
theorem flashPhaseExpiry (b : Fin 4) : Statement (.flashPhaseExpiry b) := ⟨⟨fun _ => trivial, fun _ => rfl⟩, nofun⟩
theorem rampStep (b : Fin 4) (l : LevelName) : Statement (.rampStep b l) := ⟨⟨fun _ => trivial, fun _ => rfl⟩, nofun⟩
theorem duckHoldExpiry (b : Fin 4) : Statement (.duckHoldExpiry b) := ⟨⟨fun _ => trivial, fun _ => rfl⟩, nofun⟩
theorem holdTimerExpiry (b : Fin 4) : Statement (.holdTimerExpiry b) := ⟨⟨fun _ => trivial, fun _ => rfl⟩, nofun⟩
theorem waitKeyTimerExpiry (b : Fin 4) : Statement (.waitKeyTimerExpiry b) := ⟨⟨fun _ => trivial, fun _ => rfl⟩, nofun⟩
theorem cardDurationExpiry (b : Fin 4) : Statement (.cardDurationExpiry b) := ⟨⟨fun _ => trivial, fun _ => rfl⟩, nofun⟩
theorem lingerExpiry (b : Fin 4) : Statement (.lingerExpiry b) := ⟨⟨fun _ => trivial, fun _ => rfl⟩, nofun⟩
theorem screenRecordSent (e : PortEdges) : Statement (.screenRecordSent e) := ⟨⟨fun _ => trivial, fun _ => rfl⟩, nofun⟩
theorem send : Statement .send := ⟨⟨fun _ => trivial, fun _ => rfl⟩, nofun⟩
theorem readNode : Statement .readNode := ⟨⟨fun _ => trivial, fun _ => rfl⟩, nofun⟩
theorem readSlots : Statement .readSlots := ⟨⟨fun _ => trivial, fun _ => rfl⟩, nofun⟩
theorem readTable : Statement .readTable := ⟨⟨fun _ => trivial, fun _ => rfl⟩, nofun⟩
theorem readBerth : Statement .readBerth := ⟨⟨fun _ => trivial, fun _ => rfl⟩, nofun⟩
theorem readMissed : Statement .readMissed := ⟨⟨fun _ => trivial, fun _ => rfl⟩, nofun⟩
theorem resetBerth : Statement .resetBerth := ⟨⟨fun _ => trivial, fun _ => rfl⟩, nofun⟩
theorem clearCounters : Statement .clearCounters := ⟨⟨fun _ => trivial, fun _ => rfl⟩, nofun⟩
theorem gapTimerExpiry : Statement .gapTimerExpiry := ⟨⟨fun _ => trivial, fun _ => rfl⟩, nofun⟩
theorem replyEnd : Statement .replyEnd := ⟨⟨fun _ => trivial, fun _ => rfl⟩, nofun⟩
theorem buttonRelease (b : Fin 4) (k : Button) : Statement (.buttonRelease b k) := ⟨⟨fun _ => trivial, fun _ => rfl⟩, nofun⟩
theorem serviceLinkByte (byte : Byte) (stop : Bool) : Statement (.serviceLinkByte byte stop) := ⟨⟨fun _ => trivial, fun _ => rfl⟩, nofun⟩
theorem unknownCommand : Statement .unknownCommand := ⟨⟨fun _ => trivial, fun _ => rfl⟩, nofun⟩
theorem screenRecordStart (b : Fin 4) : Statement (.screenRecordStart b) := ⟨⟨fun _ => trivial, fun _ => rfl⟩, nofun⟩
theorem readBackMismatch (k : Fin 40) : Statement (.readBackMismatch k) := ⟨⟨fun _ => trivial, fun _ => rfl⟩, nofun⟩
theorem guardRunEndsShort : Statement .guardRunEndsShort := ⟨⟨fun _ => trivial, fun _ => rfl⟩, nofun⟩

end Sys2Proof.Laws.Operands
end

