-- ==== Sys2Proof/Tests/Slice0.lean ====
section
/-!
SUPPORT. Tests/Slice0.lean: small checks of single steps against the manual's worked cases, the refusal of ill-formed
operands, and, for every statement that has hypotheses, states and operands that meet them, clause by clause.
-/

set_option Elab.async false

namespace Sys2Proof.Machine

/-! ### Small changes to a state -/

def State.inFrame (n : Nat) (s : State) : State := { s with tlu := { s.tlu with frame := n } }

def State.message (m : Message) (s : State) : State := { s with cmu := { s.cmu with dispatch := [m] } }

def State.command (c : List Byte) (s : State) : State := { s with svl := { s.svl with command := some c } }

/-- Holding `h` in this state on slot `f`. -/
def State.hold (h : Fin 11) (st : HoldingState) (f : Nat) (s : State) : State :=
  s.setHolding h { s.holding h with state := st, first := some f }

/-- An accepted change of a panel input waits: it was at level `active` before. -/
def State.input (b : Fin 4) (i : PanelInput) (active : Bool) (s : State) : State :=
  s.setBerth b { s.bcu.get b with inputs := (s.bcu.get b).inputs.set i.idx ⟨active, 3⟩ }

end Sys2Proof.Machine

namespace Sys2Proof.Tests
open Sys2Proof Sys2Proof.Machine

/-! ### Small states -/

/-- Eligible; berths 0 to 2; channel 0 announces A1 and describes itself, channel 1 is an alert channel, channel 4 carries
audio P0; record channel 0 carries V0. -/
def cfgT : Config :=
  { Config.defaults with
    eligible := true
    berthCount := 3
    programme := [⟨some 0x80, none, 1⟩, ⟨some 0x81, some 0xC0, 1⟩]
    asp := ((AspConfigs.set 0 ⟨true, 0x01, true, .crew, .all⟩).set 1 ⟨true, 0x00, false, .crew, .all⟩).set 4
      ⟨true, 0x80, false, .crew, .all⟩
    rsp := (Table.replicate 2 RspConfig.off).set 0 ⟨true, 0xC0, 1⟩ }
where AspConfigs : Table 8 AspConfig := Table.replicate 8 .off

/-- A node at address 9 with this link state and eligibility. -/
def node (l : LinkState) (eligible : Bool) : State :=
  { State.reset with
    cfl := ⟨.running, false, 9, { cfgT with eligible := eligible }, false, 0⟩
    tlu := { Tlu.reset with link := l } }

def locked : State := node .locked true

def pinsT : TickPins := ⟨Table.replicate 4 true, false, Table.replicate 4 (Table.replicate 6 true)⟩

/-- A frame start with nothing out of order. -/
def fsT : FrameStart := ⟨pinsT, ⟨false, false, false, false, false, [], []⟩⟩

def after (o : Host.Outcome State Fault Refusal) : State :=
  match o with
  | .next t => t
  | .fault _ | .refused _ => State.reset

def faults (o : Host.Outcome State Fault Refusal) : Bool :=
  match o with
  | .fault .illFormedCommand => true
  | .next _ | .refused _ => false

/-! ### Operands that no line can carry are refused by the check -/

theorem test_image_of_127_bytes_is_refused :
    Instr.wellFormed (.loadingEnd (List.replicate 127 0) 9 fsT) = false ∧
      faults (exec (.loadingEnd (List.replicate 127 0) 9 fsT) State.reset) = true := by decide +kernel

theorem test_mark_start_496_is_refused :
    Instr.wellFormed (.markRecognised 13 496 fsT) = false ∧ Instr.wellFormed (.markRecognised 13 495 fsT) = true ∧
      faults (exec (.markRecognised 13 496 fsT) locked) = true := by decide +kernel

/-! ### The manual's worked cases -/

/-- Chapter 3, worked cases of encoding. -/
theorem test_log_encoding_cases :
    logEncode (BitVec.ofInt 16 (-1234)) = 0xB5 ∧ logEncode 3210 = 0x4A ∧ logEncode (BitVec.ofInt 16 (-8)) = 0x81 ∧
      logEncode (BitVec.ofInt 16 (-5)) = 0x00 ∧ logEncode 32767 = 0x7F ∧ logEncode (BitVec.ofInt 16 (-32768)) = 0xFF := by
  decide +kernel

/-- The locator keeps the lowest run of a tag and flags the rest. -/
theorem test_locator_case :
    buildLocator [0xC0, 0xC0, 0xFF, 0x80, 0xC0, 0x40] = [⟨0x80, 3, 1, false⟩, ⟨0xC0, 0, 2, true⟩] := by decide +kernel

/-- A reset queue is empty, and no word spells a command. -/
theorem test_no_word_spells_a_command : decodeTableWord 8 0x55 = none ∧ State.reset.withFetchWord 8 0x55 = State.reset := by
  decide +kernel

/-! ### Hypotheses of the statements are met -/

/-- The bit time at which the clock waits for the line, by what the trunk unit waits for. -/
theorem test_clock_limits :
    let at_ (t : Tlu) : Nat := (after (step { locked with tlu := t })).tlu.bitTime
    let t := locked.tlu
    (at_ { t with bitTime := 479 } = 480 ∧ at_ { t with bitTime := 480 } = 480) ∧
    (at_ { t with bitTime := 12, ownMark := some .f } = 13 ∧ at_ { t with bitTime := 13, ownMark := some .f } = 13) ∧
    (at_ { t with bitTime := 495, expired := true } = 496 ∧ at_ { t with bitTime := 496, expired := true } = 496) ∧
    at_ { t with bitTime := 507, expired := true, lateRun := true } = 508 := by decide +kernel

theorem test_empty_queue_clauses :
    (locked.pending = [] ∧ locked.dueEvents = [] ∧ locked.tlu.link ≠ .loading) ∧
    (State.reset.pending = [] ∧ State.reset.dueEvents = [] ∧ State.reset.tlu.link = .loading) ∧
    { locked with cmu := { locked.cmu with prescaler := 0 } }.dueEvents = [.secondsPrescaler] := by decide +kernel

theorem test_some_event_is_not_due : Event.gapTimer ∉ locked.dueEvents := by decide +kernel

def reading : State := { State.reset with cfl := { State.reset.cfl with reading := true } }

/-- A good image of 128 bytes: version 1 and the check byte. -/
def imageT : List Byte := 0x01 :: List.replicate 126 0 ++ [0x01]

def readingAt (p : Nat) : State := { reading with cfl := { reading.cfl with period := p } }

/-- CDAT carries 0x03 and 0x00, most significant bit first, and is released after it. -/
theorem test_configuration_read_pins :
    (List.range 17).map (fun p => (readingAt p).cdat) =
      List.replicate 6 (some false) ++ [some true, some true] ++ List.replicate 8 (some false) ++ [none] ∧
    (after (step (readingAt 1039))).cfl.period = 1040 ∧ (after (step (readingAt 1040))).cfl.period = 1040 ∧
    after (exec .loadingStart reading) = reading := by decide +kernel

theorem test_loading_clauses :
    State.reset.cfl.node = .loading ∧ State.reset.cfl.reading = false ∧ locked.cfl.node = .running ∧
      reading.cfl.reading = true ∧ imageT.length = 128 ∧
      imageGood imageT = true ∧ imageGood (List.replicate 128 0) = false := by decide +kernel

theorem test_loading_end_locates_the_node :
    (after (exec (.loadingEnd imageT 62 fsT) reading)).cfl.address = 62 ∧
      (after (exec (.loadingEnd imageT 62 fsT) reading)).tlu.inListen = 1 ∧
      (after (exec (.loadingEnd imageT 63 fsT) reading)).cfl.fault = true := by decide +kernel

/-- A good image with these bytes changed, and its check byte. -/
def imageWith (f : Nat → Byte) : List Byte :=
  let body := (0x01 : Byte) :: (List.range 126).map fun i => f (i + 1)
  body ++ [xorAll body]

/-- One berth in zone 1 with entry 0 (P0, V0 in one slot) as default choice, default level 5 and polarity high; channel 0 enabled
with a tag that it may not carry; W0 30 and W1 10; zones 1 and 16 at night. -/
def imageB : List Byte := imageWith fun k =>
  [(2, 1), (3, 1), (5, 0x85), (6, 40), (19, 1), (20, 0x80), (21, 0xC0), (22, 1), (68, 0x40), (69, 1), (105, 1), (108, 30), (109, 10),
    (111, 1), (113, 30), (118, 0x80), (119, 0x01)].lookup k |>.getD 0

theorem test_loading_hands_the_configuration_on :
    let t := after (exec (.loadingEnd imageB 9 fsT) reading)
    imageGood imageB = true ∧ fsT.order.linkFirst = false ∧
      reading = { State.reset with
        pending := reading.pending, cfl := { Loader.reset with reading := true, period := reading.cfl.period } } ∧
      (t.cfl.config.asp.get 0).enabled = false ∧ t.cfl.config.w1 = 30 ∧ imageFixes imageB = 2 ∧ t.counter .configurationFixes = 2 ∧
      t.anu.zones.get 0 = .night ∧ t.anu.zones.get 1 = .day ∧ t.anu.zones.get 15 = .night ∧
      (t.bcu.get 0).userLevel = .lvl 5 ∧ (t.bcu.get 0).inputs.get 5 = ⟨false, 1⟩ ∧ (t.mix.get 0).programme.target = .lvl 5 ∧
      (t.feed 0).waitKey = some 2999 ∧ t.wku.get 0 = ⟨.idle, 30, false, none⟩ ∧ t.wku.get 1 = ⟨.idle, 30, false, none⟩ ∧
      t.bcu.get 1 = .unconfigured := by decide +kernel

theorem test_loading_without_a_good_image_or_an_address :
    let t := after (exec (.loadingEnd (List.replicate 128 0) 9 fsT) reading)
    let u := after (exec (.loadingEnd imageB 63 fsT) reading)
    t.cfl.config = Config.defaults ∧ t.counter .configurationFixes = 0 ∧ (t.bcu.get 3).userLevel = .lvl 24 ∧
      (t.feed 3).state = .off ∧ u.cfl.config.eligible = false ∧ u.cfl.config.w1 = 30 ∧ u.counter .configurationFixes = 2 := by
  decide +kernel

theorem test_frame_timer_clauses :
    (locked.dueEvents = [] ∧ locked.cfg.eligible = true ∧ locked.tlu.link = .locked) ∧
    (let s := { locked with tlu := { locked.tlu with guard := .inProgress } }
     s.dueEvents = [] ∧ s.tlu.guard = .inProgress ∧ (after (exec .guardRunEndsShort s)).tlu.ownMark = some .f) ∧
    ((node .leading true).dueEvents = [] ∧ (node .leading true).tlu.link = .leading) ∧
    ((node .listen true).dueEvents = [] ∧ (node .listen true).tlu.link = .listen) ∧
    ((node .locked false).dueEvents = [] ∧ (node .locked false).cfg.eligible = false) ∧
    (State.reset.dueEvents = [] ∧ State.reset.tlu.link = .loading) ∧
    (after (exec (.frameTimerExpiry .ended) (locked.inFrame 24))).tlu.ownMark = some .c ∧
    (after (exec (.frameTimerExpiry .inProgress) locked)).tlu.expired = true ∧
    (let s := { locked with tlu := { locked.tlu with expired := true } }
     s.dueEvents = [] ∧ after (exec (.frameTimerExpiry .recessive) s) = s) := by decide +kernel

def late (s : State) : State := { s with tlu := { s.tlu with lateRun := true } }

theorem test_flywheel_clauses :
    ((node .listen true).inFrame 24).dueEvents = [] ∧ ((node .locked false).inFrame 23).dueEvents = [] ∧
      fsT.order.linkFirst = false ∧ fsT.order.beforeEnd = [] ∧ fsT.order.beforeTick = [] ∧
      (after (exec (.flywheel ⟨.clear, fsT⟩) ((node .listen true).inFrame 24))).tlu.frame = 0 ∧
      (after (exec (.flywheel ⟨.clear, fsT⟩) ((node .locked false).inFrame 23))).tlu.frame = 24 ∧
      (late (node .locked false)).dueEvents = [] ∧
      after (exec (.flywheel ⟨.clear, fsT⟩) (late (node .locked false))) = late (node .locked false) ∧
      (after (exec (.flywheel ⟨.standing, fsT⟩) (node .locked false))).tlu.lateRun = true ∧
      (after (exec (.flywheel ⟨(.ended 3), fsT⟩) (late (node .locked false)))).tlu.bitTime = 20 ∧
      (after (exec (.flywheel ⟨(.ended 9), fsT⟩) (node .locked false))).tlu.bitTime = 26 := by decide +kernel

/-- A follow-only node before the frame start that makes a cycle tick: parity counted in slot 5, a lamp that flashes, a level
on its way, a wake call and a card on its way out. -/
def ticking : State :=
  let s := ((node .locked false).inFrame 24).setBerth 1 { Berth.unconfigured with flash := some 9, repUp := some 2 }
  let s := (s.setMix 1 { MixBerth.unconfigured with hold := some 8 }).setWake 1 ⟨.calling, 20, false, some (1, 7)⟩
  let s := s.setFeed 1 { Feed.reset with overlay := some ⟨.message, none, 0, [], .live, 3, 1, 0⟩ }
  ({ s with smu := { s.smu with running := s.smu.running.set 5 2 } }.setHolding 4 ⟨.backoff, none, 0, 2, false⟩).setHolding 10
    ⟨.held, some 3, 0, 1, false⟩

theorem test_cycle_tick_clauses :
    let t := after (exec (.flywheel ⟨.clear, fsT⟩) ticking)
    ticking.dueEvents = [] ∧ (t.smu.map.get 5).parityErrors = 2 ∧ (t.bcu.get 1).flash = some 8 ∧
      (t.bcu.get 1).repUp = some 1 ∧ (t.mix.get 1).hold = some 7 ∧ (t.wku.get 1).hold = some (1000, 6) ∧
      (t.feed 1).overlay = some ⟨.message, none, 0, [], .live, 2, 1000, 0⟩ ∧ t.wants 4 = true ∧ t.wants 10 = false ∧
      t.holding 4 = ⟨.backoff, none, 0, 1, false⟩ ∧ t.holding 10 = ⟨.inactive, none, 0, 1, false⟩ ∧
      fsT.order.cmuStartFirst = false := by decide +kernel

def follower (p : MarkPolicy) : State :=
  { locked with cfl := { locked.cfl with config := { locked.cfl.config with trunkPolicy := p } } }

theorem test_foreign_mark_clauses :
    ((follower .follow).dueEvents = [] ∧ (follower .follow).cfg.trunkPolicy = .follow) ∧
    (after (exec (.markRecognised 13 415 fsT) (follower .follow))).counter .earlyMarks = 1 ∧
    (after (exec (.markRecognised 13 416 fsT) (follower .follow))).counter .earlyMarks = 0 ∧
    (after (exec (.markRecognised 13 1 fsT) (locked.inFrame 23))).counter .cycleSlips = 1 ∧
    (after (exec (.markRecognised 13 495 fsT) (locked.inFrame 24))).counter .cycleSlips = 0 ∧
    (after (exec (.markRecognised 12 495 fsT) ((node .leading true).inFrame 23))).tlu.link = .locked ∧
    (after (exec (.markRecognised 11 495 fsT) locked)) = locked ∧
    (after (exec (.markRecognised 12 495 fsT) (locked.inFrame 5))).tlu.frame = 6 := by decide +kernel

def marking : State := { locked with tlu := { locked.tlu with ownMark := some .f } }

theorem test_own_and_ignored_mark_clauses :
    (marking.dueEvents = [] ∧ marking.tlu.ownMark ≠ none) ∧
    (after (exec (.markRecognised 12 0 fsT) marking)).tlu.sinceForeign = 1 ∧
    (let s := { locked with tlu := { locked.tlu with marked := true } }
     s.dueEvents = [] ∧ s.tlu.ownMark = none ∧ after (exec (.markRecognised 13 0 fsT) s) = s) ∧
    ((follower .ignore).dueEvents = [] ∧ (follower .ignore).cfg.trunkPolicy = .ignore) ∧
    (after (exec (.markRecognised 13 1 fsT) (follower .ignore))).counter .ignoredMarks = 1 ∧
    (after (exec (.markRecognised 13 415 fsT) (follower .ignore))).counter .ignoredMarks = 1 := by decide +kernel

theorem test_frame_starters :
    StartsFrame ((node .listen true).inFrame 24) fsT 0 (.flywheel ⟨.clear, fsT⟩) ∧
    StartsFrame (node .leading true) fsT 1 (.markRecognised 12 495 fsT) ∧
    StartsFrame (locked.inFrame 24) fsT 0 (.markRecognised 13 416 fsT) ∧
    StartsFrame marking fsT 1 (.markRecognised 12 0 fsT) :=
  ⟨.inl (by decide +kernel), .inr ⟨12, 495, rfl, by decide +kernel⟩, .inr ⟨13, 416, rfl, by decide +kernel⟩,
    .inr ⟨12, 0, rfl, by decide +kernel⟩⟩

/-- An own F mark read back as C is a slip and a tick; a tick that a followed mark opens; a cut tag frame keeps its holdings and
discards what it collected. -/
theorem test_ticks_and_cut_frames_by_marks :
    let seek : State := locked.hold 4 .held 7
    let seek := { seek with smu := { seek.smu with
      collected := Table.replicate 40 (some 0x80), results := [⟨7, 4, true⟩], map := seek.smu.map.set 7 ⟨0x80, 3, some 4, 2⟩ } }
    let slip := after (exec (.markRecognised 13 0 fsT) marking)
    let tick := after (exec (.markRecognised 13 450 fsT) (ticking.inFrame 24))
    let lead := after (exec (.markRecognised 12 0 fsT) ({ marking with tlu := { marking.tlu with link := .leading } }.inFrame 24))
    let cut := after (exec (.markRecognised 12 200 fsT) seek)
    let cutTick := after (exec (.markRecognised 13 200 fsT) seek)
    slip.counter .cycleSlips = 1 ∧ slip.tlu.cycleCount = 1 ∧ (ticking.inFrame 24).dueEvents = [] ∧ tick.tlu.frame = 0 ∧
      tick.svl = ticking.svl ∧ (tick.bcu.get 1).flash = some 8 ∧ lead.tlu.cycleCount = 1 ∧ lead.tlu.frame = 0 ∧
      lead.holding 4 = ⟨.seeking, none, 0, 1, false⟩ ∧ seek.dueEvents = [] ∧ cut.smu.results = [] ∧
      cut.holding 4 = seek.holding 4 ∧ cut.smu.collected.get 0 = none ∧ cut.smu.map.get 7 = ⟨0x80, 3, some 4, 2⟩ ∧
      cutTick.wants 4 = true ∧ cutTick.holding 4 = seek.holding 4 ∧ cutTick.smu.map.get 7 = ⟨0x80, 3, some 4, 0⟩ ∧
      cutTick.counter .slotsLost = 0 := by decide +kernel

def acquiring (c : Option Nat) : State :=
  { node .listen true with tlu := { Tlu.reset with link := .listen, candidate := c } }

theorem test_acquisition_clauses :
    (acquiring (some 24)).dueEvents = [] ∧
    (after (exec (.markRecognised 13 416 fsT) (acquiring (some 24)))).tlu.link = .locked ∧
    (after (exec (.markRecognised 13 415 fsT) (acquiring (some 24)))).tlu.candidate = some 0 ∧
    (after (exec (.markRecognised 13 495 fsT) (acquiring (some 23)))).tlu.candidate = some 0 ∧
    (after (exec (.markRecognised 13 1 fsT) (acquiring none))).tlu.candidate = some 0 ∧
    (after (exec (.markRecognised 12 416 fsT) (acquiring (some 23)))).tlu.candidate = some 24 ∧
    (after (exec (.markRecognised 12 416 fsT) (acquiring (some 24)))).tlu.candidate = none ∧
    (after (exec (.markRecognised 12 415 fsT) (acquiring (some 0)))).tlu.candidate = none ∧
    (acquiring none).tlu.marked = false ∧
    (after (exec (.markRecognised 13 0 fsT) (acquiring none))).tlu.candidate = some 0 := by decide +kernel

def lonely (eligible : Bool) : State :=
  { node .locked eligible with tlu := { Tlu.reset with link := .locked, sinceForeign := 25 } }

theorem test_link_expiry_clauses :
    ((lonely true).cfg.eligible = true ∧ (lonely true).tlu.link = .locked ∧ 25 ≤ (lonely true).tlu.sinceForeign) ∧
    (let s := { node .listen true with tlu := { Tlu.reset with link := .listen, inListen := 76 } }
     s.cfg.eligible = true ∧ s.tlu.link = .listen ∧ 76 ≤ s.tlu.inListen) ∧
    ((lonely false).cfg.eligible = false ∧ (lonely false).tlu.link = .locked ∧ 25 ≤ (lonely false).tlu.sinceForeign) ∧
    (after (exec .framesSinceForeignExpiry ((lonely false).hold 4 .held 7))).holding 4 = ⟨.seeking, none, 0, 1, false⟩ ∧
    (let s := { lonely false with lcu := { Lcu.reset with active := [⟨0xC0, 1⟩] } }.setFeed 1
       { Feed.reset with state := .following, video := some 0xC0 }
     isVideo 0xC0 = true ∧ s.configured 1 = true ∧
       ((after (exec .framesSinceForeignExpiry s)).feed 1).waitKey = some 3000) := by decide +kernel

/-- Holding 4 (tag P0) is SEEKING slot 38. -/
def seeker : State := locked.hold 4 .seeking 38

/-- Slot 38 waits on a run, and holding 4 has been silenced in slot 39. -/
def waiting : State :=
  let s := (locked.setHolding 4 { locked.holding 4 with state := .held, first := some 38 }).inFrame 1
  { s with tlu := { s.tlu with silenced := s.tlu.silenced.set 4 true, mismatch := s.tlu.mismatch.set 39 (some 4) } }

theorem test_driving_clauses :
    (waiting.drives 38 = none ∧ waiting.drove 38 = some (4, 0x00, true)) ∧
    seeker.drives 38 = some (4, 0x80, true) ∧ (node .listen true).tlu.link = .listen ∧
      ((locked.hold 4 .held 38).inFrame 1).drives 38 = some (4, 0x00, true) := by decide +kernel

/-- What holdings of each source drive in a data frame, in the slot they are named for. -/
theorem test_data_driving_clauses :
    let s := ((((node .leading true).hold 4 .held 7).hold 8 .held 20).hold 10 .held 30).inFrame 5
    let s := { s with
      asp := { s.asp with ch := s.asp.ch.set 4 ⟨[], 0, 0, 0x4A⟩ }
      rsp := s.rsp.set 0 ⟨.waitStart, [], [], [(2, true)]⟩
      cmu := { s.cmu with fixed := some (4, true) } }
    s.drives 7 = some (4, 0x4A, false) ∧ oddParity 0x4A false = true ∧ s.drives 20 = some (8, 2, true) ∧
      s.drives 30 = some (10, 4, true) ∧ s.tlu.silenced.get 4 = false ∧ s.holdingRun 8 = 1 ∧
      (∀ g, (s.holding g).first = some 20 → g = 8) := by decide +kernel

theorem test_tag_slot_clauses :
    (seeker.dueEvents = [] ∧ seeker.tlu.slotsDone ≤ 38 ∧ seeker.tlu.mismatch.get 38 = none ∧ seeker.tlu.frame = 0) ∧
    (seeker.drove 0 = none ∧ seeker.drove 38 = some (4, 0x80, true)) ∧
    (after (exec (.slotCompletion 38 ⟨0x80, true⟩ 0) seeker)).smu.results = [⟨38, 4, false⟩] ∧
    (after (exec (.slotCompletion 38 ⟨0x00, true⟩ 0) seeker)).smu.results = [⟨38, 4, true⟩] ∧
    (let t := after (exec (.readBackMismatch 38) seeker)
     t.tlu.mismatch.get 38 = some 4 ∧ t.drove 38 = none ∧ t.dueEvents = [] ∧
       (after (exec (.slotCompletion 38 ⟨0x80, true⟩ 12) t)).smu.results = [⟨38, 4, true⟩] ∧
       (after (exec (.slotCompletion 38 ⟨0x80, true⟩ 12) t)).tlu.bitTime = 418) := by decide +kernel

/-- Every slot below 39 collected as `t`. -/
def collected (t : Byte) (s : State) : State :=
  { s with smu := { s.smu with collected := Table.replicate 40 (some t) } }

theorem test_map_update_clauses :
    (collected 0x41 locked).dueEvents = [] ∧
    (∀ k : Fin 40, k.val < 39 → ((collected 0x41 locked).smu.collected.get k).isSome = true) ∧
    (collected 0x41 locked).tlu.slotsDone ≤ 39 ∧ (collected 0x41 locked).tlu.frame = 0 := by decide +kernel

theorem test_map_update_case :
    (after (exec (.slotCompletion 39 ⟨0xFF, true⟩ 0) (collected 0xFF locked))).smu.map.get 39 = ⟨0xFF, 1, none, 0⟩ ∧
    (after (exec (.slotCompletion 39 ⟨0xFF, true⟩ 0) (collected 0x41 locked))).smu.locator = [⟨0x41, 0, 39, false⟩] := by decide +kernel

def withResult (lost : Bool) (s : State) : State := { s with smu := { s.smu with results := [⟨38, 4, lost⟩] } }

/-- The tags of the slots by number, slot 39 being given by its completion. -/
def tags (f : Nat → Byte) (s : State) : State :=
  { s with smu := { s.smu with collected := Table.ofFn fun k => some (f k.val) } }

theorem test_settling_clauses :
    (let s := withResult false seeker
     s.dueEvents = [] ∧ s.drove 39 = none ∧ s.tlu.mismatch.get 39 = none ∧ (s.holding 4).first = some 38 ∧
      (s.smu.results.filter fun r => decide (r.holding = 4)).length = s.holdingRun 4 ∧
      ∀ r ∈ s.smu.results, r.holding = 4 → r.lost = false) ∧
    (let s := withResult true (locked.hold 4 .held 38)
     s.dueEvents = [] ∧ s.drove 39 = none ∧ (s.holding 4).state = .held ∧
      ∃ r ∈ s.smu.results, r.holding = 4 ∧ r.lost = true) ∧
    (let s := withResult false (locked.hold 4 .held 38)
     s.dueEvents = [] ∧ (s.holding 4).state = .held ∧ ∀ r ∈ s.smu.results, r.holding = 4 → r.lost = false) ∧
    (after (exec (.slotCompletion 39 ⟨0xFF, true⟩ 0) (withResult true seeker))).counter .contentionLosses = 1 ∧
    (after (exec (.slotCompletion 39 ⟨0xFF, true⟩ 0) (withResult true (locked.hold 4 .held 38)))).counter .slotsLost = 1 := by
  decide +kernel

/-- Slot 39 of a target gives its own result: clean, lost, or lost by a mismatch that was reported. -/
theorem test_last_slot_clauses :
    let s := locked.hold 4 .seeking 39
    let reported := after (exec (.readBackMismatch 39) s)
    let settle (byte : Byte) (s : State) : State := after (exec (.slotCompletion 39 ⟨byte, true⟩ 0) s)
    s.dueEvents = [] ∧ lastSlotResult s 0x80 = [⟨39, 4, false⟩] ∧ lastSlotResult s 0x00 = [⟨39, 4, true⟩] ∧
      lastSlotResult reported 0x80 = [⟨39, 4, true⟩] ∧ lastSlotResult locked 0x80 = [] ∧ reported.dueEvents = [] ∧
      (settle 0x80 s).holding 4 = ⟨.held, some 39, 0, 1, false⟩ ∧ ((settle 0x80 s).smu.map.get 39).own = some 4 ∧
      (settle 0x80 s).tlu.silenced.get 4 = false ∧ (settle 0x00 s).tlu.silenced.get 4 = true ∧
      (settle 0x00 s).counter .contentionLosses = 1 ∧ (settle 0x80 reported).counter .contentionLosses = 1 := by decide +kernel

/-- Address 9: a SEEKING holding finds two idle slots and takes candidate 9 mod 2; a preempting one finds none and takes the
last slot of the highest programme tag; one that may not preempt waits. -/
theorem test_seeking_cases :
    let seek (h : Fin 11) : State := locked.setHolding h ⟨.seeking, none, 0, 1, false⟩
    let full (n : Nat) : Byte := if n = 20 ∨ n = 30 then 0xC3 else 0x81
    let two (n : Nat) : Byte := if n = 20 ∨ n = 30 then 0xFF else 0x81
    (after (exec (.slotCompletion 39 ⟨0x81, true⟩ 0) (tags two (seek 4)))).holding 4 = ⟨.seeking, some 30, 0, 1, false⟩ ∧
    (after (exec (.slotCompletion 39 ⟨0x81, true⟩ 0) (tags full (seek 0)))).holding 0 = ⟨.seeking, some 30, 0, 1, false⟩ ∧
    (after (exec (.slotCompletion 39 ⟨0x81, true⟩ 0) (tags full (seek 4)))).holding 4 = ⟨.seeking, none, 1, 1, false⟩ ∧
    mayPreempt (locked.holdingTag 0) = true ∧ mayPreempt (locked.holdingTag 4) = false := by decide +kernel

/-- A heard tag is allocated, a DESCRIBED entry that is heard is ACTIVE, one at its age limit stands for its expiry, an ACTIVE
one not heard is FADING, and an UNDESCRIBED one not heard is FREE. -/
theorem test_evaluation_cases :
    let entry (tag : Byte) (st : AnnState) (age : Nat) : AnnEntry :=
      ⟨some tag, st, some 7, some .crew, some .all, [], .absent, 0, age, false, false⟩
    let s := (((locked.setEntry 1 (entry 0x05 .described 3)).setEntry 2 (entry 0x06 .described 1999)).setEntry 3
      (entry 0x07 .active 0)).setEntry 4 (entry 0x08 .undescribed 0)
    let t := after (exec (.slotCompletion 39 ⟨0x09, true⟩ 0) (tags (fun n => if n = 0 then 0x05 else 0xFF) s))
    s.dueEvents = [] ∧ (t.anu.entries.get 1).state = .active ∧ (t.anu.entries.get 2).tag = some 0x09 ∧
      (t.anu.entries.get 3).state = .fading ∧ t.anu.entries.get 4 = .free ∧ t.counter .undescribed = 1 := by decide +kernel

/-- The tick of a frame 0 that starts in LISTEN evaluates the table: entry 0 by the alert, and no tag is heard. -/
theorem test_listen_tick_evaluates :
    let s := (((node .listen true).inFrame 24).setEntry 1 ⟨some 0x05, .active, some 7, some .crew, some .all, [], .at_ 1, 0, 0,
      false, false⟩)
    let s := { s with anu := { s.anu with alert := ⟨true, 0⟩ } }
    let t := after (exec (.flywheel ⟨.clear, fsT⟩) s)
    let u := after (exec (.markRecognised 12 495 fsT) s)
    s.dueEvents = [] ∧ t.tlu.link = .listen ∧ (t.anu.entries.get 1).state = .fading ∧ (t.anu.entries.get 0).state = .active ∧
      (t.anu.entries.get 0).stamp = .at_ 1 ∧ u.tlu.link = .listen ∧ (u.anu.entries.get 1).state = .fading := by decide +kernel

/-- An ARMED berth that begins to follow a WAKE announcement is CALLING, and its lamp flashes. -/
theorem test_following_a_wake_call :
    let s := (locked.setBerth 2 { Berth.unconfigured with stop := 5 }).setWake 2 ⟨.armed, 20, false, none⟩
    let s := s.setEntry 1 ⟨some 0x05, .active, some 7, some .wake, some (.stop 5), [], .at_ 1, 0, 0, false, false⟩
    let t := after (exec (.slotCompletion 39 ⟨0xFF, true⟩ 0) (tags (fun n => if n = 0 then 0x05 else 0xFF) s))
    s.dueEvents = [] ∧ (s.anu.follow.get 2).cls = none ∧ (t.anu.follow.get 2).cls = some .wake ∧
      t.wku.get 2 = ⟨.calling, 20, true, none⟩ ∧ (t.bcu.get 2).lamp = .flash ∧ (t.mix.get 2).duck = .ducked ∧
      (t.feed 2).overlay = some ⟨.wake, some 1, 4, [], .live, 0, 0, 0⟩ := by decide +kernel

def collided : State :=
  let s := (locked.hold 4 .held 38).inFrame 1
  { s with tlu := { s.tlu with mismatch := s.tlu.mismatch.set 38 (some 4), silenced := s.tlu.silenced.set 4 true } }

theorem test_collision_clauses :
    (collided.dueEvents = [] ∧ collided.tlu.frame ≠ 0 ∧ collided.tlu.slotsDone ≤ 38 ∧ collided.drove 38 = none ∧
      collided.tlu.mismatch.get 38 = some 4 ∧ (collided.holding 4).state = .held) ∧
    (after (exec (.slotCompletion 38 ⟨0, true⟩ 0) collided)).holding 4 = ⟨.backoff, none, 0, 2, false⟩ ∧
    (let s := locked.setHolding 4 ⟨.backoff, none, 0, 1, true⟩
     (s.holding 4).state = .backoff ∧ (s.holding 4).backoffDue = true) := by decide +kernel

def portOpen (s : State) : State := { s with asp := { s.asp with portOpen := true } }

def device : State :=
  { locked with cfl := { locked.cfl with config := { locked.cfl.config with aspTiming := .device } } }

def fed (x : AspChannel) (st : HoldingState) : State :=
  let s := ((node .locked false).hold 4 st 38).inFrame 23
  { s with asp := { s.asp with ch := s.asp.ch.set 4 x } }

def word3210 : List Bool := (List.range 16).map fun i => (3210 : BitVec 16).getMsbD i

def bits3210 : List Bool := (List.range 8).flatMap fun _ => word3210

def port (bits : List Bool) (p : MarkPolicy) : State :=
  let s := { device with asp := { device.asp with portOpen := true, bits := bits } }
  { s with cfl := { s.cfl with config := { s.cfl.config with portPolicy := p } } }

theorem test_port_frame_clauses :
    (locked.cfl.node = .running ∧ locked.cfg.aspTiming = .node ∧ device.cfg.aspTiming = .device) ∧ bits3210.length = 128 ∧
    portWord bits3210 7 = 3210 ∧
    ((after (exec (.portFrameComplete bits3210) (portOpen locked))).asp.ch.get 4).fifo = [0x4A] ∧
    ((after (exec (.portFrameComplete (bits3210.drop 127)) (port (bits3210.take 127) .follow))).asp.ch.get 4).fifo = [0x4A] ∧
    (after (exec (.portFrameComplete (bits3210.drop 1)) (portOpen locked))).asp.bits.length = 127 ∧
    (after (exec .afsPulse (port (bits3210.drop 1) .follow))).asp.bits = [] ∧
    (after (exec .afsPulse (port (bits3210.drop 1) .ignore))).asp.bits.length = 127 ∧
    (after (exec .afsPulse (port (bits3210.drop 1) .ignore))).counter .portMarkErrors = 1 ∧
    (after (exec .afsPulse device)).asp.portOpen = true ∧
    after (exec .afsPulse (portOpen locked)) = portOpen locked := by decide +kernel

/-- A word for a full FIFO is an overrun, and an empty one an underrun. -/
theorem test_source_error_counters :
    let full : State := { portOpen locked with asp := { (portOpen locked).asp with
      ch := (portOpen locked).asp.ch.set 4 ⟨[1, 2, 3, 4], 0, 0, 0⟩ } }
    let t := after (exec (.portFrameComplete bits3210) full)
    (full.cfg.asp.get 4).enabled = true ∧ t.counter .sourceOverruns = 1 ∧ (t.asp.ch.get 4).fifo = [1, 2, 3, 4] ∧
      (after (exec (.flywheel ⟨.clear, fsT⟩) (fed ⟨[], 7, 23, 1⟩ .held))).counter .sourceUnderruns = 1 ∧
      (after (exec (.flywheel ⟨.clear, fsT⟩) (fed ⟨[5], 7, 23, 1⟩ .held))).counter .sourceUnderruns = 0 := by decide +kernel

theorem test_source_channel_clauses :
    (fed ⟨[5], 1, 3, 1⟩ .held).dueEvents = [] ∧ (fed ⟨[5], 1, 3, 1⟩ .held).held (aspHolding 4) = true ∧
    (fed ⟨[5], 1, 3, 1⟩ .held).tlu.lateRun = false ∧
    (after (exec (.flywheel ⟨.clear, fsT⟩) (fed ⟨[5], 1, 3, 1⟩ .held))).asp.ch.get 4 = ⟨[], 5, 0, 5⟩ ∧
    (after (exec (.flywheel ⟨.clear, fsT⟩) (fed ⟨[], 7, 23, 1⟩ .held))).asp.ch.get 4 = ⟨[], 7, 24, 7⟩ ∧
    (after (exec (.flywheel ⟨.clear, fsT⟩) (fed ⟨[], 7, 24, 1⟩ .held))).asp.ch.get 4 = ⟨[], 0, 25, 0⟩ ∧
    (after (exec (.flywheel ⟨.clear, fsT⟩) (fed ⟨[5], 7, 24, 1⟩ .inactive))).asp.ch.get 4 = ⟨[], 0, 0, 1⟩ := by decide +kernel

/-- Record channel 0 HELD in data frame 5: the record whose check byte was in frame 5 leaves, and the next byte of the one
after it is fixed. -/
theorem test_record_feed_case :
    let s := ((node .locked false).hold 8 .held 3).inFrame 5
    let s := s.setRsp 0 ⟨.waitStart, [], [⟨[1, 0, 0, 1], 4, some 5⟩, ⟨[2, 0, 0, 2], 0, none⟩], []⟩
    s.dueEvents = [] ∧ s.held (rspHolding 0) = true ∧
      (after (exec (.flywheel ⟨.clear, fsT⟩) s)).rsp.get 0 = ⟨.waitStart, [], [⟨[2, 0, 0, 2], 1, none⟩], [(2, true)]⟩ ∧
      takeRun 6 3 [⟨[9, 9], 1, none⟩] = ([(9, false), (0, false), (0, false)], [⟨[9, 9], 2, some 6⟩]) := by decide +kernel

/-- The control slot's byte: the next of the head message, after one that was sent in the frame that ends; a cut message starts
again. -/
theorem test_message_feed_cases :
    let s (q : List QueueItem) (pos : Option Nat) : State :=
      let s := ((node .locked false).hold 10 .held 3).inFrame 5
      { s with cmu := { s.cmu with queue := q, pos := pos } }
    let sent := s [⟨.serviceLink, [7, 8], some 5⟩, ⟨.berth 1, [4, 5], none⟩] none
    let cut := s [⟨.serviceLink, [7, 8], none⟩] (some 1)
    sent.dueEvents = [] ∧ cut.dueEvents = [] ∧ cut.cfg.trunkPolicy = .follow ∧
      (after (exec (.flywheel ⟨.clear, fsT⟩) sent)).cmu.fixed = some (4, true) ∧
      (after (exec (.flywheel ⟨.clear, fsT⟩) sent)).cmu.pos = some 1 ∧
      (after (exec (.flywheel ⟨.clear, fsT⟩) cut)).cmu.queue = [⟨.serviceLink, [7, 8], some 6⟩] ∧
      (after (exec (.markRecognised 13 1 fsT) cut)).cmu.pos = none ∧
      (after (exec (.markRecognised 13 415 fsT) cut)).cmu.pos = none ∧
      (let t := after (exec (.markRecognised 12 200 fsT) cut)
       t.cmu.fixed = some (7, true) ∧ t.cmu.pos = some 1) ∧
      (let t := after (exec (.markRecognised 12 200 { fsT with order := { fsT.order with cmuStartFirst := true } }) cut)
       t.cmu.fixed = some (8, false) ∧ t.cmu.pos = none) ∧
      (after (exec (.markRecognised 12 200 fsT) (cut.inFrame 24))).cmu.pos = none ∧
      (after (exec (.markRecognised 12 200 fsT) (s [⟨.serviceLink, [7, 8], none⟩] none))).cmu.fixed = some (7, true) ∧
      (Cmu.reset.put (.berth 1) [4]).put (.berth 1) [5] = { Cmu.reset with queue := [⟨.berth 1, [5], none⟩] } := by decide +kernel

def rxT (st : RxState) (b : List Byte) : Receiver := ⟨some 0x41, 3, st, b, xorAll b⟩

/-- A receiver and a marked byte: short and bad messages. -/
theorem test_receiver_marked_cases :
    (rxT .body [3, 3, 9]).take 7 true = (rxT .length [7], 1, none) ∧ (rxT .check [3, 0]).take 0xFF true = (rxT .hunt [], 1, none) ∧
    (rxT .length [3]).take 8 true = (rxT .skip [], 2, none) ∧ (rxT .hunt []).take 0 true = (rxT .skip [], 1, none) := by
  decide +kernel

/-- A receiver and an unmarked byte, by its state; the check byte completes a valid message and no other. -/
theorem test_receiver_unmarked_cases :
    ((rxT .skip []).take 5 false = (rxT .skip [], 0, none) ∧ (rxT .length [3]).take 61 false = (rxT .skip [], 1, none) ∧
      (rxT .length [3]).take 0 false = (rxT .check [3, 0], 0, none) ∧
      (rxT .length [3]).take 60 false = (rxT .body [3, 60], 0, none)) ∧
    ((rxT .body [7, 2, 9]).take 1 false = (rxT .check [7, 2, 9, 1], 0, none) ∧
      (rxT .body [3, 3, 9]).take 1 false = (rxT .body [3, 3, 9, 1], 0, none)) ∧
    ((rxT .check [7, 2, 9, 1]).take 13 false = (rxT .hunt [], 0, some (.wakeClear 9 1)) ∧
      (rxT .check [7, 2, 9, 4]).take 8 false = (rxT .hunt [], 1, none) ∧
      (rxT .check [7, 2, 9, 1]).take 0 false = (rxT .hunt [], 1, none)) := by decide +kernel

/-- Slot 3 of a data frame with receivers 0 and 1 on it: one message completes and one is bad. -/
theorem test_receiver_slot_case :
    let rx := ((Table.replicate 4 Receiver.reset).set 0 (rxT .check [7, 2, 9, 1])).set 1 (rxT .check [1])
    let s := { locked.inFrame 1 with cmu := { locked.cmu with rx := rx } }
    let t := after (exec (.slotCompletion 3 ⟨13, false⟩ 0) s)
    s.dueEvents = [] ∧ s.tlu.slotsDone ≤ 3 ∧ t.cmu.dispatch = [.wakeClear 9 1] ∧ t.counter .badMessages = 1 := by decide +kernel

/-- A map update gives a located control tag its receiver, moves one whose slot changed, and frees one whose tag is gone. -/
theorem test_receiver_assignment_cases :
    let rx := (((Table.replicate 4 Receiver.reset).set 0 ⟨some 0x41, 2, .body, [1], 1⟩).set 1 ⟨some 0x42, 9, .body, [1], 1⟩).set 2
      ⟨some 0x43, 5, .body, [1], 1⟩
    let s := { locked with cmu := { locked.cmu with rx := rx } }
    let t := after (exec (.slotCompletion 39 ⟨0xFF, true⟩ 0) (tags (fun n => if n = 2 then 0x41 else if n = 3 then 0x42
      else if n = 4 then 0x50 else 0xFF) s))
    s.dueEvents = [] ∧ t.cmu.rx.get 0 = rx.get 0 ∧ t.cmu.rx.get 1 = ⟨some 0x42, 3, .hunt, [], 0⟩ ∧
      t.cmu.rx.get 2 = ⟨some 0x50, 4, .hunt, [], 0⟩ := by decide +kernel

/-- A pending set becomes active: a dropped video stream's feed waits for a KEY, a kept stream moves with its slot, and a new
one takes the lowest free lanes. -/
theorem test_grant_application_cases :
    let lane (t : Byte) (p k : Nat) : Lane := ⟨some t, p, some k, 0, 0, false⟩
    let lanes := (((Table.replicate 24 Lane.free).set 0 (lane 0xC0 0 7)).set 1 (lane 0xC1 0 8)).set 2 (lane 0xC1 1 9)
    let asm := ((Table.replicate 8 Assembler.free).set 0 ⟨some 0xC0, .body, [1], 1⟩).set 1 ⟨some 0xC1, .body, [1], 1⟩
    let lcu : Lcu := ⟨lanes, asm, some [⟨0xC1, 2⟩, ⟨0x80, 1⟩], [⟨0xC0, 1⟩, ⟨0xC1, 2⟩]⟩
    let s := { locked with lcu := lcu }.setFeed 1 { Feed.reset with state := .following, video := some 0xC0 }
    let t := after (exec (.slotCompletion 39 ⟨0xFF, true⟩ 0) (tags (fun n => if n = 10 ∨ n = 11 then 0xC1 else if n = 12 then 0x80
      else 0xFF) s))
    let first := { locked with lcu := { Lcu.reset with pendingSet := some [⟨0x80, 1⟩, ⟨0xC1, 2⟩] } }
    s.dueEvents = [] ∧ (s.bcu.get 1).pendingChoice = none ∧ t.lcu.active = [⟨0xC1, 2⟩, ⟨0x80, 1⟩] ∧
      t.lcu.lanes.get 0 = ⟨some 0x80, 0, some 12, 0, 0, false⟩ ∧ first.dueEvents = [] ∧
      ((after (exec (.slotCompletion 39 ⟨0xFF, true⟩ 0) first)).lcu.lanes.toList.map (·.position)).take 4 = [0, 0, 1, 0] ∧
      t.lcu.lanes.get 2 = lane 0xC1 1 11 ∧ t.lcu.asm.get 0 = .free ∧ t.lcu.asm.get 1 = ⟨some 0xC1, .hunt, [], 0⟩ ∧
      (t.feed 1).waitKey = some 3000 := by decide +kernel

def talking (c : Fin 4) (active : Bool) : State := locked.setTalk c ⟨⟨active, 3⟩, 0xFF⟩

theorem test_talk_clauses :
    ((talking 0 false).asp.talk.get 0).deb.run = 3 ∧
    (after (exec (.talkActivation 0) (talking 0 false))).asp.talk.get 0 = ⟨⟨true, 0⟩, 0⟩ ∧
    (after (exec (.talkActivation 0) (talking 0 false))).cmu.queue =
      [⟨.channel 0, (Message.present 0x01 0xFF .crew .all []).bytes, none⟩] ∧
    (after (exec (.talkActivation 1) (talking 1 false))).drivesAlrt = true ∧
    (after (exec (.talkActivation 2) (talking 2 false))).cmu = locked.cmu ∧
    ((talking 3 true).asp.talk.get 3).deb.active = true := by decide +kernel

/-- The node leads the trunk. -/
def leads (s : State) : State :=
  { s with cfl := { s.cfl with config := { s.cfl.config with eligible := true } }, tlu := { s.tlu with link := .leading } }

/-- A mark that ends a data frame on time feeds the sources and the control slot, as the flywheel does. -/
theorem test_marks_feed_the_sources :
    let mark (start : Nat) (s : State) : State := after (exec (.markRecognised 12 start fsT) s)
    let own := { leads (fed ⟨[], 7, 23, 1⟩ .held) with
      tlu := { (leads (fed ⟨[], 7, 23, 1⟩ .held)).tlu with ownMark := some .f } }
    let sent := leads (((node .locked false).hold 10 .held 3).inFrame 5)
    let sent := { sent with cmu := { sent.cmu with queue := [⟨.serviceLink, [7, 8], some 5⟩, ⟨.berth 1, [4, 5], none⟩] } }
    (leads (fed ⟨[5], 1, 3, 1⟩ .held)).dueEvents = [] ∧ own.dueEvents = [] ∧ sent.dueEvents = [] ∧
      (mark 416 (leads (fed ⟨[5], 1, 3, 1⟩ .held))).asp.ch.get 4 = ⟨[], 5, 0, 5⟩ ∧
      (mark 0 own).asp.ch.get 4 = ⟨[], 7, 24, 7⟩ ∧ (mark 0 own).counter .sourceUnderruns = 1 ∧
      (mark 495 sent).cmu.fixed = some (4, true) ∧ (mark 495 sent).cmu.pos = some 1 := by decide +kernel

def strobed (x : RspChannel) : State := locked.setRsp 0 x

theorem test_record_strobe_clauses :
    (locked.cfg.rsp.get 0).enabled = true ∧
    ((after (exec (.recordByteStrobe 0 true 0x7F) locked)).rsp.get 0) = ⟨.header, [0x7F], [], []⟩ ∧
    ((after (exec (.recordByteStrobe 0 true 0x10) locked)).rsp.get 0).entry = .discard ∧
    ((after (exec (.recordByteStrobe 0 false 0x01) locked)).counter .sourceRecordErrors) = 1 ∧
    ((after (exec (.recordByteStrobe 0 true 0x02) (strobed ⟨.payload, [1, 0, 2, 9], [], []⟩))).rsp.get 0).cur = [2] ∧
    ((after (exec (.recordByteStrobe 0 false 0x00) (strobed ⟨.header, [0x02], [], []⟩))).rsp.get 0).cur = [2, 0] ∧
    ((after (exec (.recordByteStrobe 0 false 0x00) (strobed ⟨.header, [0x7F, 0], [], []⟩))).rsp.get 0).recs =
      [⟨[0x7F, 0, 0, 0x7F], 0, none⟩] ∧
    ((after (exec (.recordByteStrobe 0 false 0x01) (strobed ⟨.header, [0x7F, 0], [], []⟩))).rsp.get 0).entry = .discard ∧
    ((after (exec (.recordByteStrobe 0 false 0xFC) (strobed ⟨.header, [0x01, 3], [], []⟩))).rsp.get 0).entry = .discard ∧
    ((after (exec (.recordByteStrobe 0 false 0xFB) (strobed ⟨.header, [0x01, 3], [], []⟩))).rsp.get 0).entry = .payload ∧
    ((after (exec (.recordByteStrobe 0 false 9) (strobed ⟨.payload, [1, 0, 2], [], []⟩))).rsp.get 0).cur = [1, 0, 2, 9] ∧
    ((after (exec (.recordByteStrobe 0 false 8) (strobed ⟨.payload, [1, 0, 2, 9], [], []⟩))).rsp.get 0).recs =
      [⟨[1, 0, 2, 9, 8, 2], 0, none⟩] ∧
    ((after (exec (.recordByteStrobe 0 false 8) (strobed ⟨.discard, [], [], []⟩))).rsp.get 0).entry = .discard := by decide +kernel

theorem test_record_without_room_is_discarded :
    let x : RspChannel := ⟨.payload, [1, 0, 2], [⟨List.replicate 1020 0, 0, none⟩, ⟨List.replicate 1024 0, 0, none⟩], []⟩
    2048 < (x.recs.map (·.bytes.length)).sum + x.cur.length + 2 ∧
      (x.strobe false 5).1.entry = .discard ∧ (x.strobe false 5).2 = 1 := by decide +kernel

/-- A start of an unknown type, or without room, beside a record that is open and beside none; a disabled channel. -/
theorem test_record_starts_that_are_discarded :
    let full (e : EntryState) : State :=
      strobed ⟨e, [1], [⟨List.replicate 1023 0, 0, none⟩, ⟨List.replicate 1024 0, 0, none⟩], []⟩
    let errors (byte : Byte) (s : State) : BitVec 16 :=
      (after (exec (.recordByteStrobe 0 true byte) s)).counter .sourceRecordErrors
    errors 0x10 (strobed ⟨.header, [1], [], []⟩) = 2 ∧ errors 0x10 (strobed ⟨.payload, [1, 0, 2], [], []⟩) = 2 ∧
      errors 1 (full .waitStart) = 1 ∧ errors 1 (full .discard) = 1 ∧ errors 1 (full .header) = 2 ∧ errors 1 (full .payload) = 2 ∧
      ((after (exec (.recordByteStrobe 0 true 1) (full .payload))).rsp.get 0).entry = .discard ∧
      (locked.cfg.rsp.get 1).enabled = false ∧ after (exec (.recordByteStrobe 1 true 1) locked) = locked ∧
      after (exec (.recordByteStrobe 0 true 1) State.reset) = State.reset := by decide +kernel

/-- Chapter 4's messages with their check bytes. -/
theorem test_messages_are_valid :
    parseMessage 0x01 [0x01, 7, 2, 2, 0, 250, 2, 0x41, 0x07] = some (.present 0x01 7 .wake (.stop 250) [0x41, 0x20]) ∧
    parseMessage 0x02 [0x3F, 7] = some (.withdraw 0x3F 7) ∧ parseMessage 0x02 [0x00, 7] = none ∧
    parseMessage 0x03 [62, 3, 0] = some (.berthSet 62 3 0) ∧ parseMessage 0x03 [63, 3, 0] = none ∧
    parseMessage 0x04 [0x80, 0x01, 1] = some (.zoneMode 0x8001 .night) ∧
    parseMessage 0x05 [1, 0, 1, 255, 0] = some (.card (.zones 1) 255 []) ∧
    parseMessage 0x06 [1, 0, 250] = some (.wakeMissed 1 0 250) ∧ parseMessage 0x06 [1, 0, 0] = none ∧
    parseMessage 0x07 [1, 3] = some (.wakeClear 1 3) ∧ Receiver.reset.state = .hunt := by decide +kernel

def missedList (n : Nat) : State :=
  { locked with cmu := { locked.cmu with missed := (List.range n).map fun i => ⟨1, i, 5, 0⟩ } }

theorem test_missed_wake_clauses :
    ((missedList 1).message (.wakeMissed 1 0 5)).cmu.missed.any (fun e => decide (e.node = 1 ∧ e.berth = 0)) = true ∧
    ((missedList 15).message (.wakeMissed 2 0 5)).cmu.missed.length < 16 ∧
    16 ≤ ((missedList 16).message (.wakeMissed 2 0 5)).cmu.missed.length ∧
    (missedList 16).cmu.missed.any (fun e => decide (e.node = 2 ∧ e.berth = 0)) = false ∧
    (after (exec .wakeMissed ((missedList 16).message (.wakeMissed 2 0 5)))).counter .listEvictions = 1 ∧
    { locked with cmu := { locked.cmu with prescaler := 0 } }.cmu.prescaler = 0 := by decide +kernel

def waking (b : Fin 4) (st : WakeState) : State :=
  (locked.setBerth b { Berth.unconfigured with stop := 5 }).setWake b ⟨st, 20, false, some (7, 0)⟩

theorem test_wake_clear_clauses :
    ((waking 2 .missed).configured 2 = true ∧ (waking 2 .missed).cfl.address = 9) ∧
    ((after (exec .wakeClear ((waking 2 .missed).message (.wakeClear 9 2)))).wku.get 2).state = .idle ∧
    ((after (exec .wakeClear ((waking 2 .calling).message (.wakeClear 9 2)))).wku.get 2).state = .calling ∧
    (waking 3 .missed).configured 3 = false := by decide +kernel

def withEntry (i : Fin 16) (e : AnnEntry) : State := locked.setEntry i e

/-- An ACTIVE announcement of tag A1 with sequence 7 for every berth. -/
def annT (st : AnnState) : AnnEntry := ⟨some 0x01, st, some 7, some .crew, some .all, [], .at_ 3, 0, 0, false, false⟩

def describedAll (st : AnnState) : State :=
  { locked with anu := { locked.anu with entries := Table.ofFn fun i =>
      if i = 0 then .idle0 else { annT st with tag := some (BitVec.ofNat 8 i.val), age := i.val } } }

theorem test_present_clauses :
    (withEntry 3 (annT .active)).entryOf 0x01 = some 3 ∧ (annT .active).seq = some 7 ∧
    (withEntry 3 { annT .undescribed with seq := none }).entryOf 0x01 = some 3 ∧
    (withEntry 1 { annT .fading with absence := 8 }).entryOf 0x01 = none ∧
    (withEntry 1 { annT .fading with absence := 8 }).freeEntry = some 1 ∧
    (withEntry 1 { annT .described with age := 1999 }).freeEntry = some 2 ∧
    (locked.entryOf 0x01 = none ∧ locked.freeEntry = some 1) ∧
    ((describedAll .described).entryOf 0x20 = none ∧ (describedAll .described).freeEntry = none ∧
      (describedAll .described).oldestDescribed = some 15) ∧
    ((describedAll .active).entryOf 0x20 = none ∧ (describedAll .active).freeEntry = none ∧
      (describedAll .active).oldestDescribed = none) ∧
    (after (exec .present (locked.message (.present 0x3F 1 .wake .all [])))).anu.entries.get 1 =
      ⟨some 0x3F, .described, some 1, some .crew, some .all, [], .absent, 0, 0, false, true⟩ := by decide +kernel

theorem test_freeing_clauses :
    ((after (exec .withdraw ((withEntry 3 (annT .active)).message (.withdraw 0x01 7)))).anu.entries.get 3).state = .free ∧
    ((after (exec .withdraw ((withEntry 3 (annT .active)).message (.withdraw 0x01 8)))).anu.entries.get 3).state = .active ∧
    ((after (exec (.fadingExpiry 1) (withEntry 1 { annT .fading with absence := 8 }))).anu.entries.get 1).state = .free ∧
    ((after (exec (.descriptionAgeExpiry 15) (withEntry 15 { annT .described with age := 2000 }))).anu.entries.get 15).state =
      .free := by decide +kernel

theorem test_alert_and_zone_clauses :
    ((after (exec .entry0FadeExpiry (withEntry 0 { AnnEntry.idle0 with state := .fading, absence := 8 }))).anu.entries.get
      0).state = .idle ∧
    (after (exec .alertStateAccepted { locked with anu := { locked.anu with alert := ⟨false, 3⟩ } })).anu.alert = ⟨true, 0⟩ ∧
    (after (exec .zoneMode (locked.message (.zoneMode 0x8000 .night)))).anu.zones.get 15 = .night ∧
    (after (exec .zoneMode (locked.message (.zoneMode 0x8000 .night)))).anu.zones.get 14 = .day := by decide +kernel

theorem test_routing_clauses :
    locked.configured 2 = true ∧ locked.configured 3 = false ∧ (locked.bcu.get 0).stop = 0 ∧
    ((withEntry 3 (annT .active)).anu.entries.get 3).cls = some .crew ∧
    (withEntry 3 (annT .active)).admission 0 3 = some ⟨some 3, true, true, some .crew⟩ ∧
    (withEntry 3 { annT .fading with absence := 8 }).admission 0 3 = none ∧ (∀ i, locked.admission 0 i = none) := by decide +kernel

/-- Entries 3 and 5 of one class admit berth 0; entry 3 is the older. The incumbent, entry 5, is kept until its freed mark is
set or a better class comes. -/
theorem test_incumbent_clauses :
    let two (freed : Bool) : State := ((locked.setEntry 3 (annT .active)).setEntry 5
      { annT .active with stamp := .at_ 9, freed := freed }).setFollow 0 ⟨some 5, true, true, some .crew⟩
    (two false).incumbent 0 = some ⟨some 5, true, true, some .crew⟩ ∧
      ((indices 16).filterMap ((two false).admission 0)).map classRank = [2, 2] ∧
      (two false).selectFollow 0 = ⟨some 5, true, true, some .crew⟩ ∧
      (two true).selectFollow 0 = ⟨some 3, true, true, some .crew⟩ ∧
      ((two false).setEntry 0 { AnnEntry.idle0 with state := .active }).selectFollow 0 = ⟨some 0, true, true, some .alert⟩ := by
  decide +kernel

def onLane (x : Lane) : State := ((node .locked true).inFrame 1).setLane 23 x

theorem test_audio_lane_clauses :
    ((onLane ⟨some 0x80, 0, some 0, 5, 3, false⟩).dueEvents = [] ∧
      (onLane ⟨some 0x80, 0, some 0, 5, 3, false⟩).tlu.frame ≠ 0 ∧ Lane.isAudio ⟨some 0x80, 0, some 0, 5, 3, false⟩ = true) ∧
    ((after (exec (.slotCompletion 0 ⟨0x4A, false⟩ 0) (onLane ⟨some 0x80, 0, some 0, 5, 3, false⟩))).lcu.lanes.get 23) =
      ⟨some 0x80, 0, some 0, 3200, 0, true⟩ ∧
    ((after (exec (.slotCompletion 0 ⟨0x4A, true⟩ 0) (onLane ⟨some 0x80, 0, some 0, 5, 3, false⟩))).lcu.lanes.get 23).lastGood =
      5 ∧
    ((after (exec (.slotCompletion 0 ⟨0xFF, true⟩ 0) (onLane ⟨some 0x80, 0, some 0, 5, 3, false⟩))).lcu.lanes.get 23).lastGood =
      5 ∧
    ((after (exec (.missCountLimit 23) (onLane ⟨some 0x80, 0, some 0, 5, 24, false⟩))).lcu.lanes.get 23).lastGood = 0 := by
  decide +kernel

/-- Bad parity counts for the lane and, in a slot of an audio tag, for the slot; a data frame end counts misses up to 24. -/
theorem test_parity_and_miss_counts :
    let s := onLane ⟨some 0x80, 0, some 0, 5, 3, false⟩
    let s := { s with smu := { s.smu with map := s.smu.map.set 0 ⟨0x80, 0, none, 0⟩ } }
    let t := after (exec (.slotCompletion 0 ⟨0x4A, true⟩ 0) s)
    let ends (x : Lane) : Lane :=
      (after (exec (.flywheel ⟨.clear, fsT⟩) (((node .locked false).inFrame 1).setLane 23 x))).lcu.lanes.get 23
    s.dueEvents = [] ∧ oddParity 0x4A true = false ∧ t.counter .parityErrors = 1 ∧ t.smu.running.get 0 = 1 ∧
      (after (exec (.slotCompletion 0 ⟨0x4A, false⟩ 0) s)).smu.running.get 0 = 0 ∧
      (ends ⟨some 0x80, 0, some 0, 5, 3, false⟩).miss = 4 ∧ (ends ⟨some 0x80, 0, some 0, 5, 23, false⟩).miss = 24 ∧
      ends ⟨some 0x80, 0, some 0, 5, 0, true⟩ = ⟨some 0x80, 0, some 0, 5, 0, false⟩ ∧
      ends ⟨some 0xC0, 0, some 0, 0, 0, true⟩ = ⟨some 0xC0, 0, some 0, 0, 0, true⟩ ∧
      ((after (exec (.markRecognised 12 450 fsT) (((node .leading true).inFrame 1).setLane 23
        ⟨some 0x80, 0, some 0, 5, 3, false⟩))).lcu.lanes.get 23).miss = 4 := by decide +kernel

/-- Berth 0, with its headset in, chooses P0 and has P1 with V0 pending; berth 1 follows entry 3. -/
def demanding : State :=
  let s := (node .locked false).inFrame 12
  let s := s.setBerth 0 { Berth.unconfigured with
    choice := .entry 0, pendingChoice := some (.entry 1), inputs := Berth.unconfigured.inputs.set 0 ⟨true, 0⟩ }
  let s := (s.setEntry 3 (annT .active)).setFollow 1 ⟨some 3, true, true, some .crew⟩
  { s with smu := { s.smu with locator := [⟨0x00, 0, 1, false⟩, ⟨0x01, 1, 1, false⟩, ⟨0x80, 2, 1, false⟩, ⟨0xC0, 3, 2, false⟩] } }

theorem test_grant_point_clauses :
    let t := after (exec (.flywheel ⟨.clear, fsT⟩) demanding)
    demanding.dueEvents = [] ∧ demanding.demands = [⟨0x00, 1⟩, ⟨0x01, 1⟩, ⟨0x80, 1⟩, ⟨0x81, 1⟩, ⟨0xC0, 1⟩] ∧
      t.lcu.pendingSet = some [⟨0x00, 1⟩, ⟨0x01, 1⟩, ⟨0x80, 1⟩] ∧ t.counter .laneDenials = 0 ∧
      (after (exec (.markRecognised 12 450 fsT) (leads demanding))).lcu.pendingSet = t.lcu.pendingSet ∧
      (after (exec (.flywheel ⟨.clear, fsT⟩) (demanding.inFrame 11))).lcu.pendingSet = none ∧
      (after (exec (.flywheel ⟨.clear, fsT⟩) { demanding with tlu := { demanding.tlu with link := .listen } })).lcu.pendingSet =
        none := by decide +kernel

theorem test_grant_clauses :
    grantDown [⟨0x80, 3, 1, false⟩] [⟨0x80, 1⟩, ⟨0x81, 1⟩] ([], 0) = ([⟨0x80, 1⟩], 0) ∧
      grantDown [⟨0xC0, 3, 20, false⟩, ⟨0xC1, 23, 5, false⟩] [⟨0xC0, 20⟩, ⟨0xC1, 5⟩] ([], 0) = ([⟨0xC0, 20⟩], 1) := by
  decide +kernel

theorem test_assembler_hypotheses : Assembler.free.state = .hunt ∧ (List.replicate 1019 (0 : Byte)).length ≤ 1019 := by
  decide +kernel

/-- An assembler by its state and the byte: short, overlong and check-error records. -/
theorem test_assembler_table_cases :
    let a (st : AsmState) (b : List Byte) : Assembler := ⟨some 0xC0, st, b, xorAll b⟩
    (a .body [1, 0, 2]).take 0xFF true = (a .hunt [], .short) ∧ (a .skip []).take 0xFF true = (a .skip [], .nothing) ∧
    (a .check [1, 0, 0]).take 2 true = (a .header [2], .short) ∧ (a .hunt []).take 1 true = (a .header [1], .nothing) ∧
    (a .skip []).take 9 false = (a .skip [], .nothing) ∧ (a .header [1]).take 3 false = (a .header [1, 3], .nothing) ∧
    (a .header [1, 3]).take 0xFC false = (a .skip [], .overlong) ∧
    (a .header [1, 3]).take 0xFB false = (a .body [1, 3, 0xFB], .nothing) ∧
    (a .header [1, 0]).take 0 false = (a .check [1, 0, 0], .nothing) ∧
    (a .body [1, 0, 1]).take 9 false = (a .check [1, 0, 1, 9], .nothing) ∧
    (a .body [1, 0, 2]).take 9 false = (a .body [1, 0, 2, 9], .nothing) ∧
    (a .check [1, 0, 0]).take 1 false = (a .hunt [], .good [1, 0, 0, 1]) ∧
    (a .check [1, 0, 0]).take 2 false = (a .hunt [], .checkError) := by decide +kernel

/-- A record of V0 in progress, whose run lies in slot 5, with berth 1 FOLLOWING V0. -/
def assembling (st : AsmState) : State :=
  let s := ((locked.inFrame 1).setLane 2 ⟨some 0xC0, 0, some 5, 0, 0, false⟩).setFeed 1
    { Feed.reset with state := .following, video := some 0xC0 }
  { s with lcu := { s.lcu with asm := s.lcu.asm.set 3 ⟨some 0xC0, st, [1, 0, 0], 1⟩ } }

theorem test_assembler_slot_clauses :
    let s := assembling .check
    let take (byte : Byte) (mark : Bool) : State := after (exec (.slotCompletion 5 ⟨byte, mark⟩ 0) s)
    s.dueEvents = [] ∧ s.tlu.slotsDone ≤ 5 ∧ (take 1 false).sfu.inbox = [(0xC0, [1, 0, 0, 1])] ∧
      (take 1 false).feed 1 = s.feed 1 ∧ (take 9 false).counter .recordCheckErrors = 1 ∧
      ((take 9 false).feed 1).waitKey = some 3000 ∧
      (take 9 true).counter .shortRecords = 1 ∧ ((take 9 true).lcu.asm.get 3).state = .header ∧
      (after (exec (.slotCompletion 6 ⟨9, true⟩ 0) s)).lcu.asm = s.lcu.asm := by decide +kernel

/-- A frame cut before slot 5 ends the record as short; one cut after it does not. -/
theorem test_abandoned_frame_clauses :
    let s (done : Nat) : State := { assembling .body with tlu := { (assembling .body).tlu with slotsDone := done } }
    let cut (done : Nat) : State := after (exec (.markRecognised 12 60 fsT) (s done))
    (s 5).dueEvents = [] ∧ (s 5).cfg.trunkPolicy = .follow ∧ (cut 5).lcu.asm.get 3 = ⟨some 0xC0, .skip, [], 0⟩ ∧
      (cut 5).counter .shortRecords = 1 ∧ ((cut 5).feed 1).waitKey = some 3000 ∧
      (cut 6).lcu.asm = (s 6).lcu.asm ∧ (cut 6).counter .shortRecords = 0 ∧ ((cut 6).feed 1).state = .following := by decide +kernel

def atLevel (l : Level) : State := locked.setBerth 1 { Berth.unconfigured with userLevel := l }

theorem test_volume_clauses :
    (((atLevel .mute).input 1 .volUp false).inputDue 1 .volUp true = true ∧
      ((atLevel .mute).input 1 .volDown false).inputDue 1 .volDown true = true) ∧
    ((after (exec (.volPress 1 .up) ((atLevel (.lvl 39)).input 1 .volUp false))).bcu.get 1).userLevel = .lvl 40 ∧
    ((after (exec (.volPress 1 .up) ((atLevel (.lvl 40)).input 1 .volUp false))).bcu.get 1).userLevel = .lvl 40 ∧
    ((after (exec (.volPress 1 .down) ((atLevel (.lvl 0)).input 1 .volDown false))).bcu.get 1).userLevel = .mute ∧
    ((after (exec (.volPress 1 .down) ((atLevel (.lvl 1)).input 1 .volDown false))).mix.get 1).programme.cur = .lvl 0 ∧
    ((locked.input 1 .volUp true).inputDue 1 .volUp false = true ∧
      (locked.input 1 .volDown true).inputDue 1 .volDown false = true) := by decide +kernel

/-- Berth 1 holds a volume button whose repeat timer has expired. -/
def repeating (up : Bool) : State :=
  locked.setBerth 1 { Berth.unconfigured with
    inputs := Berth.unconfigured.inputs.set (if up then 1 else 2) ⟨true, 0⟩
    repUp := if up then some 0 else none, repDown := if up then none else some 0 }

theorem test_volume_repeat_clauses :
    (((repeating true).bcu.get 1).inputsTaken = true ∧ ((repeating true).bcu.get 1).repUp = some 0 ∧
      (((repeating true).bcu.get 1).input .volUp).active = true) ∧
    (((repeating false).bcu.get 1).inputsTaken = true ∧ ((repeating false).bcu.get 1).repUp ≠ some 0 ∧
      ((repeating false).bcu.get 1).repDown = some 0 ∧ (((repeating false).bcu.get 1).input .volDown).active = true) := by
  decide +kernel

/-- A level stepped by a press and by a repeat is handed to the Mixer: UNDUCKED at once, DUCKED and HOLDING as a new target. -/
theorem test_volume_hand_over_clauses :
    let at_ (s : State) (d : DuckState) (c : AnnClass) : State := s.setMix 1 { MixBerth.unconfigured with duck := d, lastClass := c }
    let press (d : DuckState) (c : AnnClass) : LevelState :=
      ((after (exec (.volPress 1 .up) (at_ ((atLevel (.lvl 30)).input 1 .volUp false) d c))).mix.get 1).programme
    (press .unducked .crew).cur = .lvl 31 ∧ (press .ducked .crew).target = .lvl 13 ∧ (press .ducked .crew).cur = .mute ∧
      (press .holding .alert).target = .mute ∧
      ((after (exec (.repeatTimerExpiry 1 .up) (at_ (repeating true) .unducked .crew))).mix.get 1).programme.cur = .lvl 0 ∧
      (after (exec (.repeatTimerExpiry 1 .down) (repeating false))).mix = (repeating false).mix := by decide +kernel

def choosing (c : Choice) (p : Option Choice) (d : Dir) : State :=
  (locked.setBerth 0 { Berth.unconfigured with choice := c, pendingChoice := p }).input 0
    (match d with | .up => .chUp | .down => .chDown) false

theorem test_channel_press_clauses :
    (choosing .off none .up).inputDue 0 .chUp true = true ∧ (choosing .off none .down).inputDue 0 .chDown true = true ∧
    ((after (exec (.channelPress 0 .up) (choosing .off none .up))).bcu.get 0).pendingChoice = some (.entry 0) ∧
    ((after (exec (.channelPress 0 .up) (choosing .off none .up))).bcu.get 0).input .chUp = ⟨true, 0⟩ ∧
    ((after (exec (.channelPress 0 .up) (choosing (.entry 1) none .up))).bcu.get 0).pendingChoice = some .off ∧
    ((after (exec (.channelPress 0 .down) (choosing .off none .down))).bcu.get 0).pendingChoice = some (.entry 1) ∧
    ((after (exec (.channelPress 0 .down) (choosing .off (some (.entry 0)) .down))).bcu.get 0).pendingTimer = none ∧
    ((after (exec (.channelPress 0 .down) (choosing .off (some (.entry 1)) .down))).bcu.get 0).pendingTimer = some 3000 := by
  decide +kernel

def waitingFor (c : Choice) : State :=
  locked.setBerth 0 { Berth.unconfigured with pendingChoice := some c, pendingTimer := some 0 }

theorem test_pending_timer_clauses :
    ((waitingFor (.entry 0)).bcu.get 0).pendingDue = true ∧ locked.cfg.videoOf (.entry 0) = none ∧
      locked.cfg.videoOf (.entry 1) = some 0xC0 ∧
      ((after (exec (.pendingTimerExpiry 0) (waitingFor (.entry 1)))).feed 0).base = .unavailable := by decide +kernel

/-- A switch without video at a map update and at a cycle tick in LISTEN; a switch by timeout keeps only the record in
transmission and the cards. -/
theorem test_switch_clauses :
    let pending (c : Choice) : Berth := { Berth.unconfigured with pendingChoice := some c, pendingTimer := some 7 }
    let s := (locked.setBerth 0 (pending (.entry 0))).setBerth 1 (pending (.entry 1))
    let t := after (exec (.slotCompletion 39 ⟨0xFF, true⟩ 0) s)
    let l := ((node .listen true).inFrame 24).setBerth 0 (pending (.entry 0))
    let u := after (exec (.flywheel ⟨.clear, fsT⟩) l)
    let q := (waitingFor (.entry 1)).setFeed 0 { Feed.reset with
      state := .following, tx := true, sent := 1, queue := [[2, 0, 0, 2], [1, 0, 0, 1], clearRecord 1] }
    s.dueEvents = [] ∧ (t.bcu.get 0).choice = .entry 0 ∧ (t.bcu.get 0).pendingTimer = none ∧ (t.feed 0).base = .rest ∧
      (t.bcu.get 1).pendingChoice = some (.entry 1) ∧ (t.bcu.get 1).pendingTimer = some 7 ∧
      l.dueEvents = [] ∧ (u.bcu.get 0).choice = .entry 0 ∧ (u.feed 0).base = .rest ∧
      ((after (exec (.pendingTimerExpiry 0) q)).feed 0).queue = [[2, 0, 0, 2], clearRecord 1, cardRecord 0 2 []] := by decide +kernel

def cardT : Overlay := ⟨.message, none, 0, [], .live, 0, 1000, 0⟩

theorem test_ack_clauses :
    ((waking 1 .calling).input 1 .ack false).inputDue 1 .ack true = true ∧
    ((after (exec (.ackPress 1) ((waking 1 .calling).input 1 .ack false))).wku.get 1).state = .acked ∧
    ((after (exec (.ackPress 1) ((waking 1 .missed).input 1 .ack false))).bcu.get 1).stop = 0 ∧
    (((after (exec (.ackPress 1) ((locked.setFeed 1 { Feed.reset with overlay := some cardT }).input 1 .ack false))).feed
      1).overlay) = some { cardT with phase := .linger, linger := 2000 } ∧
    (locked.feed 1).overlay = none := by decide +kernel

theorem test_input_and_lamp_clauses :
    ((locked.input 1 .headset false).bcu.get 1).inputTurn .headset = true ∧
    (locked.input 1 .chUp true).inputDue 1 .chUp false = true ∧ (locked.input 1 .chDown true).inputDue 1 .chDown false = true ∧
    (locked.input 1 .ack true).inputDue 1 .ack false = true ∧
    ((locked.setBerth 1 { Berth.unconfigured with flash := some 0 }).bcu.get 1).flashDue = true := by decide +kernel

def mixing (p : Level) (flag : Bool) : State :=
  ((locked.setMix 0 { MixBerth.unconfigured with programme := .rest p, headset := .rest p, pillow := .rest p, flag := flag }).setBerth
    0 { Berth.unconfigured with choice := .entry 0 }).setLane 0 ⟨some 0x80, 0, none, 31616, 0, false⟩

/-- The announcement followed has the same tag, so the headset carries twice the sample. -/
def doubled (x : Int) : State :=
  ((mixing (.lvl 48) true).setLane 0 ⟨some 0x80, 0, none, x, 0, false⟩).setFollow 0 ⟨some 2, true, true, some .crew⟩ |>.setEntry 2
    { annT .active with tag := some 0x80 }

theorem test_pair_clauses :
    (mixing (.lvl 48) false).pairOf 0 = (0, 0) ∧ (mixing (.lvl 48) true).pairOf 0 = (31616, 0) ∧
      (doubled 31616).pairOf 0 = (32767, 31616) ∧ (doubled (-31616)).pairOf 0 = (-32768, -31616) ∧
      (doubled 7).sampleOf (some 0x80) = 7 ∧ (doubled 7).sampleOf (some 0x81) = 0 ∧ (doubled 7).followTag 0 = some 0x80 ∧
      (doubled 7).followTag 1 = none ∧ (∀ k, ((doubled 7).lcu.lanes.get k).tag = some 0x80 → k = 0) ∧
      cfgT.audioOf (.entry 1) = some 0x81 := by decide +kernel

/-- The data frame end computes the pair, the frame start sends it with BFS; frame 24's pair goes out at the start of frame 1. -/
theorem test_pair_is_sent_clauses :
    let s (n : Nat) : State :=
      let s := mixing (.lvl 48) true
      { s with cfl := { s.cfl with config := { s.cfl.config with eligible := false } } }.inFrame n
    let go (s : State) : State := after (exec (.flywheel ⟨.clear, fsT⟩) s)
    let last := (s 0).setMix 0 { MixBerth.unconfigured with pair := (5, -1) }
    (s 5).dueEvents = [] ∧ (s 5).configured 3 = false ∧ (go (s 5)).bfs = true ∧ ((go (s 5)).mix.get 0).hdat = 31616 ∧
      ((go (s 5)).mix.get 3).hdat = 0 ∧ (go (s 24)).bfs = false ∧ ((go (s 24)).mix.get 0).pair = (31616, 0) ∧
      ((after (exec (.markRecognised 12 495 fsT) (leads (s 5)))).mix.get 0).hdat = 31616 ∧
      ((go (s 24)).mix.get 0).hdat = 0 ∧ last.dueEvents = [] ∧ ((go last).mix.get 0).hdat = 5 ∧
      ((go last).mix.get 0).pdat = 0xFFFF := by decide +kernel

def ramping (x : LevelState) : State := locked.setMix 0 { MixBerth.unconfigured with headset := x, hold := some 0 }

theorem test_ramp_clauses :
    ((ramping ⟨.lvl 1, .mute, .linear, 2, 2, 0, 0, some 0⟩).mix.get 0).hold = some 0 ∧
    ((after (exec (.rampStep 0 .headset) (ramping ⟨.lvl 1, .mute, .linear, 2, 2, 0, 0, some 0⟩))).mix.get 0).headset =
      ⟨.lvl 0, .mute, .linear, 2, 2, 1, 0, some 2⟩ ∧
    ((after (exec (.rampStep 0 .headset) (ramping ⟨.lvl 0, .mute, .linear, 2, 2, 1, 0, some 0⟩))).mix.get 0).headset.counter =
      none := by decide +kernel

/-- An S ramp of 13 steps has three slow steps at each end. -/
theorem test_s_ramp_cases :
    let x := (LevelState.rest .mute).start (.lvl 12) .s 5
    let step (taken : Nat) : Timer := ({ x with taken := taken } : LevelState).step.counter
    (x.steps = 13 ∧ x.edge = 3 ∧ x.counter = some 10) ∧ (step 1 = some 10 ∧ step 2 = some 5 ∧ step 8 = some 5 ∧ step 9 = some 10) ∧
      ((LevelState.rest .mute).start .mute .s 5).counter = none ∧ ((LevelState.rest .mute).start (.lvl 2) .s 5).counter = some 5 ∧
      x.aim (.lvl 12) .s 5 = x ∧ (x.aim (.lvl 12) .linear 5).counter = some 5 := by decide +kernel

theorem test_berth_set_clauses :
    ((after (exec .berthSet ((waking 2 .missed).message (.berthSet 9 2 250)))).wku.get 2).state = .armed ∧
    ((after (exec .berthSet ((waking 2 .calling).message (.berthSet 9 2 0)))).wku.get 2).state = .idle ∧
    (after (exec .berthSet (locked.message (.berthSet 9 3 5)))) = locked ∧ locked.cfg.berthCount ≤ 3 ∧
    (after (exec .berthSet (locked.message (.berthSet 8 0 5)))) = locked := by decide +kernel

theorem test_hold_timer_clauses :
    ((waking 1 .calling).wku.get 1).hold = some (7, 0) ∧
    (after (exec (.holdTimerExpiry 1) (waking 1 .calling))).cmu.queue =
      [⟨.berth 1, (Message.wakeMissed 9 1 5).bytes, none⟩] ∧
    ((after (exec (.holdTimerExpiry 1) (waking 1 .acked))).bcu.get 1).stop = 0 := by decide +kernel

def delivered (r : List Byte) (s : State) : State := { s with sfu := { s.sfu with inbox := [(0xC0, r)] } }

def showing (q : List (List Byte)) : State :=
  locked.setFeed 0 { Feed.reset with state := .following, video := some 0xC0, queue := q }

theorem test_record_delivery_clauses :
    (let s := delivered [1, 0, 0, 1] (waitingFor (.entry 1))
     (s.bcu.get 0).pendingChoice = some (.entry 1) ∧ s.cfg.videoOf (.entry 1) = some 0xC0 ∧
      ((after (exec .recordDelivered s)).feed 0).queue.getLast? = some [1, 0, 0, 1]) ∧
    (let s := (waitingFor (.entry 1)).setFeed 0 { Feed.reset with
       base := .rest, tx := true, sent := 1, queue := [[2, 0, 0, 2], [2, 0, 0, 2], clearRecord 1] }
     ((after (exec .recordDelivered (delivered [1, 0, 0, 1] s))).feed 0).queue =
       [[2, 0, 0, 2], clearRecord 1, clearRecord 0, [1, 0, 0, 1]]) ∧
    (let s := (waitingFor (.entry 1)).setFeed 0 { Feed.reset with queue := [[2, 0, 0, 2], clearRecord 1] }
     (s.feed 0).base = .none ∧
       ((after (exec .recordDelivered (delivered [1, 0, 0, 1] s))).feed 0).queue = [clearRecord 1, [1, 0, 0, 1]]) ∧
    ((after (exec .recordDelivered (delivered [2, 0, 0, 2] (showing [])))).feed 0).queue = [[2, 0, 0, 2]] ∧
    (showing []).configured 0 = true ∧ (locked.feed 0).video ≠ some 0xC0 ∧
    (recordLength [0x7F, 0, 1, 5, 0] ≠ 0 ∧
      (after (exec .recordDelivered (delivered [0x7F, 0, 1, 5, 0] locked))).counter .recordCheckErrors = 1) := by decide +kernel

/-- A KEY and an END of the feed video by the feed state, with room and without. -/
theorem test_key_and_end_clauses :
    let at_ (st : FeedState) (base : BaseCard) (n : Nat) : State := locked.setFeed 0 { Feed.reset with
      state := st, video := some 0xC0, base := base, waitKey := some 9, queue := [List.replicate n 2] }
    let key (s : State) : State := after (exec .recordDelivered (delivered [1, 0, 0, 1] s))
    let end_ (s : State) : Feed := (after (exec .recordDelivered (delivered [0x7F, 0, 0, 0x7F] s))).feed 0
    ((key (at_ .following .none 4092)).feed 0).queue.length = 2 ∧ (key (at_ .following .none 4093)).counter .queueDrops = 1 ∧
    ((key (at_ .following .none 4093)).feed 0).waitKey = some 3000 ∧ ((key (at_ .waitKey .rest 4087)).feed 0).state = .following ∧
    ((key (at_ .ended .rest 4087)).feed 0).queue.head? = some (clearRecord 0) ∧
    ((key (at_ .waitKey .rest 4088)).feed 0).waitKey = some 9 ∧ ((key (at_ .ended .rest 4088)).feed 0).state = .waitKey ∧
    (key (at_ .ended .rest 4088)).counter .queueDrops = 1 ∧ (key (at_ .off .none 5)).feed 0 = (at_ .off .none 5).feed 0 ∧
    (end_ (at_ .following .none 5)).queue.head? = some (cardRecord 0 3 []) ∧ (end_ (at_ .waitKey .rest 5)).state = .ended ∧
    end_ (at_ .ended .rest 5) = (at_ .ended .rest 5).feed 0 ∧
    (after (exec .recordDelivered (delivered [0x10, 0, 0, 0x10] locked))).counter .recordCheckErrors = 1 := by decide +kernel

theorem test_full_queue_drops_a_delta :
    4096 < (([List.replicate 2046 (0 : Byte), List.replicate 2047 0].map List.length).sum + [2, 0, 0, (2 : Byte)].length) := by
  decide +kernel

/-- The notice lamp is ON from a card's start to its end, and leaves FLASH for ON or OFF. -/
theorem test_lamp_clauses :
    let carded := locked.setFeed 2 { Feed.reset with overlay := some { cardT with phase := .linger } }
    let flashing (o : Option Overlay) : State := ((waking 1 .calling).setBerth 1 { (waking 1 .calling).bcu.get 1 with
      lamp := .flash, lit := false, flash := some 9 }).setFeed 1 { Feed.reset with overlay := o }
    let lamp (b : Fin 4) (s : State) : Lamp × Bool × Timer := ((s.bcu.get b).lamp, (s.bcu.get b).lit, (s.bcu.get b).flash)
    let ack (s : State) : State := after (exec (.ackPress 1) (s.input 1 .ack false))
    lamp 2 (after (exec .card (locked.message (.card .all 255 [])))) = (.on, true, none) ∧
      lamp 2 (after (exec (.lingerExpiry 2) carded)) = (.off, false, none) ∧ lamp 1 (ack (flashing none)) = (.off, false, none) ∧
      lamp 1 (ack (flashing (some cardT))) = (.on, true, none) ∧
      lamp 1 (after (exec .card ((flashing none).message (.card .all 255 [])))) = (.flash, false, some 9) ∧
      lamp 0 ((locked.setEntry 0 { AnnEntry.idle0 with state := .active }).publish 0 ⟨some 0, true, true, some .alert⟩) =
        (.on, true, none) := by decide +kernel

theorem test_card_clauses :
    locked.targetIncludes .all 2 = true ∧ locked.targetIncludes .all 3 = false ∧
    ((after (exec .card (locked.message (.card .all 255 [])))).feed 2).overlay = some { cardT with seconds := 255 } ∧
    ((after (exec .card (locked.message (.card .all 255 [])))).feed 2).queue = [cardRecord 1 0 []] ∧
    (let s := locked.setFeed 0 { Feed.reset with overlay := some { cardT with source := .alert } }
     (after (exec .card (s.message (.card .all 255 [])))).feed 0 = s.feed 0) ∧
    (after (exec (.waitKeyTimerExpiry 0)
      (locked.setFeed 0 { Feed.reset with state := .waitKey, waitKey := some 0 }))).feed 0 =
        { Feed.reset with state := .waitKey, base := .unavailable, queue := [cardRecord 0 2 []] } ∧
    ((after (exec (.waitKeyTimerExpiry 0)
      (locked.setFeed 0 { Feed.reset with state := .waitKey, waitKey := some 0, base := .unavailable }))).feed 0).queue = [] ∧
    (cardT.source = .message ∧ cardT.phase = .live ∧ cardT.seconds = 0) ∧
    ((after (exec (.lingerExpiry 0)
      (locked.setFeed 0 { Feed.reset with overlay := some { cardT with phase := .linger } }))).feed 0) =
        { Feed.reset with queue := [clearRecord 1] } := by
  decide +kernel

theorem test_screen_port_clauses :
    ((showing [[1, 0, 0, 1]]).feed 0).queue = [[1, 0, 0, 1]] ∧ ((showing [[1, 0, 0, 1]]).feed 0).tx = false ∧
    ((after (exec (.screenRecordStart 0) (showing [[1, 0, 0, 1]]))).feed 0).ssor = true ∧
    (let s := after (exec (.screenRecordStart 0) (showing [[1, 5, 6, 7], [2]]))
     let sent (edges : List Bool) : Feed := (after (exec (.screenRecordSent ⟨0, edges⟩) s)).feed 0
     (s.feed 0).tx = true ∧ (s.feed 0).sent = 1 ∧ sent [false, true] = { s.feed 0 with sent := 2, sdat := 5, ssor := false } ∧
       sent [true, false, true, true, true] = { s.feed 0 with queue := [[2]], tx := false, sent := 0, sdat := 7, ssor := false }) := by
  decide +kernel

def receiving (rx : List Byte) : State := { locked with svl := { locked.svl with rx := rx } }

theorem test_service_byte_clauses :
    ({ locked with svl := { locked.svl with gap := some 0 } }.svl.gap = some 0 ∧ locked.cfg.linkOn = true ∧
      State.reset.dueEvents = []) ∧
    ((receiving [1, 2]).dueEvents = [] ∧ (after (exec (.serviceLinkByte 2 false) (receiving [1, 2]))).svl.rx = []) ∧
    (after (exec (.serviceLinkByte 64 true) locked)).svl.rx = [64] ∧
    (after (exec (.serviceLinkByte 65 true) locked)).svl.rx = [] ∧
    (after (exec (.serviceLinkByte 0 true) locked)).svl.rx = [] ∧
    (after (exec (.serviceLinkByte 2 true) (receiving [1]))).svl.rx = [1, 2] ∧
    (after (exec (.serviceLinkByte 3 true) (receiving [1, 2]))).svl.command = some [2] ∧
    (after (exec (.serviceLinkByte 4 true) (receiving [1, 2]))).svl.command = none := by decide +kernel

def queued (n : Nat) : State :=
  { locked with cmu := { locked.cmu with queue := List.replicate n ⟨.serviceLink, [], none⟩ } }

theorem test_send_clauses :
    (after (exec .send (locked.command [1, 7, 2, 9, 0]))).svl.reply = some (replyFrame 0x01 .ok []) ∧
    (after (exec .send (locked.command [1, 7, 3, 9, 0]))).svl.reply = some (replyFrame 0x01 .bad []) ∧
    (after (exec .send (locked.command [1, 8, 0]))).svl.reply = some (replyFrame 0x01 .bad []) ∧
    (after (exec .send ((queued 4).command [1, 7, 2, 9, 0]))).svl.reply = some (replyFrame 0x01 .busy []) ∧
    (after (exec .send ((queued 3).command [1, 7, 2, 9, 0]))).cmu.queue.length = 4 := by decide +kernel

theorem test_read_clauses :
    (after (exec .readNode (locked.command [2]))).svl.command = none ∧
    (after (exec .readMissed (locked.command [6]))).svl.reply = some [0, 3, 6, 0, 0, 5] ∧
    (after (exec .readBerth (locked.command [5, 4]))).svl.reply = some (replyFrame 5 .bad []) ∧
    (after (exec .readBerth (locked.command [5, 3]))).svl.reply = some (replyFrame 5 .absent []) ∧
    (after (exec .readBerth (locked.command [5, 2]))).svl.reply = some (replyFrame 5 .ok (locked.berthData 2)) ∧
    (after (exec .unknownCommand (locked.command [9]))).svl.reply = some (replyFrame 9 .bad []) ∧
    (after (exec .unknownCommand (locked.command [0]))).svl.reply = some (replyFrame 0 .bad []) ∧
    (after (exec .unknownCommand (locked.command [2, 0]))).svl.reply = some (replyFrame 2 .bad []) ∧
    (after (exec .unknownCommand (locked.command [1, 7]))).svl.reply = some (replyFrame 1 .bad []) ∧
    (after (exec .unknownCommand (locked.command (1 :: List.replicate 63 0)))).svl.reply = some (replyFrame 1 .bad []) ∧
    (after (exec .unknownCommand (locked.command [5]))).svl.reply = some (replyFrame 5 .bad []) ∧
    (after (exec .unknownCommand (locked.command [7, 0, 0]))).svl.reply = some (replyFrame 7 .bad []) := by decide +kernel

/-- READ BERTH of a berth at its device reset values, and the table's first entry. -/
theorem test_read_berth_and_table_bytes :
    locked.berthData 2 = [1, 0xFF, 0xFE, 0xFF, 0xFF, 0xFF, 0, 0, 0, 0, 0, 0xFF, 0xFF, 0, 0xFE, 0, 0, 0xFF, 0xFF, 0, 0xFE, 0xFE] ++
      [0xFF, 0xFF, 0xFF, 0xFF, 0xFF, 0xFF, 0, 0xFF, 0xFF, 0xFE, 0, 0, 0xFE] ∧
    locked.tableData.take 20 = [1, 0, 5, 0, 0, 1, 0, 1, 0, 0, 0, 0, 0, 0, 0, 0, 0, 0, 0, 0] ∧
    nightMask ((Table.replicate 16 ZoneMode.day).set 15 .night) = 0x8000 := by decide +kernel

theorem test_read_slots_and_table_take_their_command :
    (after (exec .readSlots (locked.command [3]))).svl.reply.isSome = true ∧
      (after (exec .readTable (locked.command [4]))).svl.reply.isSome = true := by decide +kernel

theorem test_reset_and_clear_clauses :
    (after (exec .resetBerth (locked.command [7, 2]))).svl.reply = some (replyFrame 7 .ok []) ∧
    (after (exec .resetBerth (locked.command [7, 3]))).svl.reply = some (replyFrame 7 .absent []) ∧
    (after (exec .resetBerth (locked.command [7, 4]))).svl.reply = some (replyFrame 7 .bad []) ∧
    ((after (exec .resetBerth (locked.command [7, 2]))).feed 2).base = .rest ∧
    ((after (exec .resetBerth (locked.command [7, 2]))).mix.get 2).programme.target = .lvl 24 ∧
    (after (exec .clearCounters (locked.command [8]))).svl.reply = some (replyFrame 8 .ok []) ∧
    (let s := { locked with svl := { locked.svl with reply := some [], command := some [8] } }
     (takeEvent (.command (classify [8])) s).counter .linkDiscards = 1) := by decide +kernel

theorem test_reset_has_the_invariants_premises :
    State.reset.tlu.frame ≤ 24 ∧ State.reset.cfl.node = .loading ∧ State.reset.cmu.missed = [] ∧
      after (step locked) = { locked with tlu := { locked.tlu with bitTime := 1 } } := by decide +kernel

end Sys2Proof.Tests
end

section
/-!
PROOFS. The log codes (R47, R114): a code's magnitude, the bounds of the segment and of the mantissa that the encoder
chooses, and the decoding of an encoded sample.
-/

namespace Sys2Proof.Machine

/-! ### Decoding a code -/

/-- R114: the magnitude of a code with segment `e` and mantissa `m`. -/
def logMagnitude (e m : Nat) : Nat := (16 + m) * 2 ^ e - 16

/-- What is subtracted is always there, so the magnitude is exact. -/
theorem logMagnitude_add (e m : Nat) : logMagnitude e m + 16 = (16 + m) * 2 ^ e := by
  have h16 : 16 * 1 ≤ (16 + m) * 2 ^ e := Nat.mul_le_mul (Nat.le_add_right 16 m) Nat.one_le_two_pow
  unfold logMagnitude
  omega

theorem logMagnitude_le {e m : Nat} (he : e < 8) (hm : m < 16) : logMagnitude e m ≤ 3952 := by
  have hprod : (16 + m) * 2 ^ e ≤ 31 * 2 ^ 7 :=
    Nat.mul_le_mul (by omega) (Nat.pow_le_pow_right (by decide) (by omega))
  have := logMagnitude_add e m
  omega

/-- Within a segment the magnitudes are `2 ^ e` apart. -/
theorem logMagnitude_succ (e m : Nat) : logMagnitude e (m + 1) = logMagnitude e m + 2 ^ e := by
  have hm := logMagnitude_add e m
  have hm' := logMagnitude_add e (m + 1)
  rw [← Nat.add_assoc, Nat.succ_mul] at hm'
  omega

theorem logMagnitude_mono {e m m' : Nat} (h : m ≤ m') : logMagnitude e m ≤ logMagnitude e m' := by
  have := Nat.mul_le_mul_right (2 ^ e) (Nat.add_le_add_left h 16)
  have := logMagnitude_add e m
  have := logMagnitude_add e m'
  omega

theorem logDecode_eq (code : Byte) :
    logDecode code =
      if code.toNat / 128 = 1 then -((logMagnitude (code.toNat / 16 % 8) (code.toNat % 16) * 8 : Nat) : Int)
      else ((logMagnitude (code.toNat / 16 % 8) (code.toNat % 16) * 8 : Nat) : Int) := rfl

theorem logDecode_natAbs (code : Byte) :
    (logDecode code).natAbs = logMagnitude (code.toNat / 16 % 8) (code.toNat % 16) * 8 := by
  rw [logDecode_eq]
  split
  · rw [Int.natAbs_neg, Int.natAbs_natCast]
  · rw [Int.natAbs_natCast]

theorem logDecode_natAbs_le (code : Byte) : (logDecode code).natAbs ≤ 31616 := by
  have := logMagnitude_le (e := code.toNat / 16 % 8) (m := code.toNat % 16) (by omega) (by omega)
  rw [logDecode_natAbs]
  omega

theorem logDecode_nonneg {code : Byte} (hsign : code.toNat / 128 = 0) : 0 ≤ logDecode code := by
  rw [logDecode_eq, if_neg (by omega)]
  exact Int.natCast_nonneg _

theorem logDecode_nonpos {code : Byte} (hsign : code.toNat / 128 = 1) : logDecode code ≤ 0 := by
  rw [logDecode_eq, if_pos hsign]
  exact Int.neg_nonpos_of_nonneg (Int.natCast_nonneg _)

/-- The next mantissa's code has the same segment, so its value is one step of the segment larger. -/
theorem logDecode_natAbs_succ {code : Byte} (hm : code.toNat % 16 < 15) :
    (logDecode (code + 1)).natAbs = (logDecode code).natAbs + 8 * 2 ^ (code.toNat / 16 % 8) := by
  have hnext : (code + 1).toNat = code.toNat + 1 := by bv_omega
  have hsegment : (code.toNat + 1) / 16 = code.toNat / 16 := by omega
  have hmantissa : (code.toNat + 1) % 16 = code.toNat % 16 + 1 := by omega
  rw [logDecode_natAbs, logDecode_natAbs, hnext, hsegment, hmantissa, logMagnitude_succ]
  omega

/-! ### The segment and the mantissa of a magnitude -/

theorem segmentStart_zero : segmentStart 0 = 0 := rfl

theorem segmentStart_le_iff (e mag : Nat) : segmentStart e ≤ mag ↔ 16 * 2 ^ e ≤ mag + 16 := by
  unfold segmentStart
  omega

/-- `segmentOf` answers the largest element of segment 0 and the segments that begin at or below the magnitude. -/
theorem segmentOf_spec (mag : Nat) :
    (segmentOf mag < 8 ∧ segmentStart (segmentOf mag) ≤ mag) ∧
      ∀ e < 8, segmentStart e ≤ mag → e ≤ segmentOf mag := by
  have hmax : (0 :: (List.range 8).filter fun e => decide (segmentStart e ≤ mag)).max? = some (segmentOf mag) :=
    List.max?_cons'
  obtain ⟨hmem, hupper⟩ := List.max?_eq_some_iff.mp hmax
  refine ⟨?_, fun e he hstart => hupper e (by simp [he, hstart])⟩
  rcases List.mem_cons.mp hmem with hzero | hfound
  · simp [hzero, segmentStart_zero]
  · simpa using hfound

theorem segmentOf_lt (mag : Nat) : segmentOf mag < 8 := (segmentOf_spec mag).1.1

theorem segmentOf_lower (mag : Nat) : 16 * 2 ^ segmentOf mag ≤ mag + 16 :=
  (segmentStart_le_iff _ _).mp (segmentOf_spec mag).1.2

/-- A magnitude that a code can express lies below the end of its segment: segment 7 ends at 31 * 128 - 16. -/
theorem segmentOf_upper {mag : Nat} (hmag : mag ≤ 3952) : mag + 16 < 32 * 2 ^ segmentOf mag := by
  by_cases hlast : segmentOf mag = 7
  · rw [hlast]
    omega
  · have hlt := segmentOf_lt mag
    by_contra hbeyond
    have hnext : segmentStart (segmentOf mag + 1) ≤ mag := by
      rw [segmentStart_le_iff, Nat.pow_succ]
      omega
    have := (segmentOf_spec mag).2 (segmentOf mag + 1) (by omega) hnext
    omega

/-- R47, third step: the mantissa of a magnitude in its segment. -/
def mantissaOf (mag : Nat) : Nat := (mag + 16) / 2 ^ segmentOf mag - 16

/-- The leading 16 is in the quotient, so the mantissa is exact. -/
theorem mantissaOf_add (mag : Nat) : 16 + mantissaOf mag = (mag + 16) / 2 ^ segmentOf mag := by
  have : 16 ≤ (mag + 16) / 2 ^ segmentOf mag :=
    (Nat.le_div_iff_mul_le (Nat.two_pow_pos _)).mpr (segmentOf_lower mag)
  unfold mantissaOf
  omega

theorem mantissaOf_lt {mag : Nat} (hmag : mag ≤ 3952) : mantissaOf mag < 16 := by
  have : (mag + 16) / 2 ^ segmentOf mag < 32 :=
    (Nat.div_lt_iff_lt_mul (Nat.two_pow_pos _)).mpr (segmentOf_upper hmag)
  have := mantissaOf_add mag
  omega

/-- In the segment of `mag`, a mantissa expresses at most `mag` exactly when it is at most the encoder's. -/
theorem logMagnitude_le_iff (mag m : Nat) : logMagnitude (segmentOf mag) m ≤ mag ↔ m ≤ mantissaOf mag := by
  have hm := logMagnitude_add (segmentOf mag) m
  calc logMagnitude (segmentOf mag) m ≤ mag
    _ ↔ (16 + m) * 2 ^ segmentOf mag ≤ mag + 16 := by omega
    _ ↔ 16 + m ≤ (mag + 16) / 2 ^ segmentOf mag := (Nat.le_div_iff_mul_le (Nat.two_pow_pos _)).symm
    _ ↔ m ≤ mantissaOf mag := by rw [← mantissaOf_add]; omega

/-! ### Encoding a sample -/

/-- R47, first step: the magnitude that the encoder takes of a sample. -/
def sampleMagnitude (x : BitVec 16) : Nat := min (x.toInt.natAbs / 8) 3952

/-- R47: the sign bit of a sample's code. -/
def sampleSign (x : BitVec 16) : Nat := if x.toInt < 0 ∧ 0 < sampleMagnitude x then 1 else 0

theorem sampleMagnitude_le (x : BitVec 16) : sampleMagnitude x ≤ 3952 := Nat.min_le_right _ _

theorem le_sampleMagnitude_iff {x : BitVec 16} {mag : Nat} (hmag : mag ≤ 3952) :
    mag ≤ sampleMagnitude x ↔ mag * 8 ≤ x.toInt.natAbs := by
  unfold sampleMagnitude
  omega

theorem sampleSign_le (x : BitVec 16) : sampleSign x ≤ 1 := by
  unfold sampleSign
  split <;> decide

/-- The three fields do not overflow the code. -/
theorem logEncode_toNat (x : BitVec 16) :
    (logEncode x).toNat =
      sampleSign x * 128 + segmentOf (sampleMagnitude x) * 16 + mantissaOf (sampleMagnitude x) := by
  have hsign := sampleSign_le x
  have hsegment := segmentOf_lt (sampleMagnitude x)
  have hmantissa := mantissaOf_lt (sampleMagnitude_le x)
  change (BitVec.ofNat 8 (sampleSign x * 128 + segmentOf (sampleMagnitude x) * 16
    + mantissaOf (sampleMagnitude x))).toNat = _
  rw [BitVec.toNat_ofNat]
  omega

theorem logEncode_sign (x : BitVec 16) : (logEncode x).toNat / 128 = sampleSign x := by
  have hsegment := segmentOf_lt (sampleMagnitude x)
  have hmantissa := mantissaOf_lt (sampleMagnitude_le x)
  rw [logEncode_toNat]
  omega

theorem logEncode_segment (x : BitVec 16) : (logEncode x).toNat / 16 % 8 = segmentOf (sampleMagnitude x) := by
  have hsegment := segmentOf_lt (sampleMagnitude x)
  have hmantissa := mantissaOf_lt (sampleMagnitude_le x)
  rw [logEncode_toNat]
  omega

theorem logEncode_mantissa (x : BitVec 16) : (logEncode x).toNat % 16 = mantissaOf (sampleMagnitude x) := by
  have hmantissa := mantissaOf_lt (sampleMagnitude_le x)
  rw [logEncode_toNat]
  omega

/-! ### Decoding an encoded sample -/

theorem logDecode_logEncode_natAbs (x : BitVec 16) :
    (logDecode (logEncode x)).natAbs =
      logMagnitude (segmentOf (sampleMagnitude x)) (mantissaOf (sampleMagnitude x)) * 8 := by
  rw [logDecode_natAbs, logEncode_segment, logEncode_mantissa]

/-- The decoded value does not exceed 8 times the magnitude that the encoder took. -/
theorem logDecode_logEncode_le_sampleMagnitude (x : BitVec 16) :
    (logDecode (logEncode x)).natAbs ≤ sampleMagnitude x * 8 := by
  rw [logDecode_logEncode_natAbs]
  exact Nat.mul_le_mul_right 8 ((logMagnitude_le_iff _ _).mpr le_rfl)

theorem logDecode_logEncode_natAbs_le (x : BitVec 16) :
    (logDecode (logEncode x)).natAbs ≤ x.toInt.natAbs :=
  (logDecode_logEncode_le_sampleMagnitude x).trans
    ((le_sampleMagnitude_iff (sampleMagnitude_le x)).mp le_rfl)

theorem logDecode_logEncode_nonneg {x : BitVec 16} (hx : 0 ≤ x.toInt) : 0 ≤ logDecode (logEncode x) := by
  apply logDecode_nonneg
  rw [logEncode_sign, sampleSign, if_neg (by omega)]

/-- A negative sample of magnitude 0 has sign 0 and decodes to 0; of any other magnitude it has sign 1. -/
theorem logDecode_logEncode_nonpos {x : BitVec 16} (hx : x.toInt ≤ 0) : logDecode (logEncode x) ≤ 0 := by
  rcases Nat.eq_zero_or_pos (sampleMagnitude x) with hzero | hpos
  · have := logDecode_logEncode_le_sampleMagnitude x
    omega
  · have hnegative : x.toInt < 0 := by
      have := (le_sampleMagnitude_iff (sampleMagnitude_le x)).mp le_rfl
      omega
    apply logDecode_nonpos
    rw [logEncode_sign, sampleSign, if_pos ⟨hnegative, hpos⟩]

/-- Truncation toward zero within a segment: no code of the encoding's sign and segment comes nearer from below. -/
theorem logDecode_natAbs_le_logEncode {x : BitVec 16} {code : Byte}
    (hsegment : code.toNat / 16 = (logEncode x).toNat / 16)
    (hcode : (logDecode code).natAbs ≤ x.toInt.natAbs) :
    (logDecode code).natAbs ≤ (logDecode (logEncode x)).natAbs := by
  rw [logDecode_natAbs, hsegment, logEncode_segment] at hcode ⊢
  have hexpressible :=
    logMagnitude_le (segmentOf_lt (sampleMagnitude x)) (Nat.mod_lt code.toNat (by decide : 16 > 0))
  have hbelow := (le_sampleMagnitude_iff hexpressible).mpr hcode
  have hmantissa := (logMagnitude_le_iff _ _).mp hbelow
  rw [logDecode_logEncode_natAbs]
  exact Nat.mul_le_mul_right 8 (logMagnitude_mono hmantissa)

/-! ### The statement -/

/-- The decoding table of R114. -/
theorem logDecode_table :
    logDecode 0x00 = 0 ∧ logDecode 0x80 = 0 ∧ logDecode 0x0F = 120 ∧ logDecode 0x10 = 128 ∧ logDecode 0x4A = 3200 ∧
      logDecode 0xB5 = -1216 ∧ logDecode 0x7F = 31616 ∧ logDecode 0xFF = -31616 := by decide

/-- Settles O33: the code's clauses from its magnitude, the sample's from the segment and mantissa that the encoder
chooses. -/
theorem logCodesDecode : Obligations.LogCodesDecode := by
  unfold Obligations.LogCodesDecode
  refine ⟨fun code => ?_, logDecode_table, fun x => ?_⟩
  · have hrange := logDecode_natAbs_le code
    exact ⟨logMagnitude_le (by omega) (by omega), logDecode_eq code, by omega, by omega, logDecode_natAbs_succ⟩
  · exact ⟨logDecode_logEncode_natAbs_le x, logDecode_logEncode_nonneg, logDecode_logEncode_nonpos,
      fun _ => logDecode_natAbs_le_logEncode⟩

end Sys2Proof.Machine
end

section
/-!
PROOFS. The gain factors of the levels (R142) and the scaling of a sample by a level (R143).
-/

namespace Sys2Proof.Machine

/-! ### Gain factors -/

theorem gainFactor_octave_add (k : Nat) {j : Nat} (hj : j < 8) :
    gainFactor (8 * k + j) = gainTable.getD j 0 * 2 ^ k := by
  have hmod : (8 * k + j) % 8 = j := by omega
  have hdiv : (8 * k + j) / 8 = k := by omega
  rw [gainFactor, hmod, hdiv]

/-- R142: eight steps keep the table value and raise the power by one. -/
theorem gainFactor_add_eight (l : Nat) : gainFactor (l + 8) = 2 * gainFactor l := by
  have hmod : (l + 8) % 8 = l % 8 := by omega
  have hdiv : (l + 8) / 8 = l / 8 + 1 := by omega
  rw [gainFactor, gainFactor, hmod, hdiv, Nat.pow_succ, ← Nat.mul_assoc, Nat.mul_comm]

theorem gainFactor_unity : gainFactor 48 = 8192 := gainFactor_octave_add 6 (j := 0) (by decide)

theorem gainFactor_lowest : gainFactor 0 = 128 := gainFactor_octave_add 0 (j := 0) (by decide)

/-- The table stays below twice its first value, which is where the next doubling begins. -/
theorem gainTable_getD_le {j : Nat} (hj : j < 8) : gainTable.getD j 0 ≤ 256 := by
  revert j
  decide

/-- R143: only level 48 begins a seventh doubling, and no level below it passes the end of the sixth. -/
theorem gainFactor_le_unity {l : Nat} (hl : l ≤ 48) : gainFactor l ≤ 8192 := by
  rcases Nat.lt_or_eq_of_le hl with hbelow | rfl
  · have htable : gainTable.getD (l % 8) 0 ≤ 256 := gainTable_getD_le (by omega)
    have hpower : 2 ^ (l / 8) ≤ 2 ^ 5 := Nat.pow_le_pow_right (by decide) (by omega)
    exact Nat.mul_le_mul htable hpower
  · exact gainFactor_unity.le

/-- Settles O42: each factor from the quotient and remainder of its level by 8, the full set by evaluation. -/
theorem gainFactorsFollowTheTable : Obligations.GainFactorsFollowTheTable := by
  unfold Obligations.GainFactorsFollowTheTable
  exact ⟨fun k _ hj _ => gainFactor_octave_add k hj, fun l _ => gainFactor_add_eight l, gainFactor_unity,
    gainFactor_lowest, by decide⟩

/-! ### Scaling a sample -/

@[simp] theorem scale_mute (x : Int) : scale x .mute = 0 := rfl

/-- The divisor is positive, so the quotient toward minus infinity is the Euclidean one, which `omega` knows. -/
theorem scale_lvl (x : Int) (l : Nat) : scale x (.lvl l) = x * gainFactor l / 8192 :=
  Int.fdiv_eq_ediv_of_nonneg _ (by decide)

theorem le_scale_lvl_iff (x y : Int) (l : Nat) : y ≤ scale x (.lvl l) ↔ 8192 * y ≤ x * gainFactor l := by
  rw [scale_lvl]
  omega

theorem scale_lvl_lt_iff (x y : Int) (l : Nat) : scale x (.lvl l) < y ↔ x * gainFactor l < 8192 * y := by
  rw [scale_lvl]
  omega

theorem scale_unity (x : Int) : scale x (.lvl 48) = x := by
  rw [scale_lvl, gainFactor_unity]
  exact Int.mul_ediv_cancel x (by decide)

/-- The factors do not exceed unity, so the exact product stays within unity times a bound on the sample. -/
theorem abs_mul_gainFactor_le {x b : Int} {l : Nat} (hl : l ≤ 48) (hx : |x| ≤ b) : |x * gainFactor l| ≤ b * 8192 := by
  have hfactor : (gainFactor l : Int) ≤ 8192 := by exact_mod_cast gainFactor_le_unity hl
  calc |x * gainFactor l| = |x| * gainFactor l := by rw [abs_mul, Nat.abs_cast]
    _ ≤ b * 8192 := mul_le_mul hx hfactor (Int.natCast_nonneg _) ((abs_nonneg x).trans hx)

/-- R143: rounding toward minus infinity does not leave a symmetric range either, for the range's ends are whole. -/
theorem abs_scale_le {x b : Int} {l : Level} (hl : ∀ n, l = .lvl n → n ≤ 48) (hx : |x| ≤ b) : |scale x l| ≤ b := by
  cases l with
  | mute => simpa using (abs_nonneg x).trans hx
  | lvl n =>
    obtain ⟨hlower, hupper⟩ := abs_le.mp (abs_mul_gainFactor_le (hl n rfl) hx)
    rw [abs_le]
    constructor
    · rw [le_scale_lvl_iff]
      omega
    · rw [← Int.lt_add_one_iff, scale_lvl_lt_iff]
      omega

/-- Settles O43: the floor from the scaled value's two characteristic inequalities, the range from the bound on the
factors. -/
theorem scalingRoundsTowardMinusInfinity : Obligations.ScalingRoundsTowardMinusInfinity := by
  unfold Obligations.ScalingRoundsTowardMinusInfinity
  refine ⟨fun x l _ => ⟨?_, ?_⟩, scale_mute, fun _ => gainFactor_le_unity, scale_unity, by decide, by decide,
    fun x l hl hlower hupper => ?_⟩
  · exact (le_scale_lvl_iff x _ l).mp le_rfl
  · exact (scale_lvl_lt_iff x _ l).mp (Int.lt_succ _)
  · exact abs_le.mp (abs_scale_le hl (abs_le.mpr ⟨hlower, hupper⟩))

end Sys2Proof.Machine
end

section
/-!
PROOFS. The commands that take an event, the outcome of every command, and the principle that a step keeps what each of its parts
keeps.
-/

namespace Sys2Proof.Machine

/-! ### Commands that take an event -/

/-- The event that a command takes; none for a command of a line (an input that is not the machine's own). -/
def eventOf : Instr → Option Event
  | .framesSinceForeignExpiry => some .framesSinceForeign
  | .framesInListenExpiry => some .framesInListen
  | .fadingExpiry i => some (.fading i)
  | .descriptionAgeExpiry i => some (.descriptionAge i)
  | .entry0FadeExpiry => some .entry0Fade
  | .missCountLimit l => some (.missCount l)
  | .recordDelivered => some .recordDelivered
  | .present => some .present
  | .withdraw => some .withdraw
  | .berthSet => some .berthSet
  | .zoneMode => some .zoneMode
  | .card => some .card
  | .wakeMissed => some .wakeMissed
  | .wakeClear => some .wakeClear
  | .secondsPrescalerExpiry => some .secondsPrescaler
  | .backoffExpiry h => some (.backoff h)
  | .talkActivation c => some (.talkActivation c)
  | .talkDeactivation c => some (.talkDeactivation c)
  | .alertStateAccepted => some .alertAccepted
  | .volPress b d => some (.volPress b d)
  | .volRelease b d => some (.volRelease b d)
  | .repeatTimerExpiry b d => some (.repeatTimer b d)
  | .channelPress b d => some (.channelPress b d)
  | .pendingTimerExpiry b => some (.pendingTimer b)
  | .ackPress b => some (.ackPress b)
  | .headsetDetectChange b => some (.headsetDetect b)
  | .flashPhaseExpiry b => some (.flashPhase b)
  | .rampStep b l => some (.rampStep b l)
  | .duckHoldExpiry b => some (.duckHold b)
  | .holdTimerExpiry b => some (.holdTimer b)
  | .waitKeyTimerExpiry b => some (.waitKeyTimer b)
  | .cardDurationExpiry b => some (.cardDuration b)
  | .lingerExpiry b => some (.linger b)
  | .send => some (.command .send)
  | .readNode => some (.command .readNode)
  | .readSlots => some (.command .readSlots)
  | .readTable => some (.command .readTable)
  | .readBerth => some (.command .readBerth)
  | .readMissed => some (.command .readMissed)
  | .resetBerth => some (.command .resetBerth)
  | .clearCounters => some (.command .clearCounters)
  | .unknownCommand => some (.command .unknown)
  | .gapTimerExpiry => some .gapTimer
  | .buttonRelease b k => some (.buttonRelease b k)
  | .deviceReset | .loadingStart | .loadingEnd .. | .frameTimerExpiry _ | .flywheel _ | .markRecognised .. | .slotCompletion ..
  | .portFrameComplete _ | .afsPulse | .recordByteStrobe .. | .screenRecordSent _ | .replyEnd | .serviceLinkByte ..
  | .screenRecordStart _ | .readBackMismatch _ | .guardRunEndsShort => none

/-- A command that takes an event always has a next state: the state with that event taken. -/
theorem exec_of_event {c : Instr} {e : Event} (h : eventOf c = some e) (s : State) : exec c s = .next (takeEvent e s) := by
  cases c <;> cases h <;> rfl

/-! ### The outcomes of the commands of the lines -/

theorem execLoadingStart_eq (s : State) :
    execLoadingStart s = .next (if s.running ∨ s.cfl.reading then s else { s with cfl := s.cfl.start }) := by
  unfold execLoadingStart
  split <;> rfl

theorem execLoadingEnd_eq {image : List Byte} (h : image.length = 128) (straps : BitVec 6) (fs : FrameStart) (s : State) :
    execLoadingEnd image straps fs s =
      .next (if s.cfl.reading then (s.configure image straps).firstFrame fs else s) := by
  unfold execLoadingEnd
  rw [if_pos h]
  split <;> rfl

theorem execFrameTimerExpiry_eq (g : GuardReading) (s : State) :
    execFrameTimerExpiry g s = .next (if s.tlu.link = .loading then s else s.settle.timerExpiry g) := by
  unfold execFrameTimerExpiry
  split <;> rfl

/-- R7: what a flywheel start leaves, with everything due taken first. -/
def State.flywheelOutcome (fs : FlywheelStart) (s : State) : State :=
  if s.flywheels then
    match fs.late with
    | .clear => if s.tlu.lateRun then s else s.flywheelStart 16 fs.start
    | .standing => { s with tlu := s.tlu.standAt496 }
    | .ended n => s.flywheelStart (17 + n.val) fs.start
  else s

theorem execFlywheel_eq (fs : FlywheelStart) (s : State) : execFlywheel fs s = .next (s.settle.flywheelOutcome fs) := by
  unfold execFlywheel State.flywheelOutcome
  dsimp only
  split
  · cases fs.late with
    | clear => dsimp only; split <;> rfl
    | standing => rfl
    | ended n => rfl
  · rfl

/-- R3: what a dominant run leaves, with everything due taken first. -/
def State.markOutcome (run start : Nat) (fs : FrameStart) (s : State) : State :=
  match markForm run with
  | some form => s.takeMark form start fs
  | none => s

theorem execMarkRecognised_eq (run : Nat) {start : Nat} (h : start ≤ 495) (fs : FrameStart) (s : State) :
    execMarkRecognised run start fs s = .next (s.settle.markOutcome run start fs) := by
  unfold execMarkRecognised State.markOutcome
  rw [if_pos h]
  dsimp only
  cases markForm run <;> rfl

/-- R9: what the end of a slot leaves, with everything due taken first. -/
def State.slotOutcome (k : Fin 40) (line : SlotBits) (wait : Fin 13) (s : State) : State :=
  if s.onTrunk ∧ s.tlu.slotsDone ≤ k.val then
    if s.tlu.frame = 0 then (s.withReadBack k line).tagSlot k line.byte wait
    else (s.withReadBack k line).dataSlot k line.byte line.ninth wait
  else s

theorem State.readBack_frameNumber (k : Fin 40) (s : State) : (s.readBack k).tlu.frame = s.tlu.frame := by
  unfold State.readBack
  split
  · split <;> rfl
  · rfl

theorem State.withReadBack_frameNumber (k : Fin 40) (line : SlotBits) (s : State) :
    (s.withReadBack k line).tlu.frame = s.tlu.frame := by
  unfold State.withReadBack
  split
  · exact s.readBack_frameNumber k
  · rfl

theorem execSlotCompletion_eq (k : Fin 40) (line : SlotBits) (wait : Fin 13) (s : State) :
    execSlotCompletion k line wait s = .next (s.settle.slotOutcome k line wait) := by
  unfold execSlotCompletion State.slotOutcome
  dsimp only
  rw [State.withReadBack_frameNumber]
  split <;> rfl

theorem execRecordByteStrobe_eq (r : Fin 2) (rsor : Bool) (byte : Byte) (s : State) :
    execRecordByteStrobe r rsor byte s = .next
      (if s.running && (s.cfg.rsp.get r).enabled then
        (s.setRsp r ((s.rsp.get r).strobe rsor byte).1).bumpN .sourceRecordErrors ((s.rsp.get r).strobe rsor byte).2
       else s) := by
  unfold execRecordByteStrobe
  split <;> rfl

/-- R192: a screen port's start of its head record leaves every feed but its own, and nothing else changes. -/
theorem execScreenRecordStart_cases (b : Fin 4) (s : State) :
    execScreenRecordStart b s = .next s ∨ ∃ f, execScreenRecordStart b s = .next (s.setFeed b f) := by
  unfold execScreenRecordStart
  dsimp only
  split
  · split
    · exact .inr ⟨_, rfl⟩
    · exact .inl rfl
  · exact .inl rfl

theorem execScreenRecordSent_cases (e : PortEdges) (s : State) :
    execScreenRecordSent e s = .next s ∨ ∃ f, execScreenRecordSent e s = .next (s.setFeed e.port f) := by
  unfold execScreenRecordSent
  dsimp only
  split
  · split
    · exact .inr ⟨_, rfl⟩
    · exact .inl rfl
  · exact .inl rfl

/-! ### Every well-formed command completes -/

theorem exec_completes {c : Instr} (h : c.wellFormed = true) (s : State) : ∃ t, exec c s = .next t := by
  cases hc : eventOf c with
  | some e => exact ⟨_, exec_of_event hc s⟩
  | none =>
    cases c with
    | loadingStart => exact ⟨_, execLoadingStart_eq s⟩
    | loadingEnd image straps fs => exact ⟨_, execLoadingEnd_eq (of_decide_eq_true h) straps fs s⟩
    | frameTimerExpiry g => exact ⟨_, execFrameTimerExpiry_eq g s⟩
    | flywheel fs => exact ⟨_, execFlywheel_eq fs s⟩
    | markRecognised run start fs => exact ⟨_, execMarkRecognised_eq run (of_decide_eq_true h) fs s⟩
    | slotCompletion k line wait => exact ⟨_, execSlotCompletion_eq k line wait s⟩
    | recordByteStrobe r rsor byte => exact ⟨_, execRecordByteStrobe_eq r rsor byte s⟩
    | screenRecordStart b =>
      obtain heq | ⟨f, heq⟩ := execScreenRecordStart_cases b s <;> exact ⟨_, heq⟩
    | screenRecordSent e =>
      obtain heq | ⟨f, heq⟩ := execScreenRecordSent_cases e s <;> exact ⟨_, heq⟩
    | deviceReset | portFrameComplete _ | afsPulse | replyEnd | serviceLinkByte _ _ | readBackMismatch _ | guardRunEndsShort =>
      exact ⟨_, rfl⟩
    | _ => cases hc

theorem exec_illFormed {c : Instr} (h : c.wellFormed = false) (s : State) : exec c s = .fault .illFormedCommand := by
  cases c with
  | loadingEnd image straps fs => exact if_neg (of_decide_eq_false h)
  | markRecognised run start fs => exact if_neg (of_decide_eq_false h)
  | _ => cases h

/-- Settles O3: a command that takes an event completes, each command of a line has its outcome, and the two commands whose operands
can be ill formed fault on just those. -/
theorem everyWellFormedCommandCompletes : Obligations.EveryWellFormedCommandCompletes :=
  fun _ s => ⟨fun h => exec_completes h s, fun h => exec_illFormed h s⟩

/-! ### The queue -/

/-- Settles O1: the queue's rest replaces the queue before the command is executed. -/
theorem stepRunsTheFrontCommand : Obligations.StepRunsTheFrontCommand := fun _ _ _ => rfl

theorem step_of_pending {c : Instr} {q : List Instr} {s : State} (h : s.pending = c :: q) :
    step s = exec c { s with pending := q } := by
  unfold step
  rw [h]

theorem step_of_idle {s : State} (h : s.pending = []) : step s = .next s.idle := by
  unfold step
  rw [h]

theorem State.idle_of_due {s : State} {e : Event} {es : List Event} (h : s.dueEvents = e :: es) : s.idle = takeEvent e s := by
  unfold State.idle
  rw [h]

theorem State.idle_of_nothingDue {s : State} (h : s.nothingDue) : s.idle = s.timePasses := by
  unfold State.idle
  rw [show s.dueEvents = [] from h]

/-- Settles O2: with no command waiting a step is `State.idle`, and with nothing due that is the clock of the link's state. -/
theorem emptyQueueTakesWhatIsDue : Obligations.EmptyQueueTakesWhatIsDue := by
  intro s hq
  refine ⟨fun e es hdue => ?_, fun hdue hlink => ?_, fun hdue hlink => ?_⟩
  · rw [step_of_idle hq, State.idle_of_due hdue]
  · rw [step_of_idle hq, State.idle_of_nothingDue hdue]
    have hlimit : s.tlu.bitTimeLimit = if s.tlu.ownMark ≠ none then 13 else if s.tlu.expired = false then 480
        else if s.tlu.lateRun = false then 496 else 508 := by
      unfold Tlu.bitTimeLimit
      simp only [Option.isSome_iff_ne_none]
    unfold State.timePasses Tlu.bitTimePasses
    rw [if_neg hlink, ← hlimit]
    dsimp only
    split <;> rfl
  · rw [step_of_idle hq, State.idle_of_nothingDue hdue]
    unfold State.timePasses Loader.periodPasses
    rw [if_pos hlink]
    split <;> rfl

end Sys2Proof.Machine
end

section
/-!
PROOFS. What every step keeps: the principle that packages the case split over the commands once, and the trunk's numbers, the
link's state and its leader (O56, O57).
-/

namespace Sys2Proof.Machine

/-! ### A property that each part of a step keeps -/

theorem keeps_when {I : State → Prop} {c : Prop} [Decidable c] {f : State → State} (hf : ∀ s, I s → I (f s)) (s : State)
    (h : I s) : I (if c then f s else s) := by
  split
  · exact hf s h
  · exact h

/-- R7, R3: the states in which a frame start begins: the TLU has the number of the new frame. -/
def State.flywheelBegun (bitTime : Nat) (s : State) : State := { s with tlu := s.tlu.flywheel bitTime }

def State.markBegun (form : MarkForm) (start : Nat) (s : State) : State :=
  { s.countMark form (isMidFrame start) with
    tlu := ((s.countMark form (isMidFrame start)).tlu.followMark form (isMidFrame start) (!s.isOwnMark start)).newFrame
      (frameAfter form s.tlu.frame) 13 true }

def State.loadingBegun (image : List Byte) (straps : BitVec 6) (s : State) : State :=
  let t := (s.configure image straps).enterListen
  { t with tlu := { (t.tlu.newFrame 0 0 false) with inListen := 1 } }

/-- `I` is kept by each part of which the commands, the events and the clock are made. -/
structure KeptByParts (I : State → Prop) : Prop where
  queue : ∀ q s, I s → I { s with pending := q }
  event : ∀ e s, I s → I (takeEvent e s)
  clock : ∀ s, I s → I s.timePasses
  reset : ∀ s, I s → I s.deviceReset
  loading : ∀ s, I s → I { s with cfl := s.cfl.start }
  loaded : ∀ image straps s, I s → I (s.loadingBegun image straps)
  timer : ∀ g s, I s → I (s.timerExpiry g)
  guardRun : ∀ s, I s → I s.guardRunEnds
  readBack : ∀ k s, I s → I (s.readBack k)
  flywheel : ∀ bitTime s, bitTime ≤ 26 → I s → I (s.flywheelBegun bitTime)
  standing : ∀ s, I s → I { s with tlu := s.tlu.standAt496 }
  mark : ∀ form start s, I s → I (s.markBegun form start)
  ignored : ∀ s, I s → I (s.bump .ignoredMarks)
  tagSlot : ∀ k byte wait s, I s → I (s.tagSlot k byte wait)
  dataSlot : ∀ k byte ninth wait s, I s → I (s.dataSlot k byte ninth wait)
  portBits : ∀ bits s, I s → I (s.portBits bits)
  afsPulse : ∀ s, I s → I s.afsPulse
  strobe : ∀ r x n s, I s → I ((s.setRsp r x).bumpN .sourceRecordErrors n)
  feed : ∀ b x s, I s → I (s.setFeed b x)
  link : ∀ x s, I s → I { s with svl := x }
  discard : ∀ s, I s → I s.discardCollected
  tick : ∀ fs s, I s → I (s.cycleTick fs)
  completions : ∀ s, I s → I s.bcuCompletions
  lcuEnd : ∀ abandoned done s, I s → I (s.lcuFrameEnd abandoned done)
  alert : ∀ peer s, I s → I (s.sampleAlrt peer)
  dataEnd : ∀ e o s, I s → I (s.dataFrameEnd e o)
  tables : ∀ listen s, I s → I (s.tablesTick listen)
  feedFrame : ∀ e o s, I s → I (s.feedFrame e o)
  grant : ∀ s, I s → I s.grantPoint

namespace KeptByParts
variable {I : State → Prop} (K : KeptByParts I)
include K

theorem takeAll (es : List Event) (s : State) (h : I s) : I (takeAll es s) := by
  induction es generalizing s with
  | nil => exact h
  | cons e es ih => exact ih _ (K.event e s h)

theorem settle {s : State} (h : I s) : I s.settle := K.takeAll s.dueEvents s h

theorem idle {s : State} (h : I s) : I s.idle := by
  unfold State.idle
  split
  · exact K.event _ _ h
  · exact K.clock _ h

/-- The parts of a frame start in their order. -/
theorem startFrame (fs : FrameStart) (e : FrameEnd) {s : State} (h : I s) : I (s.startFrame fs e) := by
  have hlink : ∀ s, I s → I s.takeLink := fun s h => K.event .framesInListen _ (K.event .framesSinceForeign s h)
  unfold State.startFrame
  dsimp only
  refine keeps_when K.grant _ (K.feedFrame _ _ _ ?_)
  refine keeps_when (f := fun s => s.tablesTick _) (K.tables _) _ (K.takeAll _ _ ?_)
  refine keeps_when (f := fun s => s.dataFrameEnd e fs.order) (K.dataEnd e _) _ ?_
  refine keeps_when (f := fun s => s.sampleAlrt fs.pins.alrtPeer) (K.alert _) _ (K.takeAll _ _ ?_)
  refine keeps_when (f := fun s => s.lcuFrameEnd e.abandoned e.done) (K.lcuEnd _ _) _ ?_
  refine keeps_when K.completions _ (keeps_when hlink _ ?_)
  exact keeps_when (f := fun s => s.cycleTick fs) (K.tick fs) _ (K.discard s h)

theorem flywheelOutcome (fs : FlywheelStart) {s : State} (h : I s) : I (s.flywheelOutcome fs) := by
  unfold State.flywheelOutcome
  split
  · split
    · split
      · exact h
      · exact K.startFrame _ _ (K.flywheel 16 s (by omega) h)
    · exact K.standing s h
    · next n _ => exact K.startFrame _ _ (K.flywheel (17 + n.val) s (by omega) h)
  · exact h

theorem markOutcome (run start : Nat) (fs : FrameStart) {s : State} (h : I s) : I (s.markOutcome run start fs) := by
  unfold State.markOutcome State.takeMark
  split
  · split
    · exact h
    · split
      · exact K.ignored s h
      · exact K.startFrame _ _ (K.mark _ start s h)
  · exact h

theorem slotOutcome (k : Fin 40) (line : SlotBits) (wait : Fin 13) {s : State} (h : I s) : I (s.slotOutcome k line wait) := by
  have hread : I (s.withReadBack k line) := keeps_when (K.readBack k) s h
  unfold State.slotOutcome
  split
  · split
    · exact K.tagSlot k _ wait _ hread
    · exact K.dataSlot k _ _ wait _ hread
  · exact h

/-- A command that answers a next state keeps the property. -/
theorem exec {c : Instr} {s t : State} (h : I s) (hexec : exec c s = .next t) : I t := by
  cases hc : eventOf c with
  | some e =>
    rw [exec_of_event hc] at hexec
    cases hexec
    exact K.event e s h
  | none =>
    cases c with
    | deviceReset => cases hexec; exact K.reset s h
    | loadingStart =>
      cases (execLoadingStart_eq s).symm.trans hexec
      split
      · exact h
      · exact K.loading s h
    | loadingEnd image straps fs =>
      by_cases hwf : image.length = 128
      · cases (execLoadingEnd_eq hwf straps fs s).symm.trans hexec
        split
        · exact K.startFrame _ _ (K.loaded image straps s h)
        · exact h
      · rw [exec_illFormed (c := .loadingEnd image straps fs) (decide_eq_false hwf)] at hexec
        cases hexec
    | frameTimerExpiry g =>
      cases (execFrameTimerExpiry_eq g s).symm.trans hexec
      split
      · exact h
      · exact K.timer g _ (K.settle h)
    | flywheel fs =>
      cases (execFlywheel_eq fs s).symm.trans hexec
      exact K.flywheelOutcome fs (K.settle h)
    | markRecognised run start fs =>
      by_cases hwf : start ≤ 495
      · cases (execMarkRecognised_eq run hwf fs s).symm.trans hexec
        exact K.markOutcome run start fs (K.settle h)
      · rw [exec_illFormed (c := .markRecognised run start fs) (decide_eq_false hwf)] at hexec
        cases hexec
    | slotCompletion k line wait =>
      cases (execSlotCompletion_eq k line wait s).symm.trans hexec
      exact K.slotOutcome k line wait (K.settle h)
    | portFrameComplete bits => cases hexec; exact keeps_when (K.portBits bits) s h
    | afsPulse => cases hexec; exact keeps_when K.afsPulse s h
    | recordByteStrobe r rsor byte =>
      cases (execRecordByteStrobe_eq r rsor byte s).symm.trans hexec
      split
      · exact K.strobe _ _ _ s h
      · exact h
    | screenRecordSent e =>
      obtain heq | ⟨f, heq⟩ := execScreenRecordSent_cases e s
      · cases heq.symm.trans hexec; exact h
      · cases heq.symm.trans hexec; exact K.feed _ f s h
    | screenRecordStart b =>
      obtain heq | ⟨f, heq⟩ := execScreenRecordStart_cases b s
      · cases heq.symm.trans hexec; exact h
      · cases heq.symm.trans hexec; exact K.feed _ f s h
    | replyEnd => cases hexec; exact K.link _ _ (K.settle h)
    | serviceLinkByte byte stop =>
      cases hexec
      exact keeps_when (f := fun s => { s with svl := s.svl.receive byte stop }) (fun s => K.link _ s) _ (K.settle h)
    | readBackMismatch k => cases hexec; exact K.readBack k _ (K.settle h)
    | guardRunEndsShort => cases hexec; exact K.guardRun _ (K.settle h)
    | _ => cases hc

/-- A property that each part keeps is kept by every step. -/
theorem step {s t : State} (h : I s) (hstep : step s = .next t) : I t := by
  cases hq : s.pending with
  | cons c q =>
    rw [step_of_pending hq] at hstep
    exact K.exec (K.queue q s h) hstep
  | nil =>
    rw [step_of_idle hq] at hstep
    cases hstep
    exact K.idle h

end KeptByParts

/-! ### The Trunk Line Unit's state after each part -/

theorem State.enterListen_tlu (s : State) : s.enterListen.tlu = s.tlu.listen := by simp [State.enterListen]

/-- R13, R14: an event changes the TLU only as a link expiry does. -/
theorem takeEvent_tlu_cases (e : Event) (s : State) :
    (takeEvent e s).tlu = s.tlu ∨
    (s.cfg.eligible = true ∧ (s.tlu.link = .locked ∨ s.tlu.link = .listen) ∧
      (takeEvent e s).tlu = { s.tlu with link := .leading }) ∨
    (s.cfg.eligible = false ∧ s.tlu.link = .locked ∧ (takeEvent e s).tlu = s.tlu.listen) := by
  cases e with
  | framesSinceForeign =>
    show s.takeFramesSinceForeign.tlu = _ ∨ _
    simp only [takeEvent]
    unfold State.takeFramesSinceForeign
    split
    · next hdue =>
      have hlink : s.tlu.link = .locked := (of_decide_eq_true hdue).1
      split
      · next helig => exact .inr (.inl ⟨helig, .inl hlink, rfl⟩)
      · next helig => exact .inr (.inr ⟨by simpa using helig, hlink, by rw [State.enterListen_tlu]; rfl⟩)
    · exact .inl rfl
  | framesInListen =>
    simp only [takeEvent]
    unfold State.takeFramesInListen
    split
    · next hdue =>
      obtain ⟨helig, hlisten⟩ := Bool.and_eq_true_iff.mp hdue
      exact .inr (.inl ⟨helig, .inr (of_decide_eq_true hlisten).1, rfl⟩)
    · exact .inl rfl
  | command k => cases k <;> exact .inl (by simp [takeEvent])
  | _ => exact .inl (by simp [takeEvent])

@[simp] theorem State.cycleTick_tlu (fs : FrameStart) (s : State) : (s.cycleTick fs).tlu = s.tlu.tick := by
  unfold State.cycleTick
  dsimp only
  split <;> simp

@[simp] theorem State.tagSlot_tlu (k : Fin 40) (byte : Byte) (wait : Fin 13) (s : State) :
    (s.tagSlot k byte wait).tlu = (s.slotOver k wait).tlu := by
  unfold State.tagSlot
  dsimp only
  split <;> simp [State.slotOver]

@[simp] theorem State.dataSlot_tlu (k : Fin 40) (byte : Byte) (ninth : Bool) (wait : Fin 13) (s : State) :
    (s.dataSlot k byte ninth wait).tlu = (s.slotOver k wait).tlu := by
  unfold State.dataSlot
  dsimp only
  split <;> simp

@[simp] theorem State.markBegun_tlu (form : MarkForm) (start : Nat) (s : State) :
    (s.markBegun form start).tlu = (s.tlu.followMark form (isMidFrame start) (!s.isOwnMark start)).newFrame
      (frameAfter form s.tlu.frame) 13 true := by simp [State.markBegun]

@[simp] theorem State.markBegun_cfl (form : MarkForm) (start : Nat) (s : State) : (s.markBegun form start).cfl = s.cfl := by
  simp [State.markBegun]

@[simp] theorem State.loadingBegun_tlu (image : List Byte) (straps : BitVec 6) (s : State) :
    (s.loadingBegun image straps).tlu = { (s.tlu.listen.newFrame 0 0 false) with inListen := 1 } := by
  simp [State.loadingBegun, State.enterListen_tlu]

@[simp] theorem State.loadingBegun_cfl (image : List Byte) (straps : BitVec 6) (s : State) :
    (s.loadingBegun image straps).cfl = s.cfl.finish image straps := by
  simp [State.loadingBegun, State.configure]

/-! ### The trunk's numbers -/

theorem nextFrame_le (n : Nat) : nextFrame n ≤ 24 := by unfold nextFrame; omega

theorem frameAfter_le (form : MarkForm) (n : Nat) : frameAfter form n ≤ 24 := by
  cases form
  · exact nextFrame_le n
  · exact Nat.zero_le _

theorem countForeign_le (foreign : Bool) (n : Nat) : countForeign foreign n ≤ 25 := by
  unfold countForeign
  split <;> omega

/-- R5, R8, R13, R14: the ranges of `State.trunkInRange`, of the TLU alone. -/
def Tlu.inRange (t : Tlu) : Prop :=
  t.frame ≤ 24 ∧ t.bitTime ≤ 508 ∧ t.sinceForeign ≤ 25 ∧ (∀ n, t.candidate = some n → n ≤ 24) ∧ t.slotsDone ≤ 40

theorem State.trunkInRange_iff (s : State) : s.trunkInRange ↔ s.tlu.inRange := Iff.rfl

namespace Tlu.inRange
variable {t : Tlu} (h : t.inRange)
include h

theorem setLink (l : LinkState) : ({ t with link := l } : Tlu).inRange := h

theorem listen : t.listen.inRange := by
  obtain ⟨hframe, hbit, -, -, hslots⟩ := h
  exact ⟨hframe, hbit, Nat.zero_le _, nofun, hslots⟩

theorem bitTimePasses : t.bitTimePasses.inRange := by
  have hlimit : t.bitTimeLimit ≤ 508 := by
    unfold Tlu.bitTimeLimit
    repeat' split
    all_goals omega
  obtain ⟨hframe, hbit, hsince, hcand, hslots⟩ := h
  unfold Tlu.bitTimePasses
  split
  · exact ⟨hframe, by dsimp only; omega, hsince, hcand, hslots⟩
  · exact ⟨hframe, hbit, hsince, hcand, hslots⟩

theorem driveMark : t.driveMark.inRange := by
  obtain ⟨hframe, -, hsince, hcand, hslots⟩ := h
  exact ⟨hframe, Nat.zero_le _, hsince, hcand, hslots⟩

/-- A change of the bit time alone, with what does not count here. -/
theorem withBitTime {u : Tlu} (hu : u.bitTime ≤ 508) (hframe : u.frame = t.frame) (hsince : u.sinceForeign = t.sinceForeign)
    (hcand : u.candidate = t.candidate) (hslots : u.slotsDone = t.slotsDone) : u.inRange := by
  unfold Tlu.inRange at h ⊢
  rw [hframe, hsince, hcand, hslots]
  exact ⟨h.1, hu, h.2.2⟩

/-- A new frame needs only the counts of the old one. -/
theorem newFrame {n bitTime : Nat} (hn : n ≤ 24) (hbit : bitTime ≤ 508) (marked : Bool) :
    (t.newFrame n bitTime marked).inRange := by
  obtain ⟨-, -, hsince, hcand, -⟩ := h
  exact ⟨hn, hbit, hsince, hcand, Nat.zero_le _⟩

theorem flywheel {bitTime : Nat} (hbit : bitTime ≤ 508) : (t.flywheel bitTime).inRange := by
  obtain ⟨hframe, hbit', hsince, -, hslots⟩ := h
  unfold Tlu.flywheel
  refine newFrame ?_ (nextFrame_le _) hbit true
  dsimp only
  split
  · exact ⟨hframe, hbit', hsince, nofun, hslots⟩
  · exact ⟨hframe, hbit', countForeign_le false _, nofun, hslots⟩

theorem acquire_le {n : Nat} (form : MarkForm) (mid : Bool) (hn : (acquire form mid t.candidate).1 = some n) : n ≤ 24 := by
  obtain ⟨-, -, -, hcand, -⟩ := h
  unfold acquire at hn
  split at hn
  · next m hm =>
    split at hn
    · cases hn; exact hcand _ hm
    · cases hn; omega
  · cases hn; omega
  · cases hn
  · next m hm =>
    split at hn
    · next hlt => cases hn; omega
    · cases hn

theorem followMark (form : MarkForm) (mid foreign : Bool) : (t.followMark form mid foreign).inRange := by
  obtain ⟨hframe, hbit, hsince, hcand, hslots⟩ := id h
  unfold Tlu.followMark
  split
  · exact h
  · dsimp only
    split
    · exact ⟨hframe, hbit, Nat.zero_le _, fun n hn => h.acquire_le form mid hn, hslots⟩
    · exact ⟨hframe, hbit, hsince, fun n hn => h.acquire_le form mid hn, hslots⟩
  · exact ⟨hframe, hbit, countForeign_le _ _, hcand, hslots⟩
  · split
    · exact ⟨hframe, hbit, Nat.zero_le _, hcand, hslots⟩
    · exact ⟨hframe, hbit, countForeign_le false _, hcand, hslots⟩

end Tlu.inRange

theorem State.slotOver_inRange (k : Fin 40) (wait : Fin 13) {s : State} (h : s.tlu.inRange) : (s.slotOver k wait).tlu.inRange := by
  obtain ⟨hframe, hbit, hsince, hcand, -⟩ := h
  refine ⟨hframe, ?_, hsince, hcand, k.isLt⟩
  show max s.tlu.bitTime (slotEnd k + wait.val) ≤ 508
  unfold slotEnd
  omega

theorem Tlu.inRange_reset : Tlu.reset.inRange := by
  refine ⟨?_, ?_, ?_, nofun, ?_⟩ <;> decide

theorem State.readBack_inRange (k : Fin 40) {s : State} (h : s.tlu.inRange) : (s.readBack k).tlu.inRange := by
  unfold State.readBack
  split
  · split
    · exact h
    · exact h
  · exact h

theorem keptByParts_trunkInRange : KeptByParts State.trunkInRange where
  queue _ _ h := h
  event e s h := by
    rw [State.trunkInRange_iff] at h ⊢
    obtain heq | ⟨-, -, heq⟩ | ⟨-, -, heq⟩ := takeEvent_tlu_cases e s <;> rw [heq]
    · exact h
    · exact h.setLink _
    · exact h.listen
  clock s h := by
    unfold State.timePasses
    split
    · exact h
    · exact Tlu.inRange.bitTimePasses h
  reset _ _ := Tlu.inRange_reset
  loading _ h := h
  loaded image straps s h := by
    rw [State.trunkInRange_iff] at h ⊢
    rw [State.loadingBegun_tlu]
    have hnew : (s.tlu.listen.newFrame 0 0 false).inRange := h.listen.newFrame (Nat.zero_le 24) (Nat.zero_le 508) false
    exact hnew
  timer g s h := by
    unfold State.timerExpiry
    split
    · exact h
    · split
      · exact Tlu.inRange.driveMark h
      · exact Tlu.inRange.withBitTime h (by decide : 480 ≤ 508) rfl rfl rfl rfl
  guardRun s h := by
    unfold State.guardRunEnds
    split
    · exact Tlu.inRange.driveMark h
    · exact h
  readBack k s h := State.readBack_inRange k h
  flywheel bitTime s hbit h := Tlu.inRange.flywheel h (by omega)
  standing s h := Tlu.inRange.withBitTime h (by decide : 496 ≤ 508) rfl rfl rfl rfl
  mark form start s h := by
    rw [State.trunkInRange_iff] at h ⊢
    rw [State.markBegun_tlu]
    exact (h.followMark _ _ _).newFrame (frameAfter_le _ _) (by omega) true
  ignored _ h := h
  tagSlot k byte wait s h := by
    rw [State.trunkInRange_iff] at h ⊢
    rw [State.tagSlot_tlu]
    exact State.slotOver_inRange k wait h
  dataSlot k byte ninth wait s h := by
    rw [State.trunkInRange_iff] at h ⊢
    rw [State.dataSlot_tlu]
    exact State.slotOver_inRange k wait h
  tick fs s h := by
    rw [State.trunkInRange_iff] at h ⊢
    rw [State.cycleTick_tlu]
    exact h
  portBits _ _ h := by simpa [State.trunkInRange_iff] using h
  afsPulse _ h := by simpa [State.trunkInRange_iff] using h
  strobe _ _ _ _ h := by simpa [State.trunkInRange_iff] using h
  feed _ _ _ h := h
  link _ _ h := h
  discard _ h := h
  completions _ h := by simpa [State.trunkInRange_iff] using h
  lcuEnd _ _ _ h := by simpa [State.trunkInRange_iff] using h
  alert _ _ h := h
  dataEnd _ _ _ h := by simpa [State.trunkInRange_iff] using h
  tables _ _ h := by simpa [State.trunkInRange_iff] using h
  feedFrame _ _ _ h := by simpa [State.trunkInRange_iff] using h
  grant _ h := by simpa [State.trunkInRange_iff] using h

/-- Settles O56: each part of a step keeps the ranges, the bit time by the limits of the clock and of a slot's end. -/
theorem trunkNumbersStayInRange : Obligations.TrunkNumbersStayInRange :=
  fun _ _ h hstep => keptByParts_trunkInRange.step h hstep

/-! ### The link -/

theorem Tlu.followMark_link_cases (form : MarkForm) (mid foreign : Bool) (t : Tlu) :
    (t.followMark form mid foreign).link = t.link ∨
      (t.link ≠ .loading ∧ (t.followMark form mid foreign).link = .locked) := by
  unfold Tlu.followMark
  split
  · exact .inl rfl
  · next hlink =>
    dsimp only
    split
    · exact .inr ⟨by simp [hlink], rfl⟩
    · exact .inl rfl
  · exact .inl rfl
  · next hlink =>
    split
    · exact .inr ⟨by simp [hlink], rfl⟩
    · exact .inl rfl

theorem Tlu.flywheel_link (bitTime : Nat) (t : Tlu) : (t.flywheel bitTime).link = t.link := by
  unfold Tlu.flywheel Tlu.newFrame
  dsimp only
  split <;> rfl

theorem State.readBack_link (k : Fin 40) (s : State) : (s.readBack k).tlu.link = s.tlu.link := by
  unfold State.readBack
  split
  · split <;> rfl
  · rfl

theorem State.timerExpiry_link (g : GuardReading) (s : State) : (s.timerExpiry g).tlu.link = s.tlu.link := by
  unfold State.timerExpiry
  split
  · rfl
  · split <;> rfl

theorem State.guardRunEnds_link (s : State) : s.guardRunEnds.tlu.link = s.tlu.link := by
  unfold State.guardRunEnds
  split <;> rfl

/-- A property of the node state, the configuration and the link that a change to LOADING, to LISTEN and to LOCKED keeps, and a change
to LEADING of an eligible node. -/
structure LinkProperty (P : NodeState → Config → LinkState → Prop) : Prop where
  reset : P .loading Config.unloaded .loading
  loaded : ∀ c, P .running c .listen
  locks : ∀ n c l, l ≠ .loading → P n c l → P n c .locked
  listens : ∀ n c l, l ≠ .loading → P n c l → P n c .listen
  leads : ∀ n c l, c.eligible = true → l ≠ .loading → P n c l → P n c .leading

def State.linkHas (P : NodeState → Config → LinkState → Prop) (s : State) : Prop := P s.cfl.node s.cfl.config s.tlu.link

/-- A part that leaves the loader and the link as they are keeps the property. -/
theorem State.linkHas_of_eq {P : NodeState → Config → LinkState → Prop} {s t : State} (hcfl : t.cfl = s.cfl)
    (hlink : t.tlu.link = s.tlu.link) (h : s.linkHas P) : t.linkHas P := by
  unfold State.linkHas
  rw [hcfl, hlink]
  exact h

theorem LinkProperty.kept {P : NodeState → Config → LinkState → Prop} (L : LinkProperty P) : KeptByParts (State.linkHas P) where
  queue _ _ h := h
  event e s h := by
    have hcfl : (takeEvent e s).cfl = s.cfl := by simp
    unfold State.linkHas
    rw [hcfl]
    obtain heq | ⟨helig, hlink, heq⟩ | ⟨-, hlink, heq⟩ := takeEvent_tlu_cases e s <;> rw [heq]
    · exact h
    · refine L.leads _ _ s.tlu.link helig ?_ h
      obtain hlink | hlink := hlink <;> simp [hlink]
    · exact L.listens _ _ s.tlu.link (by simp [hlink]) h
  clock s h := by
    unfold State.linkHas
    rw [State.timePasses_node, State.timePasses_config, State.timePasses_link]
    exact h
  reset _ _ := L.reset
  loading _ h := h
  loaded image straps s _ := by
    unfold State.linkHas
    rw [State.loadingBegun_tlu, State.loadingBegun_cfl]
    exact L.loaded _
  timer g s h := State.linkHas_of_eq (by simp) (s.timerExpiry_link g) h
  guardRun s h := State.linkHas_of_eq (by simp) s.guardRunEnds_link h
  readBack k s h := State.linkHas_of_eq (by simp) (s.readBack_link k) h
  flywheel bitTime s _ h := State.linkHas_of_eq (s := s) rfl (s.tlu.flywheel_link bitTime) h
  standing _ h := h
  mark form start s h := by
    unfold State.linkHas
    rw [State.markBegun_tlu, State.markBegun_cfl]
    obtain heq | ⟨hlink, heq⟩ := s.tlu.followMark_link_cases form (isMidFrame start) (!s.isOwnMark start)
    · exact heq ▸ h
    · exact heq ▸ L.locks _ _ _ hlink h
  ignored _ h := h
  tagSlot k byte wait s h := State.linkHas_of_eq (by simp) (by rw [State.tagSlot_tlu]; rfl) h
  dataSlot k byte ninth wait s h := State.linkHas_of_eq (by simp) (by rw [State.dataSlot_tlu]; rfl) h
  tick fs s h := State.linkHas_of_eq (by simp) (by rw [State.cycleTick_tlu]; rfl) h
  portBits _ _ h := State.linkHas_of_eq (by simp) (by simp) h
  afsPulse _ h := State.linkHas_of_eq (by simp) (by simp) h
  strobe _ _ _ _ h := State.linkHas_of_eq (by simp) (by simp) h
  feed _ _ _ h := h
  link _ _ h := h
  discard _ h := h
  completions _ h := State.linkHas_of_eq (by simp) (by simp) h
  lcuEnd _ _ _ h := State.linkHas_of_eq (by simp) (by simp) h
  alert _ _ h := h
  dataEnd _ _ _ h := State.linkHas_of_eq (by simp) (by simp) h
  tables _ _ h := State.linkHas_of_eq (by simp) (by simp) h
  feedFrame _ _ _ h := State.linkHas_of_eq (by simp) (by simp) h
  grant _ h := State.linkHas_of_eq (by simp) (by simp) h

theorem linkProperty_matchesNode : LinkProperty fun n _ l => n = .loading ↔ l = .loading where
  reset := by simp
  loaded := by simp
  locks _ _ _ hl h := by simpa [hl] using h
  listens _ _ _ hl h := by simpa [hl] using h
  leads _ _ _ _ hl h := by simpa [hl] using h

theorem linkProperty_leaderEligible : LinkProperty fun _ c l => l = .leading → c.eligible = true where
  reset := nofun
  loaded _ := nofun
  locks _ _ _ _ _ := nofun
  listens _ _ _ _ _ := nofun
  leads _ _ _ helig _ _ _ := helig

/-- Settles O57: of the link's changes only LOADING's end and the device reset change the node state, and only an eligible node's
expiries lead. -/
theorem linkStaysLegal : Obligations.LinkStaysLegal :=
  fun _ _ hstep => ⟨fun h => linkProperty_matchesNode.kept.step h hstep, fun h => linkProperty_leaderEligible.kept.step h hstep⟩

end Sys2Proof.Machine
end

section
/-!
PROOFS. The bounds of the sample FIFOs, of the out queue and of the missed-wake list (O58).
-/

namespace Sys2Proof.Machine

theorem foldl_keeps {σ α : Type} {I : σ → Prop} {f : σ → α → σ} (hf : ∀ s a, I s → I (f s a)) (l : List α) {s : σ} (h : I s) :
    I (l.foldl f s) := by
  induction l generalizing s with
  | nil => exact h
  | cons a l ih => exact ih (hf s a h)

/-! ### The sample FIFOs and the open port frame -/

/-- R44, R46: the bounds of `State.fifosBounded`, of the ASP alone. -/
def Asp.bounded (a : Asp) : Prop := (∀ c : Fin 8, (a.ch.get c).fifo.length ≤ 4) ∧ a.bits.length < 128

theorem State.fifosBounded_iff (s : State) : s.fifosBounded ↔ s.asp.bounded := Iff.rfl

namespace Asp.bounded
variable {a : Asp} (h : a.bounded)
include h

theorem setChannel (c : Fin 8) {x : AspChannel} (hx : x.fifo.length ≤ 4) : ({ a with ch := a.ch.set c x } : Asp).bounded := by
  obtain ⟨hfifo, hbits⟩ := h
  refine ⟨fun d => ?_, hbits⟩
  simp only [Table.get_set]
  split
  · exact hx
  · exact hfifo d

theorem openWith {bits : List Bool} (hbits : bits.length < 128) : (a.openWith bits).bounded := ⟨h.1, hbits⟩

theorem closed : a.closed.bounded := h.openWith (bits := []) (by decide)

end Asp.bounded

theorem AspChannel.push_fifo_le {x : AspChannel} (h : x.fifo.length ≤ 4) (code : Byte) : (x.push code).1.fifo.length ≤ 4 := by
  unfold AspChannel.push
  split
  · exact h
  · simp only [List.length_append, List.length_singleton]
    omega

theorem AspChannel.feed_fifo_le {x : AspChannel} (h : x.fifo.length ≤ 4) (held enabled : Bool) :
    (x.feed held enabled).1.fifo.length ≤ 4 := by
  unfold AspChannel.feed
  split
  · split
    · next code rest heq =>
      rw [heq, List.length_cons] at h
      dsimp only
      omega
    · dsimp only
      split <;> exact h
  · split
    · exact Nat.zero_le 4
    · exact h

theorem State.channelWord_bounded (bits : List Bool) (c : Fin 8) {s : State} (h : s.asp.bounded) :
    (s.channelWord bits c).asp.bounded := by
  have hset := h.setChannel c (AspChannel.push_fifo_le (h.1 c) (logEncode (portWord bits c)))
  unfold State.channelWord
  dsimp only
  split
  · split <;> exact hset
  · exact h

theorem State.channelFeed_bounded (c : Fin 8) {s : State} (h : s.asp.bounded) : (s.channelFeed c).asp.bounded := by
  have hset := h.setChannel c (AspChannel.feed_fifo_le (h.1 c) (s.held (aspHolding c)) (s.cfg.asp.get c).enabled)
  unfold State.channelFeed
  dsimp only
  split <;> exact hset

theorem State.portBits_bounded (bits : List Bool) {s : State} (h : s.asp.bounded) : (s.portBits bits).asp.bounded := by
  unfold State.portBits
  dsimp only
  split
  · split
    · next hlen => exact h.openWith hlen
    · exact Asp.bounded.closed (foldl_keeps (I := fun s : State => s.asp.bounded)
        (fun _ c => State.channelWord_bounded _ c) (indices 8) h)
  · exact h

theorem State.afsPulse_bounded {s : State} (h : s.asp.bounded) : s.afsPulse.asp.bounded := by
  have hopen : (s.asp.openWith []).bounded := h.openWith (by decide)
  unfold State.afsPulse
  dsimp only
  split
  · split
    · exact hopen
    · exact h
  · exact hopen

theorem State.aspFrameStart_bounded {s : State} (h : s.asp.bounded) : s.aspFrameStart.asp.bounded := by
  unfold State.aspFrameStart
  dsimp only
  split
  · exact h
  · have hfed := foldl_keeps (I := fun s : State => s.asp.bounded) (fun s c => State.channelFeed_bounded c) (indices 8) h
    generalize (indices 8).foldl (fun s c => s.channelFeed c) s = fed at hfed ⊢
    split
    · exact hfed.openWith (bits := []) (by decide)
    · exact hfed

theorem State.feedFrame_asp (e : FrameEnd) (o : FrameOrder) (s : State) : (s.feedFrame e o).asp = s.aspFrameStart.asp := by
  unfold State.feedFrame
  dsimp only
  repeat' split
  all_goals simp

theorem Asp.bounded_reset : Asp.reset.bounded := by
  refine ⟨fun c => ?_, by decide⟩
  simp [Asp.reset, AspChannel.reset]

/-- A talk change leaves the FIFOs and the port frame. -/
theorem takeEvent_bounded (e : Event) {s : State} (h : s.asp.bounded) : (takeEvent e s).asp.bounded := by
  cases e with
  | talkActivation c =>
    simp only [takeEvent]
    unfold State.takeTalkActivation
    dsimp only
    split
    · split <;> exact h
    · exact h
  | talkDeactivation c =>
    simp only [takeEvent]
    unfold State.takeTalkDeactivation
    dsimp only
    split <;> exact h
  | command k => cases k <;> simpa [takeEvent] using h
  | _ => simpa [takeEvent] using h

theorem State.cycleTick_asp (fs : FrameStart) (s : State) :
    (s.cycleTick fs).asp = ({ s with tlu := s.tlu.tick }.sampleTalk fs.pins.talkHigh).asp := by
  unfold State.cycleTick
  dsimp only
  split <;> simp [State.sampleTalk, State.aspCfg, State.cfg] <;> rfl

theorem keptByParts_fifosBounded : KeptByParts State.fifosBounded where
  queue _ _ h := h
  event e _ h := takeEvent_bounded e h
  clock s h := by simpa [State.fifosBounded_iff] using h
  reset _ _ := Asp.bounded_reset
  loading _ h := h
  loaded _ _ _ h := by simpa [State.fifosBounded_iff, State.loadingBegun] using h
  timer _ _ h := by simpa [State.fifosBounded_iff] using h
  guardRun _ h := by simpa [State.fifosBounded_iff] using h
  readBack _ _ h := by simpa [State.fifosBounded_iff] using h
  flywheel _ _ _ h := h
  standing _ h := h
  mark _ _ _ h := by simpa [State.fifosBounded_iff, State.markBegun] using h
  ignored _ h := h
  tagSlot _ _ _ _ h := by simpa [State.fifosBounded_iff] using h
  dataSlot _ _ _ _ _ h := by simpa [State.fifosBounded_iff] using h
  portBits bits _ h := State.portBits_bounded bits h
  afsPulse _ h := State.afsPulse_bounded h
  strobe _ _ _ _ h := by simpa [State.fifosBounded_iff] using h
  feed _ _ _ h := h
  link _ _ h := h
  discard _ h := h
  tick fs s h := by
    rw [State.fifosBounded_iff, State.cycleTick_asp]
    exact h
  completions _ h := by simpa [State.fifosBounded_iff] using h
  lcuEnd _ _ _ h := by simpa [State.fifosBounded_iff] using h
  alert _ _ h := h
  dataEnd _ _ _ h := by simpa [State.fifosBounded_iff] using h
  tables _ _ h := by simpa [State.fifosBounded_iff] using h
  feedFrame e o s h := by
    rw [State.fifosBounded_iff, State.feedFrame_asp]
    exact State.aspFrameStart_bounded h
  grant _ h := by simpa [State.fifosBounded_iff] using h

/-! ### A property of the Control Message Unit -/

theorem State.followBerth_cases (b : Fin 4) (s : State) :
    s.followBerth b = s ∨ s.followBerth b = s.publish b (s.selectFollow b) := by
  unfold State.followBerth
  exact ite_eq_or_eq _ _ _

/-- `J` is kept by each operation on the Control Message Unit's state. -/
structure CmuProperty (J : Cmu → Prop) : Prop where
  reset : J .reset
  rest : ∀ (c : Cmu) rx dispatch prescaler, J c → J { c with rx := rx, dispatch := dispatch, prescaler := prescaler }
  put : ∀ c o bytes, o ≠ .serviceLink → J c → J (c.put o bytes)
  append : ∀ (c : Cmu) bytes, c.serviceItems < 4 → J c → J { c with queue := c.queue ++ [⟨.serviceLink, bytes, none⟩] }
  restart : ∀ c, J c → J c.restart
  feed : ∀ held silenced frame c, J c → J (c.feed held silenced frame)
  frameEnd : ∀ held abandoned frame c, J c → J (c.frameEnd held abandoned frame)
  age : ∀ c : Cmu, J c → J { c with missed := missedAge c.missed }
  add : ∀ (c : Cmu) n b st, J c → J { c with missed := (missedAdd n b st c.missed).1 }
  remove : ∀ (c : Cmu) n b, J c → J { c with missed := missedRemove n b c.missed }

namespace CmuProperty
variable {J : Cmu → Prop} (C : CmuProperty J)
include C

theorem handMessage {o : Origin} (ho : o ≠ .serviceLink) (m : Message) {s : State} (h : J s.cmu) :
    J (s.handMessage o m).cmu := C.put _ _ _ ho h

theorem sourceReleased (x : Fin 11) {s : State} (h : J s.cmu) : J (s.sourceReleased x).cmu := by
  unfold State.sourceReleased
  split
  · exact h
  · exact h
  · split
    · exact C.restart _ h
    · exact h

theorem leaveHeld (x : Fin 11) (y : Holding) {s : State} (h : J s.cmu) : J (s.leaveHeld x y).cmu := C.sourceReleased x h

theorem holdingTick (x : Fin 11) {s : State} (h : J s.cmu) : J (s.holdingTick x).cmu := by
  unfold State.holdingTick
  dsimp only
  split
  case h_8 => exact C.leaveHeld _ _ h
  case h_5 => split <;> exact h
  all_goals exact h

theorem smuTick {s : State} (h : J s.cmu) : J s.smuTick.cmu := by
  have hticked : J ((indices 11).foldl (fun s h => s.holdingTick h) s).cmu :=
    foldl_keeps (I := fun s : State => J s.cmu) (fun _ x => C.holdingTick x) (indices 11) h
  unfold State.smuTick
  generalize (indices 11).foldl (fun s h => s.holdingTick h) s = ticked at hticked ⊢
  exact hticked

theorem settleHolding (x : Fin 11) {s : State} (h : J s.cmu) : J (s.settleHolding x).cmu := by
  unfold State.settleHolding
  dsimp only
  split
  · split
    · exact h
    · split <;> exact h
  · split
    · exact C.leaveHeld _ _ h
    · exact h
  · exact h
  · exact h

theorem smuMapUpdate {s : State} (h : J s.cmu) : J s.smuMapUpdate.cmu := by
  have hsettled := foldl_keeps (I := fun s : State => J s.cmu) (fun _ x => C.settleHolding x) (indices 11)
    (s := s.replaceMap) (by simpa using h)
  unfold State.smuMapUpdate
  simpa using hsettled

theorem collide (x : Fin 11) {s : State} (h : J s.cmu) : J (s.collide x).cmu :=
  keeps_when (I := fun s : State => J s.cmu) (f := fun s => (s.leaveHeld x _).bump _) (fun _ => C.leaveHeld x _) s h

theorem holdingTeardown (x : Fin 11) {s : State} (h : J s.cmu) : J (s.holdingTeardown x).cmu := by
  unfold State.holdingTeardown
  dsimp only
  split
  · exact C.leaveHeld _ _ h
  · exact h
  · exact h
  · exact h

theorem smuTeardown {s : State} (h : J s.cmu) : J s.smuTeardown.cmu := by
  have htorn : J ((indices 11).foldl (fun s h => s.holdingTeardown h) s).cmu :=
    foldl_keeps (I := fun s : State => J s.cmu) (fun _ x => C.holdingTeardown x) (indices 11) h
  unfold State.smuTeardown
  generalize (indices 11).foldl (fun s h => s.holdingTeardown h) s = torn at htorn ⊢
  exact htorn

theorem queueWakeClear (b : Fin 4) {s : State} (h : J s.cmu) : J (s.queueWakeClear b).cmu :=
  C.handMessage (o := .berth b) nofun _ h

theorem queueWakeMissed (b : Fin 4) {s : State} (h : J s.cmu) : J (s.queueWakeMissed b).cmu :=
  C.handMessage (o := .berth b) nofun _ h

theorem wkuFollowChange (b : Fin 4) (new : Follow) {s : State} (h : J s.cmu) : J (s.wkuFollowChange b new).cmu := by
  unfold State.wkuFollowChange
  dsimp only
  split
  · split
    case h_2 => exact C.queueWakeClear b (by simpa using h)
    all_goals simpa using h
  · split
    · split <;> simpa using h
    · exact h

theorem publish (b : Fin 4) (new : Follow) {s : State} (h : J s.cmu) : J (s.publish b new).cmu := by
  unfold State.publish
  have hfollow := C.wkuFollowChange b new (s := (s.setFollow b new).mixFollowChange b (s.anu.follow.get b) new) (by simpa using h)
  simpa using hfollow

theorem endFollows (i : Fin 16) {s : State} (h : J s.cmu) : J (s.endFollows i).cmu := by
  refine foldl_keeps (I := fun s : State => J s.cmu) (fun s b h => ?_) (indices 4) h
  exact keeps_when (I := fun s : State => J s.cmu) (fun s => C.publish b .nothing) s h

theorem freeNow (i : Fin 16) {s : State} (h : J s.cmu) : J (s.freeNow i).cmu := C.endFollows i h

theorem anuTeardown {s : State} (h : J s.cmu) : J s.anuTeardown.cmu := by
  refine foldl_keeps (I := fun s : State => J s.cmu) (fun s i h => ?_) announcementIndices h
  split
  · exact h
  · exact C.freeNow i h

theorem followBerth (b : Fin 4) {s : State} (h : J s.cmu) : J (s.followBerth b).cmu := by
  obtain heq | heq := s.followBerth_cases b <;> rw [heq]
  · exact h
  · exact C.publish b _ h

theorem evaluate {s : State} (h : J s.cmu) : J s.evaluate.cmu := by
  have htable : J s.evaluateTable.cmu := by simpa using h
  exact foldl_keeps (I := fun s : State => J s.cmu) (fun _ b => C.followBerth b) s.evaluateTable.configuredBerths htable

theorem enterListen {s : State} (h : J s.cmu) : J s.enterListen.cmu := by
  have hsmu : J ({ s with tlu := s.tlu.listen } : State).smuTeardown.cmu := C.smuTeardown h
  have hanu : J ({ s with tlu := s.tlu.listen } : State).smuTeardown.lcuTeardown.anuTeardown.cmu :=
    C.anuTeardown (by simpa using hsmu)
  exact C.rest _ _ _ _ hanu

theorem receiverTake (slot : Nat) (byte : Byte) (mark : Bool) (i : Fin 4) {s : State} (h : J s.cmu) :
    J (s.receiverTake slot byte mark i).cmu := by
  unfold State.receiverTake
  dsimp only
  split
  · simpa using C.rest s.cmu _ _ s.cmu.prescaler h
  · exact h

theorem receiversTake (slot : Nat) (byte : Byte) (mark : Bool) {s : State} (h : J s.cmu) :
    J (s.receiversTake slot byte mark).cmu :=
  foldl_keeps (I := fun s : State => J s.cmu) (fun _ i => C.receiverTake slot byte mark i) (indices 4) h

theorem mapUpdate {s : State} (h : J s.cmu) : J s.mapUpdate.cmu := by
  have hmap : J s.smuMapUpdate.receiversReassign.cmu := C.rest _ _ _ _ (C.smuMapUpdate h)
  exact C.evaluate (s := s.smuMapUpdate.receiversReassign.lcuMapUpdate.bcuCompletions) (by simpa using hmap)

theorem tagSlot (k : Fin 40) (byte : Byte) (wait : Fin 13) {s : State} (h : J s.cmu) : J (s.tagSlot k byte wait).cmu :=
  keeps_when (I := fun s : State => J s.cmu) (fun _ => C.mapUpdate) ((s.collect k byte (s.resultOf k)).slotOver k wait) h

theorem dataSlot (k : Fin 40) (byte : Byte) (ninth : Bool) (wait : Fin 13) {s : State} (h : J s.cmu) :
    J (s.dataSlot k byte ninth wait).cmu := by
  have hcounted : J ((s.slotOver k wait).countParity k byte ninth).cmu := by simpa using h
  unfold State.dataSlot
  dsimp only
  refine C.receiversTake _ _ _ ?_
  split
  · simpa using C.collide _ hcounted
  · simpa using hcounted

/-! The events. -/

theorem acknowledge (b : Fin 4) {s : State} (h : J s.cmu) : J (s.acknowledge b).cmu := by
  unfold State.acknowledge
  dsimp only
  split
  · simpa using h
  · exact C.queueWakeClear b (by simpa using h)
  all_goals exact h

theorem takeAckPress (b : Fin 4) {s : State} (h : J s.cmu) : J (s.takeAckPress b).cmu := by
  unfold State.takeAckPress
  dsimp only
  split
  · split
    · exact C.acknowledge b h
    · exact C.acknowledge b h
    all_goals simpa using h
  · exact h

theorem takeHoldTimer (b : Fin 4) {s : State} (h : J s.cmu) : J (s.takeHoldTimer b).cmu := by
  unfold State.takeHoldTimer
  dsimp only
  split
  · split
    · exact C.queueWakeMissed b (by simpa using h)
    · simpa using h
    all_goals exact h
  · exact h

theorem wkuBerthSet (b : Fin 4) (st : Nat) {s : State} (h : J s.cmu) : J (s.wkuBerthSet b st).cmu := by
  unfold State.wkuBerthSet
  dsimp only
  split
  · simpa using h
  · exact C.queueWakeClear b (by simpa using h)
  all_goals simpa using h

theorem takeBerthSet {s : State} (h : J s.cmu) : J s.takeBerthSet.cmu := by
  unfold State.takeBerthSet
  split
  · next n b st rest _ =>
    have hrest : J { s.cmu with dispatch := rest } := C.rest _ _ _ _ h
    dsimp only
    split
    · exact C.wkuBerthSet _ _ (by simpa using hrest)
    · exact hrest
  · exact h

theorem takeWakeClear {s : State} (h : J s.cmu) : J s.takeWakeClear.cmu := by
  unfold State.takeWakeClear
  split
  · next n b rest _ =>
    have hrest : J { s.cmu with dispatch := rest, missed := missedRemove n b s.cmu.missed } :=
      C.rest _ _ _ _ (C.remove _ n b h)
    dsimp only
    split
    · split
      · simpa using hrest
      · exact hrest
    · exact hrest
  · exact h

theorem takeWakeMissed {s : State} (h : J s.cmu) : J s.takeWakeMissed.cmu := by
  unfold State.takeWakeMissed
  split
  · next n b st rest _ =>
    have hrest : J { s.cmu with dispatch := rest, missed := (missedAdd n b st s.cmu.missed).1 } :=
      C.rest _ _ _ _ (C.add _ n b st h)
    dsimp only
    split <;> exact hrest
  · exact h

theorem takeTalkActivation (c : Fin 4) {s : State} (h : J s.cmu) : J (s.takeTalkActivation c).cmu := by
  unfold State.takeTalkActivation
  dsimp only
  split
  · split
    · exact C.handMessage (o := .channel c) nofun _ h
    · exact h
  · exact h

theorem takeSend {s : State} (h : J s.cmu) : J s.takeSend.cmu := by
  unfold State.takeSend State.takeCommand
  split
  · exact h
  · split
    · dsimp only
      split
      · exact h
      · unfold State.sendEffect
        dsimp only
        split
        · exact h
        · split
          · exact h
          · next hfew => exact C.append _ _ (Nat.lt_of_not_le hfew) h
    · exact h

theorem event (e : Event) {s : State} (h : J s.cmu) : J (takeEvent e s).cmu := by
  have hrest : ∀ rest, J ({ s with cmu := { s.cmu with dispatch := rest } } : State).cmu := fun rest => C.rest _ _ _ _ h
  cases e with
  | framesSinceForeign =>
    simp only [takeEvent]
    unfold State.takeFramesSinceForeign
    split
    · split
      · exact h
      · exact C.enterListen h
    · exact h
  | present =>
    simp only [takeEvent]
    unfold State.takePresent
    split
    · simpa using hrest _
    · exact h
  | withdraw =>
    simp only [takeEvent]
    unfold State.takeWithdraw
    split
    · unfold State.applyWithdraw
      split
      · split
        · exact C.freeNow _ (hrest _)
        · exact hrest _
      · exact hrest _
    · exact h
  | zoneMode =>
    simp only [takeEvent]
    unfold State.takeZoneMode
    split
    · exact hrest _
    · exact h
  | card =>
    simp only [takeEvent]
    unfold State.takeCard
    split
    · simpa using hrest _
    · exact h
  | berthSet => exact C.takeBerthSet h
  | wakeMissed => exact C.takeWakeMissed h
  | wakeClear => exact C.takeWakeClear h
  | fading i => exact keeps_when (I := fun s : State => J s.cmu) (fun _ => C.freeNow i) s h
  | descriptionAge i => exact keeps_when (I := fun s : State => J s.cmu) (fun _ => C.freeNow i) s h
  | secondsPrescaler =>
    simp only [takeEvent]
    unfold State.takeSecondsPrescaler
    split
    · exact C.rest _ _ _ 1000 (C.age s.cmu h)
    · exact h
  | talkActivation c => exact C.takeTalkActivation c h
  | ackPress b => exact C.takeAckPress b h
  | holdTimer b => exact C.takeHoldTimer b h
  | command k =>
    cases k with
    | send => exact C.takeSend h
    | _ => simpa [takeEvent] using h
  | _ => simpa [takeEvent] using h

theorem cycleTick (fs : FrameStart) {s : State} (h : J s.cmu) : J (s.cycleTick fs).cmu := by
  have hcounted := C.rest s.cmu s.cmu.rx s.cmu.dispatch (s.cmu.prescaler - 1) h
  unfold State.cycleTick
  dsimp only
  split <;> simpa using hcounted

theorem dataFrameEnd (e : FrameEnd) (o : FrameOrder) {s : State} (h : J s.cmu) : J (s.dataFrameEnd e o).cmu := by
  unfold State.dataFrameEnd
  dsimp only
  split
  · simpa using h
  · exact C.frameEnd _ _ _ _ (by simpa using h)

theorem feedFrame (e : FrameEnd) (o : FrameOrder) {s : State} (h : J s.cmu) : J (s.feedFrame e o).cmu := by
  have hstart : J s.aspFrameStart.mixFrameStart.cmu := by simpa using h
  unfold State.feedFrame
  dsimp only
  refine keeps_when (I := fun s : State => J s.cmu) (f := fun s => s.cmuFrameEnd _ _) (fun s => C.frameEnd _ _ _ _) _ ?_
  split
  · exact hstart
  · exact C.feed _ _ _ _ (by simpa using h)

theorem tablesTick (listen : Bool) {s : State} (h : J s.cmu) : J (s.tablesTick listen).cmu :=
  keeps_when (I := fun s : State => J s.cmu) (fun _ => C.evaluate) s.smuTick (C.smuTick h)

/-- A property of the Control Message Unit that its operations keep is kept by every part of a step. -/
theorem kept : KeptByParts fun s => J s.cmu where
  queue _ _ h := h
  event e _ h := C.event e h
  clock s h := by simpa using h
  reset _ _ := C.reset
  loading _ h := h
  loaded image straps s h := C.enterListen (s := s.configure image straps) (by simpa using h)
  timer _ _ h := by simpa using h
  guardRun _ h := by simpa using h
  readBack _ _ h := by simpa using h
  flywheel _ _ _ h := h
  standing _ h := h
  mark _ _ _ h := by simpa [State.markBegun] using h
  ignored _ h := h
  tagSlot k byte wait _ h := C.tagSlot k byte wait h
  dataSlot k byte ninth wait _ h := C.dataSlot k byte ninth wait h
  portBits _ _ h := by simpa using h
  afsPulse _ h := by simpa using h
  strobe _ _ _ _ h := by simpa using h
  feed _ _ _ h := h
  link _ _ h := h
  discard _ h := h
  tick fs _ h := C.cycleTick fs h
  completions _ h := by simpa using h
  lcuEnd _ _ _ h := by simpa using h
  alert _ _ h := h
  dataEnd e o _ h := C.dataFrameEnd e o h
  tables listen _ h := C.tablesTick listen h
  feedFrame e o _ h := C.feedFrame e o h
  grant _ h := by simpa using h

end CmuProperty

/-! ### The out queue -/

/-- R66: the limits of `State.queueWithinLimits`, of the origins of the items in their order. -/
def originsWithinLimits (os : List Origin) : Prop := os.count .serviceLink ≤ 4 ∧ ∀ o, o ≠ .serviceLink → os.count o ≤ 1

def origins (q : List QueueItem) : List Origin := q.map (·.origin)

theorem count_origins (q : List QueueItem) (o : Origin) :
    (origins q).count o = (q.filter fun i => decide (i.origin = o)).length := by
  rw [origins, List.count_eq_countP, List.countP_map, List.countP_eq_length_filter]
  congr 1

theorem State.queueWithinLimits_iff (s : State) : s.queueWithinLimits ↔ originsWithinLimits (origins s.cmu.queue) := by
  unfold State.queueWithinLimits originsWithinLimits
  simp only [count_origins]

theorem originsWithinLimits.sublist {l m : List Origin} (h : originsWithinLimits m) (hsub : l.Sublist m) :
    originsWithinLimits l :=
  ⟨(hsub.count_le _).trans h.1, fun o ho => (hsub.count_le _).trans (h.2 o ho)⟩

theorem originsWithinLimits.append {os : List Origin} {o : Origin} (h : originsWithinLimits os)
    (hroom : if o = .serviceLink then os.count o < 4 else os.count o = 0) : originsWithinLimits (os ++ [o]) := by
  refine ⟨?_, fun p hp => ?_⟩
  · rw [List.count_append, List.count_singleton]
    have := h.1
    split at hroom
    · next ho => subst ho; simp; omega
    · next ho => simp [ho]; omega
  · rw [List.count_append, List.count_singleton]
    have := h.2 p hp
    by_cases hop : o = p
    · subst hop
      rw [if_neg hp] at hroom
      simp [hroom]
    · simp [hop, this]

theorem origins_replaceOrigin (o : Origin) (bytes : List Byte) (q : List QueueItem) :
    origins (replaceOrigin o bytes q) = origins q := by
  induction q with
  | nil => rfl
  | cons i rest ih =>
    unfold replaceOrigin
    split
    · next ho => simp [origins, ho]
    · simpa [origins] using ih

theorem hasOrigin_eq_false {o : Origin} {q : List QueueItem} (h : ¬hasOrigin o q = true) : (origins q).count o = 0 := by
  rw [List.count_eq_zero]
  simpa [hasOrigin, origins] using h

theorem Cmu.origins_restart (c : Cmu) : origins c.restart.queue = origins c.queue := by
  simp [Cmu.restart, origins]

theorem Cmu.origins_fix (frame : Nat) (c : Cmu) : origins (c.fix frame).queue = origins c.queue := by
  unfold Cmu.fix
  split
  · rfl
  · next q rest heq =>
    dsimp only
    split
    · split <;> simp [origins, heq]
    · split
      · split <;> simp [origins, heq]
      · rfl

theorem Cmu.origins_feed (held silenced : Bool) (frame : Nat) (c : Cmu) :
    origins (c.feed held silenced frame).queue = origins c.queue := by
  unfold Cmu.feed
  split
  · split
    · dsimp only
      split
      · exact c.origins_restart
      · rfl
    · exact c.origins_fix frame
  · rfl

theorem Cmu.origins_frameEnd (held abandoned : Bool) (frame : Nat) (c : Cmu) :
    (origins (c.frameEnd held abandoned frame).queue).Sublist (origins c.queue) := by
  unfold Cmu.frameEnd
  split
  · split
    · rw [c.origins_restart]
    · exact List.Sublist.refl _
  · split
    · dsimp only
      split
      · next q rest heq =>
        rw [heq]
        split
        · exact List.Sublist.map _ (List.sublist_cons_self q rest)
        · exact List.Sublist.refl _
      · next heq => rw [heq]
    · exact List.Sublist.refl _

theorem cmuProperty_queueWithinLimits : CmuProperty fun c => originsWithinLimits (origins c.queue) where
  reset := ⟨by decide, fun _ _ => Nat.zero_le 1⟩
  rest _ _ _ _ h := h
  put c o bytes ho h := by
    unfold Cmu.put
    split
    · dsimp only
      rw [origins_replaceOrigin]
      exact h
    · next hnone =>
      have happ := h.append (o := o) (by rw [if_neg ho]; exact hasOrigin_eq_false hnone)
      simpa [origins] using happ
  append c bytes hfew h := by
    have happ := h.append (o := .serviceLink) (by rw [if_pos rfl, count_origins]; exact hfew)
    simpa [origins] using happ
  restart c h := by rw [c.origins_restart]; exact h
  feed held silenced frame c h := by rw [c.origins_feed]; exact h
  frameEnd held abandoned frame c h := h.sublist (c.origins_frameEnd held abandoned frame)
  age _ h := h
  add _ _ _ _ h := h
  remove _ _ _ h := h

/-! ### The missed-wake list -/

/-- R78: the bounds of `State.missedListOk`, of the list alone. -/
def missedOk (l : List MissedEntry) : Prop :=
  l.length ≤ 16 ∧ l.Pairwise fun a b => ¬(a.node = b.node ∧ a.berth = b.berth)

theorem missedOk.sublist {l m : List MissedEntry} (h : missedOk m) (hsub : l.Sublist m) : missedOk l :=
  ⟨hsub.length_le.trans h.1, h.2.sublist hsub⟩

/-- A list with room takes an entry that none of its entries names. -/
theorem missedOk.append {l : List MissedEntry} {e : MissedEntry} (h : missedOk l) (hroom : l.length < 16)
    (hnew : ∀ x ∈ l, x.names e.node e.berth = false) : missedOk (l ++ [e]) := by
  refine ⟨by simp; omega, List.pairwise_append.mpr ⟨h.2, List.pairwise_singleton _ _, fun x hx y hy => ?_⟩⟩
  rw [List.mem_singleton.mp hy]
  simpa [MissedEntry.names] using hnew x hx

theorem missedOk.add {l : List MissedEntry} (h : missedOk l) (n b st : Nat) : missedOk (missedAdd n b st l).1 := by
  unfold missedAdd
  dsimp only
  split
  · next hany =>
    refine (h.sublist List.filter_sublist).append ?_ fun x hx => by simpa using (List.mem_filter.mp hx).2
    obtain ⟨x, hx, hnames⟩ := List.any_eq_true.mp hany
    have hlt : (l.filter fun x => !x.names n b).length < l.length :=
      List.length_filter_lt_length_iff_exists.mpr ⟨x, hx, by simpa using hnames⟩
    exact lt_of_lt_of_le hlt h.1
  · next hany =>
    have hnew : ∀ x ∈ l, x.names n b = false := by simpa using hany
    split
    · next hroom => exact h.append hroom hnew
    · next hfull =>
      refine (h.sublist (List.drop_sublist 1 l)).append ?_ fun x hx => hnew x (List.mem_of_mem_drop hx)
      rw [List.length_drop]
      have := h.1
      omega

theorem missedOk.age {l : List MissedEntry} (h : missedOk l) : missedOk (missedAge l) := by
  refine ⟨by rw [missedAge, List.length_map]; exact h.1, ?_⟩
  rw [missedAge, List.pairwise_map]
  exact h.2

theorem cmuProperty_missedOk : CmuProperty fun c => missedOk c.missed where
  reset := ⟨by decide, List.Pairwise.nil⟩
  rest _ _ _ _ h := h
  put c o bytes _ h := by
    unfold Cmu.put
    split <;> exact h
  append _ _ _ h := h
  restart _ h := h
  feed held silenced frame c h := by
    unfold Cmu.feed Cmu.fix
    dsimp only
    repeat' split
    all_goals exact h
  frameEnd held abandoned frame c h := by
    unfold Cmu.frameEnd
    repeat' split
    all_goals exact h
  age _ h := h.age
  add _ n b st h := h.add n b st
  remove _ _ _ h := h.sublist List.filter_sublist

/-- Settles O58: the FIFOs' bound is kept by the ASP's operations, and the queue's and the list's by each operation of the CMU. -/
theorem queuesStayBounded : Obligations.QueuesStayBounded := by
  intro s t hstep
  refine ⟨fun h => keptByParts_fifosBounded.step h hstep, fun h => ?_, fun h => cmuProperty_missedOk.kept.step h hstep⟩
  rw [State.queueWithinLimits_iff] at h ⊢
  exact cmuProperty_queueWithinLimits.kept.step h hstep

end Sys2Proof.Machine
end

section
/-!
PROOFS. The device reset state and what it has of the invariants; the link's lead; inputs, lamp and the screen port (O5, O60, O13,
O41, O50).
-/

namespace Sys2Proof.Machine

/-! ### Device reset -/

/-- Settles O5: each block of the reset state is plain data. -/
theorem deviceResetState : Obligations.DeviceResetState := by
  intro s
  refine ⟨s.deviceReset, rfl, rfl, ⟨rfl, rfl, rfl, rfl, rfl, rfl⟩, ⟨rfl, rfl, rfl, rfl⟩, ?counters, ?trunk, ?map, ?ports, ?records,
    ?messages, ?announcements, ?lanes, ?berths, ?mixer, ?wake, ?screens⟩
  all_goals
    simp [State.deviceReset, State.reset, State.counter, State.holding, State.feed, Tlu.reset, Smu.reset, SlotEntry.clear,
      Holding.reset, Asp.reset, AspChannel.reset, Debouncer.reset, RspChannel.reset, Cmu.reset, Receiver.reset, Anu.reset,
      AnnEntry.free, AnnEntry.idle0, Follow.nothing, Lcu.reset, Lane.free, Assembler.free, Berth.unconfigured,
      MixBerth.unconfigured, LevelState.rest, Wake.unconfigured, Sfu.reset, Feed.reset, Loader.reset, State.running,
      State.abckDriven, State.afsPin, State.drivesAlrt, State.rrdy, State.lampHigh, State.bbckRuns, State.sclkRuns]
  case announcements =>
    intro i hi
    simp [Ne.symm hi]
  case mixer =>
    intro l
    cases l <;> simp [MixBerth.level]

theorem missedOk_nil : missedOk [] := ⟨Nat.zero_le _, List.Pairwise.nil⟩

theorem originsWithinLimits_nil : originsWithinLimits (origins []) := ⟨Nat.zero_le _, fun _ _ => Nat.zero_le _⟩

theorem State.reset_stopZeroIdle : State.reset.stopZeroIdle := fun b _ => by simp [State.reset, Wake.unconfigured]

theorem State.reset_entryZeroIsAlert : State.reset.entryZeroIsAlert := ⟨rfl, rfl, rfl, rfl, .inl rfl⟩

/-- Settles O60. -/
theorem resetHasTheInvariants : Obligations.ResetHasTheInvariants :=
  ⟨Tlu.inRange_reset, Iff.intro (fun _ => rfl) (fun _ => rfl), nofun, missedOk_nil,
    (State.queueWithinLimits_iff _).2 originsWithinLimits_nil, Asp.bounded_reset, State.reset_stopZeroIdle,
    State.reset_entryZeroIsAlert⟩

/-! ### The lead (R13, R14) -/

/-- Settles O13. -/
theorem eligibleNodeTakesTheLead : Obligations.EligibleNodeTakesTheLead := by
  intro s heligible
  constructor
  · intro hlink hcount
    have hdue : s.foreignDue = true := decide_eq_true ⟨hlink, hcount⟩
    rw [exec_of_event (e := .framesSinceForeign) rfl]
    simp [takeEvent, State.takeFramesSinceForeign, hdue, heligible, State.setLink]
  · intro hlink hcount
    have hdue : s.listenDue = true := by simp [State.listenDue, heligible, hlink, hcount]
    rw [exec_of_event (e := .framesInListen) rfl]
    simp [takeEvent, State.takeFramesInListen, hdue, State.setLink]

/-! ### Panel inputs and the lamp -/

/-- What the due condition of an input says of its debouncer. -/
theorem State.inputDue_iff {s : State} {b : Fin 4} {i : PanelInput} {level : Bool} :
    s.inputDue b i level = true ↔ (s.bcu.get b).inputTurn i = true ∧ ((s.bcu.get b).input i).active = !level := by
  simp [State.inputDue]

/-- An accepted change leaves the input in the other state, with run 0. -/
theorem Berth.acceptInput_eq {x : Berth} {i : PanelInput} {level : Bool} (h : (x.input i).active = !level) :
    x.acceptInput i = { x with inputs := x.inputs.set i.idx ⟨level, 0⟩ } := by
  have hactive : (!(x.inputs.get i.idx).active) = level := by rw [← Berth.input, h, Bool.not_not]
  simp [Berth.acceptInput, Table.modify, Debouncer.accept, hactive]

/-- Settles O41: each of the three events, by the condition that makes it due. -/
theorem inputsAndLampAreTaken : Obligations.InputsAndLampAreTaken := by
  intro b s
  refine ⟨fun hturn => ?headset, fun k => ?release, fun hdue => ?flash⟩
  case headset =>
    refine ⟨s.takeHeadsetDetect b, exec_of_event (e := .headsetDetect b) rfl s, ?_⟩
    rw [State.takeHeadsetDetect, if_pos hturn]
    refine ⟨rfl, fun c hc => ?_, ?_, ?_⟩
    · simp [Ne.symm hc]
    · simp [State.headsetPresent, Berth.acceptInput, Debouncer.accept]
    · simp [State.headsetPresent, Berth.acceptInput, Berth.input, Debouncer.accept]
  case release =>
    intro i hdue
    have hidx : (buttonInput k).idx = i := by cases k <;> rfl
    have hdue : s.inputDue b (buttonInput k) false = true := by cases k <;> exact hdue
    rw [exec_of_event (e := .buttonRelease b k) rfl]
    simp only [takeEvent, State.takeButtonRelease, if_pos hdue, Berth.acceptInput_eq (State.inputDue_iff.1 hdue).2, hidx]
  case flash =>
    rw [exec_of_event (e := .flashPhase b) rfl]
    simp [takeEvent, State.takeFlashPhase, hdue]

/-! ### The screen port (R192) -/

theorem Feed.edge_high (r : List Byte) (f : Feed) :
    f.edge r true = { f with sdat := r.getD f.sent 0, ssor := decide (f.sent = 0), sent := f.sent + 1 } := rfl

theorem Feed.edge_low (r : List Byte) (f : Feed) : f.edge r false = { f with ssor := false } := rfl

/-- The edges after one at which bytes of the head record are left. -/
theorem Feed.send_cons {r : List Byte} {f : Feed} {ready : Bool} (h : f.sent + ready.toNat < r.length) (rest : List (List Byte))
    (edges : List Bool) : f.send r rest (ready :: edges) = (f.edge r ready).send r rest edges := by
  rw [Feed.send, if_neg (by rw [(f.edge_eq r ready).1]; omega)]

theorem Feed.send_cons_last {r : List Byte} {f : Feed} (h : r.length ≤ f.sent + 1) (rest : List (List Byte)) (edges : List Bool) :
    f.send r rest (true :: edges) = { f.edge r true with queue := rest, tx := false, sent := 0 } := by
  rw [Feed.send, if_pos (by rw [(f.edge_eq r true).1]; exact h)]

/-- The head record after edges that leave bytes of it: the bytes of the edges with SRDY high have gone out. -/
theorem Feed.send_unfinished (r : List Byte) (rest : List (List Byte)) (edges : List Bool) (f : Feed) (hsent : 1 ≤ f.sent)
    (hroom : f.sent + edges.count true < r.length) :
    f.send r rest edges = { f with
      sent := f.sent + edges.count true
      sdat := if edges.count true = 0 then f.sdat else r.getD (f.sent + edges.count true - 1) 0
      ssor := if edges = [] then f.ssor else false } := by
  induction edges generalizing f with
  | nil => simp
  | cons ready edges ih =>
    have hne : ¬f.sent = 0 := by omega
    cases ready with
    | false =>
      have hroom' : f.sent + edges.count true < r.length := by simpa using hroom
      rw [Feed.send_cons (by simp; omega), Feed.edge_low, ih { f with ssor := false } hsent hroom']
      simp
    | true =>
      have hroom' : f.sent + 1 + edges.count true < r.length := by simp at hroom; omega
      rw [Feed.send_cons (by simp; omega), Feed.edge_high, ih _ (by simp) hroom']
      have hlast : f.sent + (edges.count true + 1) - 1 = f.sent + 1 + edges.count true - 1 := by omega
      by_cases h0 : edges.count true = 0 <;> simp [hne, h0, hlast, Nat.add_assoc, Nat.add_comm 1]

/-- The edges that give the last byte of the head record: it leaves the queue, and the line keeps that byte. -/
theorem Feed.send_finished (r : List Byte) (rest : List (List Byte)) (edges : List Bool) (f : Feed) (hsent : 1 ≤ f.sent)
    (hleft : f.sent < r.length) (hend : r.length ≤ f.sent + edges.count true) :
    f.send r rest edges = { f with queue := rest, tx := false, sent := 0, sdat := r.getLastD 0, ssor := false } := by
  induction edges generalizing f with
  | nil => simp at hend; omega
  | cons ready edges ih =>
    have hne : ¬f.sent = 0 := by omega
    cases ready with
    | false =>
      have hend' : r.length ≤ f.sent + edges.count true := by simpa using hend
      rw [Feed.send_cons (by simpa using hleft), Feed.edge_low, ih { f with ssor := false } hsent hleft hend']
    | true =>
      by_cases hlast : r.length = f.sent + 1
      · have hbyte : r.getD f.sent 0 = r.getLastD 0 := by
          rw [List.getLastD_eq_getLast?, List.getLast?_eq_getElem?, List.getD_eq_getElem?_getD, hlast, Nat.add_sub_cancel]
        rw [Feed.send_cons_last hlast.le, Feed.edge_high, hbyte]
        simp [hne]
      · have hend' : r.length ≤ f.sent + 1 + edges.count true := by simp at hend; omega
        have hleft' : f.sent + 1 < r.length := by omega
        rw [Feed.send_cons (by simpa using hleft'), Feed.edge_high, ih _ (by simp) hleft' hend']

/-- Settles O50. -/
theorem screenPortSendsTheHeadRecord : Obligations.ScreenPortSendsTheHeadRecord := by
  intro b r rest s hqueue
  refine ⟨fun hnode hconfigured htx => ?start, fun edges => ⟨fun htx => ?waiting, fun htx hsent hleft => ⟨fun hn => ?_, fun hn => ?_⟩⟩⟩
  case start =>
    have hrun : s.running = true := decide_eq_true hnode
    simp [exec, execScreenRecordStart, hqueue, hrun, hconfigured, htx, Feed.edge]
  case waiting => simp [exec, execScreenRecordSent, hqueue, htx]
  · simp only [exec, execScreenRecordSent, hqueue, htx, if_true, Feed.send_unfinished r rest edges _ hsent hn]
  · simp only [exec, execScreenRecordSent, hqueue, htx, if_true, Feed.send_finished r rest edges _ hsent hleft hn]

end Sys2Proof.Machine
end

section
/-!
PROOFS. Events that one block takes alone: missed wakes, the alert line and zones, talk changes, ramps, the frame timer (O26, O30,
O22, O45, O8).
-/

namespace Sys2Proof.Machine

/-! ### Missed wakes (R78, R79) -/

theorem takeWakeMissed_eq {s : State} {n b st : Nat} {rest : List Message} (h : s.cmu.dispatch = .wakeMissed n b st :: rest) :
    exec .wakeMissed s = .next
      (let t := missedAdd n b st s.cmu.missed
       let u : State := { s with cmu := { s.cmu with dispatch := rest, missed := t.1 } }
       if t.2 then u.bump .listEvictions else u) := by
  simp only [exec, execWakeMissed, State.takeWakeMissed, h]

/-- Settles O26. -/
theorem missedWakesAreListedAndAge : Obligations.MissedWakesAreListedAndAge := by
  intro s
  constructor
  · intro n b st rest hdispatch same listed
    have hsame : MissedEntry.names n b = same := rfl
    rw [takeWakeMissed_eq hdispatch, missedAdd, hsame]
    refine ⟨fun hin => ?_, fun hin hroom => ?_, fun hin hfull => ?_⟩
    · simp [hin, listed]
    · simp [hin, hroom, listed]
    · simp [hin, Nat.not_lt.2 hfull, listed]
  · intro hzero
    simp [exec, execSecondsPrescalerExpiry, State.takeSecondsPrescaler, hzero, missedAge]

/-! ### The alert and the zones (R94 to R96) -/

/-- Settles O30. -/
theorem alertAndZonesChange : Obligations.AlertAndZonesChange := by
  intro s
  refine ⟨fun hstate habsence => ?_, fun hrun => ?_, fun mask mode rest hdispatch => ?_⟩
  · simp [exec, execEntry0FadeExpiry, State.takeEntry0Fade, hstate, habsence]
  · have hdue : s.anu.alert.due = true := decide_eq_true hrun
    simp [exec, execAlertStateAccepted, State.takeAlert, hdue, Debouncer.accept]
  · refine ⟨_, rfl, ?_⟩
    simp [State.takeZoneMode, hdispatch, State.applyZoneMode]

/-! ### Talk inputs (R51 to R54) -/

theorem State.drivesAlrt_of_channel {s : State} (c : Fin 4) (henabled : (s.aspCfg c).enabled = true)
    (htag : (s.aspCfg c).tag = 0x00) (hactive : (s.asp.talk.get c).deb.active = true) : s.drivesAlrt = true := by
  have hkind : tagKind (s.aspCfg c).tag = .alert := by rw [htag]; rfl
  refine List.any_eq_true.2 ⟨c, List.mem_finRange c, ?_⟩
  simp only [State.aspCfg, talkChannel] at henabled hkind
  simp [henabled, hkind, hactive]

/-- Settles O22. -/
theorem talkChangesAreTaken : Obligations.TalkChangesAreTaken := by
  intro c s hrun x a announces
  have hdue : (s.asp.talk.get c).deb.due = true := decide_eq_true hrun
  constructor
  · intro hactive
    have haccept : (s.asp.talk.get c).deb.accept = ⟨true, 0⟩ := by
      rw [Debouncer.accept, hactive, Bool.not_false]
    have htake : s.takeTalkActivation c =
        (let s' := s.setTalk c ⟨⟨true, 0⟩, if announces = true then x.count + 1 else x.count⟩
         if announces && a.autoDescribe then s'.handMessage (.channel c) (describeChannel a x.count) else s') := by
      rw [State.takeTalkActivation, if_pos ⟨hdue, hactive⟩, haccept]
      rfl
    have hasp : (s.takeTalkActivation c).asp =
        { s.asp with talk := s.asp.talk.set c ⟨⟨true, 0⟩, if announces = true then x.count + 1 else x.count⟩ } := by
      rw [htake]; dsimp only; split <;> simp
    refine ⟨s.takeTalkActivation c, rfl, ?_, hasp, fun hann hauto => ?_, fun hnot => ?_, fun henabled htag => ?_⟩
    · rw [htake]; dsimp only; split <;> simp [State.handMessage, State.setTalk]
    · rw [htake]; simp [hann, hauto, describeChannel]
    · have : (announces && a.autoDescribe) = false := by rcases hnot with h | h <;> simp [h]
      rw [htake]; simp [this]
    · have hcfg : (s.takeTalkActivation c).aspCfg c = a := by simp [State.aspCfg, State.cfg, talkChannel, a]
      exact State.drivesAlrt_of_channel c (by rw [hcfg, henabled]) (by rw [hcfg, htag]) (by rw [hasp]; simp)
  · intro hactive
    simp [exec, execTalkDeactivation, State.takeTalkDeactivation, hdue, hactive, Debouncer.accept, State.setTalk, x]

/-! ### Ramps and ducking (R141, R145 to R147, R152) -/

/-- R145, R146: the interval that a ramp loads for its first step. -/
theorem stepInterval_first {shape : Shape} {r n q : Nat} (hn : n ≠ 0) (hq : q = if shape = .s then n / 4 else 0) :
    stepInterval shape r n q 1 = if shape = .s ∧ 1 ≤ n / 4 then 2 * r else r := by
  cases shape with
  | linear => simp [stepInterval]
  | s =>
    have hlast : ¬n - n / 4 < 1 := by omega
    simp only [if_true] at hq
    simp [stepInterval, hq, hlast]

theorem LevelState.start_edge (x : LevelState) (target : Level) (shape : Shape) (r : Nat) :
    (x.start target shape r).edge = if shape = .s then x.cur.distance target / 4 else 0 := by cases shape <;> rfl

theorem LevelState.start_started (x : LevelState) (target : Level) (shape : Shape) (r : Nat) :
    RampStarted x.cur target shape r (x.start target shape r) := by
  refine ⟨rfl, rfl, rfl, rfl, rfl, rfl, x.start_edge target shape r, ?_⟩
  by_cases h : x.cur.distance target = 0
  · simp [LevelState.start, h]
  · have hfirst := stepInterval_first (r := r) h (x.start_edge target shape r)
    simp only [LevelState.start] at hfirst
    simp only [LevelState.start, h, if_false, hfirst]
    split <;> rfl

theorem LevelState.aim_same {x : LevelState} {target : Level} {shape : Shape} {r : Nat} (ht : x.target = target)
    (hs : x.shape = shape) (hr : x.interval = r) : x.aim target shape r = x := if_pos ⟨ht, hs, hr⟩

theorem LevelState.aim_differs {x : LevelState} {target : Level} {shape : Shape} {r : Nat}
    (h : x.target ≠ target ∨ x.shape ≠ shape ∨ x.interval ≠ r) : x.aim target shape r = x.start target shape r := by
  refine if_neg fun ⟨ht, hs, hr⟩ => ?_
  rcases h with h | h | h
  · exact h ht
  · exact h hs
  · exact h hr

@[simp] theorem LevelState.aim_target (x : LevelState) (target : Level) (shape : Shape) (r : Nat) :
    (x.aim target shape r).target = target := by
  unfold LevelState.aim
  split
  · next h => exact h.1
  · rfl

@[simp] theorem MixBerth.withLevel_level (m : MixBerth) (l k : LevelName) (x : LevelState) :
    (m.withLevel l x).level k = if l = k then x else m.level k := by cases l <;> cases k <;> rfl

theorem LevelState.step_eq (x : LevelState) :
    x.step = { x with cur := x.step.cur, taken := x.taken + 1, counter := x.step.counter } := rfl

@[simp] theorem LevelState.step_target (x : LevelState) : x.step.target = x.target := rfl

@[simp] theorem LevelState.step_taken (x : LevelState) : x.step.taken = x.taken + 1 := rfl

theorem LevelState.step_counter (x : LevelState) : x.step.counter = if x.step.cur = x.target then none
    else some (stepInterval x.shape x.interval x.steps x.edge (x.taken + 2)) := rfl

theorem Level.distance_numbers :
    Level.distance .mute .mute = 0 ∧ ∀ m n, Level.distance .mute (.lvl n) = n + 1 ∧ Level.distance (.lvl n) .mute = n + 1 ∧
      (m ≤ n → Level.distance (.lvl m) (.lvl n) = n - m ∧ Level.distance (.lvl n) (.lvl m) = n - m) := by
  refine ⟨rfl, fun m n => ⟨by simp [Level.distance, Level.rank], by simp [Level.distance, Level.rank], fun h => ?_⟩⟩
  simp only [Level.distance, Level.rank]
  omega

/-- Settles O45. -/
theorem rampsStepAndDuckHoldEnds : Obligations.RampsStepAndDuckHoldEnds := by
  refine ⟨Level.distance_numbers, fun x target shape r => ⟨x.start_started target shape r, LevelState.aim_same, fun h => ?_⟩,
    fun b s => ⟨fun l hdue => ?step, fun hhold => ?hold⟩⟩
  · rw [LevelState.aim_differs h]
    exact x.start_started target shape r
  case step =>
    have htake : s.takeRampStep b l = s.setMix b ((s.mix.get b).withLevel l ((s.mix.get b).level l).step) := by
      simp [State.takeRampStep, hdue]
    refine ⟨s.takeRampStep b l, rfl, ?_⟩
    rw [htake]
    simp only [State.setMix_mix, Table.get_set_self, MixBerth.withLevel_level, if_true]
    generalize (s.mix.get b).level l = x
    have hcounter := x.step_counter
    refine ⟨rfl, fun c hc => Table.get_set_of_ne _ _ (Ne.symm hc), fun k hk => if_neg (Ne.symm hk), x.step_eq, ?_,
      Level.distance_toward, fun hne hshape => ?_, fun hne hshape => ?_⟩
    · by_cases h : x.step.cur = x.target <;> simp [hcounter, h]
    · rw [hcounter] at hne ⊢
      rw [if_neg (fun h => hne (if_pos h)), hshape, stepInterval]
    · rw [hcounter] at hne ⊢
      rw [if_neg (fun h => hne (if_pos h)), hshape, stepInterval]
      rfl
  case hold =>
    refine ⟨s.takeDuckHold b, rfl, ?_⟩
    have htake : s.takeDuckHold b = s.setMix b ({ s.mix.get b with duck := .unducked, hold := none }.aimProgramme s.cfg
        (s.userLevel b)) := by
      simp [State.takeDuckHold, hhold]
    rw [htake]
    simp only [State.setMix_mix, Table.get_set_self, MixBerth.aimProgramme]
    exact ⟨rfl, fun c hc => Table.get_set_of_ne _ _ (Ne.symm hc), trivial, trivial, LevelState.aim_target _ _ _ _, rfl, trivial,
      trivial⟩

/-! ### The frame timer (R5, R6) -/

theorem State.onTrunk_iff {s : State} : s.onTrunk = true ↔ s.tlu.link = .locked ∨ s.tlu.link = .leading := by
  simp [State.onTrunk]

theorem State.mayMark_of {s : State} (he : s.cfg.eligible = true) (hl : s.tlu.link = .locked ∨ s.tlu.link = .leading) :
    s.mayMark = true := by simp [State.mayMark, he, State.onTrunk_iff.2 hl]

/-- R7: a node in LISTEN, or a follow-only node in LOCKED, drives no marks. -/
theorem State.mayMark_eq_false {s : State} (h : s.tlu.link = .listen ∨ (s.tlu.link = .locked ∧ s.cfg.eligible = false)) :
    s.mayMark = false := by
  rcases h with h | ⟨-, h⟩ <;> simp [State.mayMark, State.onTrunk, h]

theorem exec_frameTimerExpiry {s : State} (hdue : s.nothingDue) (hlink : s.tlu.link ≠ .loading) (g : GuardReading) :
    exec (.frameTimerExpiry g) s = .next (s.timerExpiry g) := by
  simp [exec, execFrameTimerExpiry, hlink, State.settle_of_nothingDue hdue]

theorem exec_guardRunEndsShort {s : State} (hdue : s.nothingDue) : exec .guardRunEndsShort s = .next s.guardRunEnds := by
  simp [exec, execGuardRunEndsShort, State.settle_of_nothingDue hdue]

/-- Settles O8. -/
theorem frameTimerExpiryDrivesOrYields : Obligations.FrameTimerExpiryDrivesOrYields := by
  intro g s hdue drives waits
  have hdrives : drives = { s with tlu := s.tlu.driveMark } := rfl
  refine ⟨fun heligible hlink => ?_, fun hlink hexpired hg => ?_, fun hlink => ?_, fun h => ?_⟩
  · have hmark := State.mayMark_of heligible hlink
    have hne : s.tlu.link ≠ .loading := by rcases hlink with h | h <;> simp [h]
    constructor
    · intro hexpired hg
      rw [exec_frameTimerExpiry hdue hne]
      simp [State.timerExpiry, hexpired, hmark, hg, hdrives]
    · intro hguard
      rw [exec_guardRunEndsShort hdue]
      simp [State.guardRunEnds, hmark, hguard, hdrives]
  · have hne : s.tlu.link ≠ .loading := by rcases hlink with h | h <;> simp [h]
    rw [exec_frameTimerExpiry hdue hne]
    simp [State.timerExpiry, hexpired, hg, waits, Tlu.expire]
  · have hmark := State.mayMark_eq_false hlink
    have hne : s.tlu.link ≠ .loading := by rcases hlink with h | ⟨h, -⟩ <;> simp [h]
    rw [exec_guardRunEndsShort hdue, exec_frameTimerExpiry hdue hne]
    refine ⟨fun hexpired => ?_, ?_⟩
    · simp [State.timerExpiry, hexpired, hmark, waits, Tlu.expire]
    · simp [State.guardRunEnds, hmark]
  · by_cases hne : s.tlu.link = .loading
    · simp [exec, execFrameTimerExpiry, hne]
    · rw [exec_frameTimerExpiry hdue hne]
      simp [State.timerExpiry, h.resolve_left hne]

end Sys2Proof.Machine
end

section
/-!
PROOFS. The service link: its bytes, its commands and their replies (O51, O55, O53, O54).
-/

namespace Sys2Proof.Machine

/-! ### Bytes (R202) -/

theorem exec_serviceLinkByte {s : State} (hdue : s.nothingDue) (byte : Byte) (stop : Bool) :
    exec (.serviceLinkByte byte stop) s = .next (s.linkByte byte stop) := by
  simp [exec, execServiceLinkByte, State.settle_of_nothingDue hdue]

section receive
variable (byte : Byte) (x : ServiceLink)

theorem ServiceLink.receive_length (h : x.rx = []) :
    x.receive byte true =
      { x with gap := some 21, rx := if 1 ≤ byte.toNat ∧ byte.toNat ≤ 64 then [byte] else [] } := by
  simp only [ServiceLink.receive, h, Bool.true_eq_false, if_false]
  split <;> rfl

theorem ServiceLink.receive_body {n : Byte} {body : List Byte} (h : x.rx = n :: body) (hlen : body.length ≠ n.toNat) :
    x.receive byte true = { x with gap := some 21, rx := n :: body ++ [byte] } := by
  simp [ServiceLink.receive, h, hlen]

theorem ServiceLink.receive_check {n : Byte} {body : List Byte} (h : x.rx = n :: body) (hlen : body.length = n.toNat) :
    x.receive byte true =
      { x with gap := some 21, rx := [], command := if byte = xorAll (n :: body) then some body else x.command } := by
  simp only [ServiceLink.receive, h, hlen, Bool.true_eq_false, if_false, if_true]
  split <;> rfl

theorem ServiceLink.receive_kept (stop : Bool) :
    (x.receive byte stop).gap = some 21 ∧ (x.receive byte stop).reply = x.reply := by
  unfold ServiceLink.receive
  dsimp only
  repeat' split
  all_goals exact ⟨rfl, rfl⟩

end receive

/-- Settles O51. -/
theorem serviceLinkBytesBuildFrames : Obligations.ServiceLinkBytesBuildFrames := by
  intro s
  refine ⟨fun hgap => ?gap, fun hdue => ?replyEnd, fun byte stop hdue => ⟨fun hoff => ?unread, fun hnode hon => ?read⟩⟩
  case gap => simp [exec, execGapTimerExpiry, State.takeGap, hgap]
  case replyEnd => simp [exec, execReplyEnd, State.settle_of_nothingDue hdue, State.replyDone]
  case unread =>
    have hreads : s.linkReads = false := by rcases hoff with h | h <;> simp [State.linkReads, State.running, h]
    simp [exec_serviceLinkByte hdue, State.linkByte, hreads]
  case read =>
    have hreads : s.linkReads = true := by simp [State.linkReads, State.running, hnode, hon]
    refine ⟨_, exec_serviceLinkByte hdue byte stop, ?_⟩
    rw [State.linkByte, if_pos hreads]
    obtain ⟨hgap, hreply⟩ := ServiceLink.receive_kept byte s.svl stop
    refine ⟨rfl, hgap, hreply, fun hlow => ?_, fun hhigh hrx h1 h64 => ?_, fun hhigh hrx hout => ?_,
      fun n body hhigh hrx hlen => ?_, fun n body hhigh hrx hlen hcheck => ?_, fun n body hhigh hrx hlen hcheck => ?_⟩
    · subst hlow
      exact ⟨rfl, rfl⟩
    all_goals subst hhigh; dsimp only
    · rw [ServiceLink.receive_length _ _ hrx, if_pos ⟨h1, h64⟩]
      exact ⟨rfl, rfl⟩
    · rw [ServiceLink.receive_length _ _ hrx, if_neg (by omega)]
      exact ⟨rfl, rfl⟩
    · rw [ServiceLink.receive_body _ _ hrx hlen.ne]
      exact ⟨rfl, rfl⟩
    · rw [ServiceLink.receive_check _ _ hrx hlen, if_pos hcheck]
      exact ⟨rfl, rfl⟩
    · rw [ServiceLink.receive_check _ _ hrx hlen, if_neg hcheck]
      exact ⟨rfl, rfl⟩

/-! ### Commands (R203) -/

/-- The state in which a completed command executes: the command is taken. -/
def State.commandTaken (s : State) : State := { s with svl := { s.svl with command := none } }

section command
variable {s : State} {c : List Byte} {k : ServiceCommand} (effect : List Byte → State → State)

theorem State.takeCommand_executes (hreply : s.svl.reply = none) (hcommand : s.svl.command = some c) (hkind : classify c = k) :
    s.takeCommand k effect = effect c s.commandTaken := by
  simp [State.takeCommand, hcommand, hkind, State.replying, hreply, State.commandTaken]

theorem State.takeCommand_discards {r : List Byte} (hreply : s.svl.reply = some r) (hcommand : s.svl.command = some c)
    (hkind : classify c = k) : s.takeCommand k effect = s.commandTaken.bump .linkDiscards := by
  simp [State.takeCommand, hcommand, hkind, State.replying, hreply, State.commandTaken]

end command

/-- R204: what each kind of command does when it executes. -/
def commandEffect : ServiceCommand → List Byte → State → State
  | .send, c, s => s.sendEffect c
  | .readNode, _, s => s.replyOk 0x02 s.nodeData
  | .readSlots, _, s => s.replyOk 0x03 s.slotsData
  | .readTable, _, s => s.replyOk 0x04 s.tableData
  | .readBerth, c, s => s.withBerth 0x05 (fun b s => s.replyOk 0x05 (s.berthData b)) c
  | .readMissed, _, s => s.replyOk 0x06 s.missedData
  | .resetBerth, c, s => s.withBerth 0x07 (fun b s => (s.berthReset b).replyOk 0x07 []) c
  | .clearCounters, _, s => s.clearCounters.replyOk 0x08 []
  | .unknown, c, s => s.reply (c.getD 0 0) .bad []

theorem takeEvent_command (k : ServiceCommand) (s : State) :
    takeEvent (.command k) s = s.takeCommand k (commandEffect k) := by cases k <;> rfl

theorem exec_command {i : Instr} {k : ServiceCommand} {c : List Byte} {s : State} (hi : eventOf i = some (.command k))
    (hreply : s.svl.reply = none) (hcommand : s.svl.command = some c) (hkind : classify c = k) :
    exec i s = .next (commandEffect k c s.commandTaken) := by
  rw [exec_of_event hi, takeEvent_command, State.takeCommand_executes _ hreply hcommand hkind]

/-- Settles O55. -/
theorem clearCountersAndDiscards : Obligations.ClearCountersAndDiscards := by
  intro s
  constructor
  · intro hreply hcommand
    rw [exec_command (k := .clearCounters) rfl hreply hcommand rfl]
    rfl
  · intro r c hreply hcommand
    rw [takeEvent_command, State.takeCommand_discards _ hreply hcommand rfl]
    rfl

/-! ### Replies (R204) -/

/-- The number whose bits are given one by one. -/
def bitSum {n : Nat} (p : Fin n → Prop) [DecidablePred p] : Nat := ((List.finRange n).map fun z => if p z then 2 ^ z.val else 0).sum

theorem bitSum_succ {n : Nat} (p : Fin (n + 1) → Prop) [DecidablePred p] :
    bitSum p = (if p (Fin.last n) then 2 ^ n else 0) + bitSum fun z : Fin n => p z.castSucc := by
  simp [bitSum, List.finRange_succ_last, Function.comp_def, Nat.add_comm]

theorem bitSum_lt {n : Nat} (p : Fin n → Prop) [DecidablePred p] : bitSum p < 2 ^ n := by
  induction n with
  | zero => simp [bitSum]
  | succ n ih =>
    have := ih fun z : Fin n => p z.castSucc
    rw [bitSum_succ, Nat.pow_succ]
    split <;> omega

theorem bitSum_testBit {n : Nat} (p : Fin n → Prop) [DecidablePred p] (z : Fin n) : (bitSum p).testBit z.val = decide (p z) := by
  induction n with
  | zero => exact z.elim0
  | succ n ih =>
    have hlt := bitSum_lt fun z : Fin n => p z.castSucc
    rw [bitSum_succ]
    cases z using Fin.lastCases with
    | last =>
      have htop := Nat.testBit_lt_two_pow hlt
      by_cases h : p (Fin.last n) <;> simp [h, htop, Nat.testBit_two_pow_add_eq]
    | cast z =>
      have hz := ih (fun z : Fin n => p z.castSucc) z
      by_cases h : p (Fin.last n) <;> simp [h, hz, Nat.testBit_two_pow_add_gt z.isLt]

theorem nightMask_lt (zones : Table 16 ZoneMode) : nightMask zones < 2 ^ 16 := bitSum_lt _

theorem nightMask_testBit (zones : Table 16 ZoneMode) (z : Fin 16) :
    (nightMask zones).testBit z.val = decide (zones.get z = .night) := bitSum_testBit _ z

/-- A frame that R204 does not list, or with a wrong number of arguments, is no known command. -/
theorem classify_unknown {code : Byte} {args : List Byte}
    (h : (code = 0x00 ∨ 0x08 < code.toNat) ∨ (code = 0x01 ∧ (args.length < 2 ∨ 62 < args.length)) ∨
        ((code = 0x05 ∨ code = 0x07) ∧ args.length ≠ 1) ∨
        ((code = 0x02 ∨ code = 0x03 ∨ code = 0x04 ∨ code = 0x06 ∨ code = 0x08) ∧ args ≠ [])) :
    classify (code :: args) = .unknown := by
  rcases h with (rfl | hcode) | ⟨rfl, hargs⟩ | ⟨rfl | rfl, hargs⟩ | ⟨rfl | rfl | rfl | rfl | rfl, hargs⟩
  · rfl
  · obtain ⟨h1, h2, h3, h4, h5, h6, h7, h8⟩ : code ≠ 1 ∧ code ≠ 2 ∧ code ≠ 3 ∧ code ≠ 4 ∧ code ≠ 5 ∧ code ≠ 6 ∧ code ≠ 7 ∧
        code ≠ 8 := by
      refine ⟨?_, ?_, ?_, ?_, ?_, ?_, ?_, ?_⟩ <;> rintro rfl <;> exact absurd hcode (by decide)
    simp only [classify, h1, h2, h3, h4, h5, h6, h7, h8, if_false]
  · have : ¬(2 ≤ args.length ∧ args.length ≤ 62) := by omega
    simp [classify, this]
  all_goals simp [classify, hargs]

/-- R204: a command that names berth `b` by its one argument. -/
theorem State.withBerth_argument (code : Byte) (effect : Fin 4 → State → State) (x : Byte) (b : Fin 4) (s : State) :
    s.withBerth code effect [x, BitVec.ofNat 8 b.val] = if s.configured b then effect b s else s.reply code .absent [] := by
  have hb : (BitVec.ofNat 8 b.val).toNat = b.val := by simp; omega
  simp [State.withBerth, hb]

theorem State.withBerth_above (code : Byte) (effect : Fin 4 → State → State) (x n : Byte) (hn : 3 < n.toNat) (s : State) :
    s.withBerth code effect [x, n] = s.reply code .bad [] := by
  simp [State.withBerth, Nat.not_lt.2 hn]

/-- Settles O53. -/
theorem readsAreSnapshots : Obligations.ReadsAreSnapshots := by
  intro s hreply answer byte orFE yes timer level choice cls presence slotBytes holdingBytes entryBytes
  refine ⟨fun hcommand => ?node, fun hcommand => ?slots, fun hcommand => ?table, fun hcommand => ?missed,
    fun n hcommand hn => ?above, fun b hcommand => ⟨fun hconfigured => ?absent, fun hconfigured => ?berth⟩,
    fun code args hcommand h => ?unknown⟩
  case node => exact exec_command (k := .readNode) rfl hreply hcommand rfl
  case slots => 
    exact exec_command (k := .readSlots) rfl hreply hcommand rfl
  case table =>
    refine ⟨BitVec.ofNat 16 (nightMask s.anu.zones), fun z => ?_, ?_⟩
    · rw [BitVec.getLsbD_ofNat, nightMask_testBit]
      simp
    · rw [BitVec.toNat_ofNat, Nat.mod_eq_of_lt (nightMask_lt _)]
      have htarget : Target.bytes = fun t => match t with
          | .all => ([0, 0, 0] : List Byte) | .zones m => 1 :: be16 m.toNat | .stop st => 2 :: be16 st := by
        funext t
        cases t <;> rfl
      have hentry : AnnEntry.data = entryBytes := by
        funext e
        simp only [AnnEntry.data, htarget]
        rfl
      rw [exec_command (i := .readTable) (k := .readTable) rfl hreply hcommand rfl, ← hentry]
      rfl
  case missed => exact exec_command (k := .readMissed) rfl hreply hcommand rfl
  case above =>
    rw [exec_command (k := .readBerth) rfl hreply hcommand rfl, commandEffect, State.withBerth_above _ _ _ _ hn]
    rfl
  case absent =>
    have hconfigured : s.commandTaken.configured b = false := hconfigured
    rw [exec_command (k := .readBerth) rfl hreply hcommand rfl, commandEffect, State.withBerth_argument,
      if_neg (by simp [hconfigured])]
    rfl
  case berth =>
    intro x w f m r
    have hconfigured : s.commandTaken.configured b = true := hconfigured
    rw [exec_command (k := .readBerth) rfl hreply hcommand rfl, commandEffect, State.withBerth_argument, if_pos hconfigured]
    refine congrArg (fun data => Host.Outcome.next (answer 0x05 .ok data)) (?_ : s.berthData b = _)
    simp only [State.berthData, State.contextData, State.wakeData, State.feedData, State.levelData, List.append_assoc]
    rfl
  case unknown =>
    exact exec_command (k := .unknown) rfl hreply hcommand (classify_unknown h)

/-! ### RESET BERTH (R205) -/

/-- A configured berth after its reset has R139's values in the BCU. -/
def Berth.isReset (c : BerthConfig) (x : Berth) : Prop :=
  x.choice = c.defaultChoice ∧ x.pendingChoice = none ∧ x.pendingTimer = none ∧
    x.userLevel = .lvl (min c.defaultLevel c.maxLevel) ∧ x.stop = 0 ∧ x.lamp = .off ∧ x.lit = false ∧
    (∀ i, x.inputs.get i = ⟨false, 0⟩) ∧ x.repUp = none ∧ x.repDown = none

/-- R160: in the Mixer. -/
def MixBerth.isReset (c : BerthConfig) (m : MixBerth) : Prop :=
  (∀ l, (m.level l).cur = (if l = .programme then .lvl (min c.defaultLevel c.maxLevel) else .mute) ∧
    (m.level l).target = (m.level l).cur ∧ (m.level l).counter = none) ∧
  m.duck = .unducked ∧ m.hold = none ∧ m.ann = none ∧ m.flag = false

/-- R193: in the Screen Feed Unit, with the video of its default choice. -/
def Feed.isReset (v : Option Byte) (f : Feed) : Prop :=
  f.video = v ∧ f.base = .rest ∧ f.overlay = none ∧ f.tx = false ∧ f.queue = [clearRecord 1, cardRecord 0 3 []] ∧
    (f.video = none → f.state = .off ∧ f.waitKey = none) ∧ (f.video ≠ none → f.state = .waitKey ∧ f.waitKey = some 3000)

theorem MixBerth.berthReset_isReset (m : MixBerth) (c : BerthConfig) : (m.berthReset c.resetLevel).isReset c := by
  refine ⟨fun l => ?_, rfl, rfl, rfl, rfl⟩
  cases l <;> exact ⟨rfl, rfl, rfl⟩

theorem Feed.berthReset_isReset (c : Config) (d : Choice) (f : Feed) : (f.berthReset c d).isReset (c.videoOf d) := by
  refine ⟨rfl, rfl, rfl, rfl, rfl, fun h => ?_, fun h => ?_⟩ <;> simp only [Feed.berthReset] at h ⊢
  · simp [h]
  · simp [Option.isSome_iff_ne_none.2 h]

section berthReset
variable (b : Fin 4) (s : State)

theorem State.bcuReset_isReset : ((s.bcuReset b).bcu.get b).isReset (s.berthCfg b) := by
  simp [State.bcuReset, Berth.isReset, Berth.unconfigured, Debouncer.reset, BerthConfig.resetLevel]

/-- R205: what the berth reset leaves, block by block. -/
theorem State.berthReset_eq : s.berthReset b = { s with
    bcu := (s.bcuReset b).bcu
    anu := { s.anu with follow := s.anu.follow.set b .nothing }
    mix := s.mix.set b ((s.mix.get b).berthReset (s.berthCfg b).resetLevel)
    wku := s.wku.set b (.unconfigured s.cfg.w0)
    sfu := { s.sfu with feeds := s.sfu.feeds.set b ((s.feed b).berthReset s.cfg (s.berthCfg b).defaultChoice) } } := rfl

end berthReset

/-- Settles O54. -/
theorem resetBerthResetsEveryBlock : Obligations.ResetBerthResetsEveryBlock := by
  refine ⟨fun n s hreply hcommand hn => ?above, fun b s hreply hcommand => ⟨fun hconfigured => ?reset, fun hconfigured => ?absent⟩⟩
  case above =>
    rw [exec_command (k := .resetBerth) rfl hreply hcommand rfl, commandEffect, State.withBerth_above _ _ _ _ hn]
    rfl
  case absent =>
    have hconfigured : s.commandTaken.configured b = false := hconfigured
    rw [exec_command (k := .resetBerth) rfl hreply hcommand rfl, commandEffect, State.withBerth_argument,
      if_neg (by simp [hconfigured])]
    rfl
  case reset =>
    have hconfigured : s.commandTaken.configured b = true := hconfigured
    refine ⟨_, exec_command (k := .resetBerth) rfl hreply hcommand rfl, ?_⟩
    rw [commandEffect, State.withBerth_argument, if_pos hconfigured, State.berthReset_eq]
    refine ⟨rfl, rfl, rfl, rfl, s.bcuReset_isReset b, ?_, ?_, ?_, fun c hc => ?_⟩
    · simp [State.commandTaken, State.replyOk, State.cfg, Wake.unconfigured]
    · simp only [State.replyOk_frame, Table.get_set_self]
      exact MixBerth.berthReset_isReset _ _
    · simp only [State.feed, State.replyOk_frame, Table.get_set_self]
      exact Feed.berthReset_isReset _ _ _
    · simp [State.commandTaken, State.replyOk, State.feed, State.bcuReset, Ne.symm hc]

end Sys2Proof.Machine
end

section
/-!
PROOFS. Control messages: laid out in bytes they are read back as they were (O24). The record source port: what each strobe does
to the record being written (O23).
-/

namespace Sys2Proof.Machine

/-! ### Fields -/

theorem be16_of16 (hi lo : Byte) : be16 (of16 hi lo) = [hi, lo] := by
  have hlo := lo.isLt
  have hhi : (hi.toNat * 256 + lo.toNat) / 256 = hi.toNat := by omega
  have hmod : BitVec.ofNat 8 (hi.toNat * 256 + lo.toNat) = lo := by
    apply BitVec.eq_of_toNat_eq
    simp only [BitVec.toNat_ofNat]
    omega
  simp [be16, of16, hhi, hmod]

theorem of16_lt (hi lo : Byte) : of16 hi lo < 65536 := by
  have := hi.isLt
  have := lo.isLt
  unfold of16
  omega

theorem bytes_of_parseTarget {kind hi lo : Byte} {t : Target} (h : parseTarget kind hi lo = some t) : t.bytes = [kind, hi, lo] := by
  have hlt := of16_lt hi lo
  have hvalue := be16_of16 hi lo
  simp only [parseTarget] at h
  split at h
  · next hkind =>
    split at h
    · next hzero =>
      obtain rfl := Option.some.inj h
      rw [hzero] at hvalue
      simpa [Target.bytes, Target.kindByte, Target.value, hkind] using hvalue
    · exact absurd h nofun
  · split at h
    · next hkind =>
      split at h
      · exact absurd h nofun
      · obtain rfl := Option.some.inj h
        have hmask : (BitVec.ofNat 16 (of16 hi lo)).toNat = of16 hi lo := by simpa using hlt
        simp only [Target.bytes, Target.kindByte, Target.value, hkind, hmask, hvalue]
    · split at h
      · next hkind =>
        split at h
        · obtain rfl := Option.some.inj h
          simp only [Target.bytes, Target.kindByte, Target.value, hkind, hvalue]
        · exact absurd h nofun
      · exact absurd h nofun

theorem classByte_of_parseClass {c : Byte} {cls : AnnClass} (h : parseClass c = some cls) : classByte cls = c := by
  unfold parseClass at h
  split at h
  · next hc => obtain rfl := Option.some.inj h; exact hc.symm
  · split at h
    · next hc => obtain rfl := Option.some.inj h; exact hc.symm
    · split at h
      · next hc => obtain rfl := Option.some.inj h; exact hc.symm
      · exact absurd h nofun

@[simp] theorem cleanText_length (t : List Byte) : (cleanText t).length = t.length := by simp [cleanText]

@[simp] theorem cleanText_cleanText (t : List Byte) : cleanText (cleanText t) = cleanText t := by
  simp only [cleanText, List.map_map]
  refine List.map_congr_left fun c _ => ?_
  by_cases h : 0x20 ≤ c.toNat ∧ c.toNat ≤ 0x7E <;> simp [h]

/-! ### Messages -/

/-- R63: message `m`, read from a kind byte and a payload, lays out that kind byte, a length byte and a payload of the same length
from which `m` is read. -/
def LaidOut (kind : Byte) (p : List Byte) (m : Message) : Prop :=
  ∃ q : List Byte, m.body = kind :: BitVec.ofNat 8 q.length :: q ∧ q.length = p.length ∧ p.length ≤ 60 ∧
    parseMessage kind q = some m

theorem laidOut_of_body {kind : Byte} {p : List Byte} {m : Message} (h : parseMessage kind p = some m)
    (hbody : m.body = kind :: BitVec.ofNat 8 p.length :: p) (hlen : p.length ≤ 60) : LaidOut kind p m :=
  ⟨p, hbody, rfl, hlen, h⟩

theorem laidOut_present {p : List Byte} {m : Message} (h : parseMessage 0x01 p = some m) : LaidOut 0x01 p m := by
  match p with
  | tag :: seq :: cls :: tk :: hi :: lo :: n :: text =>
    simp only [parseMessage, if_true] at h
    cases hc : parseClass cls with
    | none => simp [hc] at h
    | some c =>
      cases ht : parseTarget tk hi lo with
      | none => simp [hc, ht] at h
      | some t =>
        simp only [hc, ht] at h
        split at h
        · next hok =>
          obtain ⟨htag, hn, htext⟩ := hok
          obtain rfl := Option.some.inj h
          refine ⟨tag :: seq :: cls :: tk :: hi :: lo :: n :: cleanText text, ?_, ?_, ?_, ?_⟩
          · simp [Message.body, classByte_of_parseClass hc, bytes_of_parseTarget ht, htext]
          · simp
          · simp; omega
          · simp [parseMessage, hc, ht, htag, hn, htext]
        · exact absurd h nofun
  | [] | [_] | [_, _] | [_, _, _] | [_, _, _, _] | [_, _, _, _, _] | [_, _, _, _, _, _] => simp [parseMessage] at h

theorem laidOut_card {p : List Byte} {m : Message} (h : parseMessage 0x05 p = some m) : LaidOut 0x05 p m := by
  match p with
  | tk :: hi :: lo :: d :: n :: text =>
    cases ht : parseTarget tk hi lo with
    | none => simp [parseMessage, ht] at h
    | some t =>
      simp [parseMessage, ht] at h
      obtain ⟨⟨hd, hn, htext⟩, rfl⟩ := h
      refine ⟨tk :: hi :: lo :: d :: n :: cleanText text, ?_, ?_, ?_, ?_⟩
      · simp [Message.body, bytes_of_parseTarget ht, htext]
      · simp
      · simp; omega
      · simp [parseMessage, ht, hd, hn, htext]
  | [] | [_] | [_, _] | [_, _, _] | [_, _, _, _] => simp [parseMessage] at h

theorem laidOut_withdraw {p : List Byte} {m : Message} (h : parseMessage 0x02 p = some m) : LaidOut 0x02 p m := by
  match p with
  | [tag, seq] =>
    have h' := h
    simp [parseMessage] at h'
    obtain ⟨-, rfl⟩ := h'
    exact laidOut_of_body h rfl (by simp)
  | [] | [_] | _ :: _ :: _ :: _ => simp [parseMessage] at h

theorem laidOut_wakeClear {p : List Byte} {m : Message} (h : parseMessage 0x07 p = some m) : LaidOut 0x07 p m := by
  match p with
  | [n, b] =>
    have h' := h
    simp [parseMessage] at h'
    obtain ⟨-, rfl⟩ := h'
    exact laidOut_of_body h (by simp [Message.body]) (by simp)
  | [] | [_] | _ :: _ :: _ :: _ => simp [parseMessage] at h

theorem laidOut_zoneMode {p : List Byte} {m : Message} (h : parseMessage 0x04 p = some m) : LaidOut 0x04 p m := by
  match p with
  | [hi, lo, mode] =>
    have hmask : (BitVec.ofNat 16 (of16 hi lo)).toNat = of16 hi lo := by simpa using of16_lt hi lo
    have hbody : ∀ zm : ZoneMode, mode = (if zm = .night then 1 else 0) →
        (Message.zoneMode (BitVec.ofNat 16 (of16 hi lo)) zm).body = 0x04 :: BitVec.ofNat 8 3 :: [hi, lo, mode] := by
      rintro zm rfl
      simp [Message.body, hmask, be16_of16]
    have hm := h
    simp only [parseMessage] at hm
    by_cases h0 : mode = 0
    · obtain rfl : _ = m := by simpa [h0] using hm
      exact laidOut_of_body h (hbody .day h0) (by simp)
    · by_cases h1 : mode = 1
      · obtain rfl : _ = m := by simpa [h1] using hm
        exact laidOut_of_body h (hbody .night h1) (by simp)
      · simp [show ¬mode = 0#8 from h0, show ¬mode = 1#8 from h1] at hm
  | [] | [_] | [_, _] | _ :: _ :: _ :: _ :: _ => simp [parseMessage] at h

theorem laidOut_berthSet {p : List Byte} {m : Message} (h : parseMessage 0x03 p = some m) : LaidOut 0x03 p m := by
  match p with
  | [n, b, st] =>
    have h' := h
    simp [parseMessage] at h'
    obtain ⟨-, rfl⟩ := h'
    exact laidOut_of_body h (by simp [Message.body]) (by simp)
  | [] | [_] | [_, _] | _ :: _ :: _ :: _ :: _ => simp [parseMessage] at h

theorem laidOut_wakeMissed {p : List Byte} {m : Message} (h : parseMessage 0x06 p = some m) : LaidOut 0x06 p m := by
  match p with
  | [n, b, st] =>
    have h' := h
    simp [parseMessage] at h'
    obtain ⟨-, rfl⟩ := h'
    exact laidOut_of_body h (by simp [Message.body]) (by simp)
  | [] | [_] | [_, _] | _ :: _ :: _ :: _ :: _ => simp [parseMessage] at h

theorem laidOut_of_parse {kind : Byte} {p : List Byte} {m : Message} (h : parseMessage kind p = some m) : LaidOut kind p m := by
  have hkind : kind = 0x01 ∨ kind = 0x02 ∨ kind = 0x03 ∨ kind = 0x04 ∨ kind = 0x05 ∨ kind = 0x06 ∨ kind = 0x07 := by
    by_contra hnot
    push Not at hnot
    obtain ⟨h1, h2, h3, h4, h5, h6, h7⟩ := hnot
    simp only [parseMessage, h1, h2, h3, h4, h5, h6, h7, if_false] at h
    exact absurd h nofun
  rcases hkind with rfl | rfl | rfl | rfl | rfl | rfl | rfl
  · exact laidOut_present h
  · exact laidOut_withdraw h
  · exact laidOut_berthSet h
  · exact laidOut_zoneMode h
  · exact laidOut_card h
  · exact laidOut_wakeMissed h
  · exact laidOut_wakeClear h

/-- Settles O24. -/
theorem messagesReadBackAsWritten : Obligations.MessagesReadBackAsWritten := by
  intro kind p m h
  obtain ⟨q, hbody, hq, hp, hread⟩ := laidOut_of_parse h
  rw [hbody]
  refine ⟨hread, rfl, ?_, hq⟩
  simp [hq]
  omega

/-! ### The record source port (R57 to R59) -/

namespace RspChannel
variable (x : RspChannel)

/-- R56: the bytes of the finished records. -/
def finishedBytes : Nat := (x.recs.map (·.bytes.length)).sum

theorem room_iff : x.room = true ↔ 2 ≤ 2048 - (x.finishedBytes + x.cur.length) := decide_eq_true_iff

variable {x} {byte : Byte}

theorem openRecord_opens (htype : byte = 0x01 ∨ byte = 0x02 ∨ byte = 0x7F) (hroom : 2 ≤ 2048 - x.finishedBytes) :
    x.openRecord byte = ({ x with cur := [byte], entry := .header }, 0) := by
  have hroom : ({ x with cur := [] } : RspChannel).room = true := (room_iff _).2 hroom
  have htype : byte = typeKey ∨ byte = typeDelta ∨ byte = typeEnd := htype
  simp only [openRecord, htype, hroom, if_true]

theorem openRecord_discards (h : (byte ≠ 0x01 ∧ byte ≠ 0x02 ∧ byte ≠ 0x7F) ∨ 2048 < x.finishedBytes + 2) :
    x.openRecord byte = (x.discard, 1) := by
  unfold openRecord
  dsimp only
  split
  · next htype =>
    rcases h with ⟨h1, h2, h3⟩ | hfull
    · rcases htype with h | h | h
      · exact absurd h h1
      · exact absurd h h2
      · exact absurd h h3
    · have hroom : ¬({ x with cur := [] } : RspChannel).room = true := fun hroom => by
        have := (room_iff _).1 hroom
        change 2 ≤ 2048 - (x.finishedBytes + 0) at this
        omega
      rw [if_neg hroom]
      rfl
  · rfl

theorem strobe_begin (h : x.entry = .waitStart ∨ x.entry = .discard) : x.strobe true byte = x.openRecord byte := by
  rcases h with h | h <;> simp only [strobe, h]

theorem strobe_again (h : x.entry = .header ∨ x.entry = .payload) :
    x.strobe true byte = ((x.openRecord byte).1, (x.openRecord byte).2 + 1) := by
  rcases h with h | h <;> simp only [strobe, h]

theorem strobe_full (h : x.entry = .header ∨ x.entry = .payload) (hfull : 2048 < x.finishedBytes + x.cur.length + 2) :
    x.strobe false byte = (x.discard, 1) := by
  have hroom : ¬x.room = true := fun hroom => by have := x.room_iff.1 hroom; omega
  rcases h with h | h <;> simp only [strobe, h, hroom] <;> rfl

theorem strobe_header (h : x.entry = .header) (hroom : x.finishedBytes + x.cur.length + 2 ≤ 2048) :
    x.strobe false byte = if x.cur.length = 2 then ({ x with cur := x.cur ++ [byte] } : RspChannel).afterLength
      else ({ x with cur := x.cur ++ [byte] }, 0) := by
  have hroom : x.room = true := x.room_iff.2 (by omega)
  simp only [strobe, h, hroom, if_true, List.length_append, List.length_singleton, Nat.reduceEqDiff]

theorem strobe_payload (h : x.entry = .payload) (hroom : x.finishedBytes + x.cur.length + 2 ≤ 2048) :
    x.strobe false byte = if (x.cur ++ [byte]).length = 3 + recordLength (x.cur ++ [byte])
      then (({ x with cur := x.cur ++ [byte] } : RspChannel).finish, 0) else ({ x with cur := x.cur ++ [byte] }, 0) := by
  have hroom : x.room = true := x.room_iff.2 (by omega)
  simp only [strobe, h, hroom, if_true]

end RspChannel

/-- R56: what a strobe leaves, from the channel and the count of errors that it gives. -/
theorem exec_recordByteStrobe {r : Fin 2} {s : State} (hnode : s.cfl.node = .running) (henabled : (s.cfg.rsp.get r).enabled = true)
    (rsor : Bool) (byte : Byte) :
    exec (.recordByteStrobe r rsor byte) s =
      .next ((s.setRsp r ((s.rsp.get r).strobe rsor byte).1).bumpN .sourceRecordErrors ((s.rsp.get r).strobe rsor byte).2) := by
  have hrun : s.running = true := decide_eq_true hnode
  simp [exec, execRecordByteStrobe, hrun, henabled]

theorem exec_recordByteStrobe_unread {r : Fin 2} {s : State} (h : s.cfl.node ≠ .running ∨ (s.cfg.rsp.get r).enabled = false)
    (rsor : Bool) (byte : Byte) : exec (.recordByteStrobe r rsor byte) s = .next s := by
  have hoff : (s.running && (s.cfg.rsp.get r).enabled) = false := by rcases h with h | h <;> simp [State.running, h]
  simp [exec, execRecordByteStrobe, hoff]

theorem State.bumpN_eq (c : Counter) (n : Nat) (s : State) : s.bumpN c n = { s with counters := (s.bumpN c n).counters } := by
  induction n with
  | zero => rfl
  | succ n ih => rw [State.bumpN, State.bump, ih]

/-- Settles O23. -/
theorem recordStrobesBuildRecords : Obligations.RecordStrobesBuildRecords := by
  refine ⟨fun r rsor byte s h => exec_recordByteStrobe_unread h rsor byte, fun r rsor byte s hnode henabled => ?_⟩
  refine ⟨_, exec_recordByteStrobe hnode henabled rsor byte, ?_, fun q hq => ?_, ?_⟩
  · rw [State.bumpN_eq]; rfl
  · simp [Ne.symm hq]
  · intro x y held stored counts discards discarded finished
    have hy : y = (x.strobe rsor byte).1 := by simp [y, x]
    have becomes : ∀ {z n}, x.strobe rsor byte = (z, n) → y = z ∧ counts n := fun {z n} h => by
      have hz : y = z := by rw [hy, h]
      refine ⟨hz, ?_⟩
      change State.bumpN _ _ _ = State.bumpN _ _ _
      rw [show (s.rsp.get r).strobe rsor byte = (z, n) from h, hz]
    refine ⟨fun he hr htype hroom => ?_, fun he hr h1 h2 h3 => ?_, fun he hr hfull => ?_, fun he hr => ?_, fun he hr => ?_,
      fun he hr htype hroom => ?_, fun he hr h1 h2 h3 => ?_, fun he hr hfull => ?_, fun he hr hfull => ?_, fun he hr hroom => ?header,
      fun he hr hroom => ?payload⟩
    all_goals subst hr
    · exact becomes ((RspChannel.strobe_begin he).trans (RspChannel.openRecord_opens htype hroom))
    · exact becomes ((RspChannel.strobe_begin he).trans (RspChannel.openRecord_discards (.inl ⟨h1, h2, h3⟩)))
    · exact becomes ((RspChannel.strobe_begin he).trans (RspChannel.openRecord_discards (.inr hfull)))
    · exact becomes (by simp only [RspChannel.strobe, he]; rfl)
    · exact becomes (by simp only [RspChannel.strobe, he])
    · exact becomes (by rw [RspChannel.strobe_again he, RspChannel.openRecord_opens htype hroom])
    · exact becomes (by rw [RspChannel.strobe_again he, RspChannel.openRecord_discards (.inl ⟨h1, h2, h3⟩)]; rfl)
    · exact becomes (by rw [RspChannel.strobe_again he, RspChannel.openRecord_discards (.inr hfull)]; rfl)
    · exact becomes (RspChannel.strobe_full he hfull)
    case header =>
      have hstrobe := RspChannel.strobe_header (byte := byte) he hroom
      have hafter (hlen : x.cur.length = 2) : x.strobe false byte = ({ x with cur := stored } : RspChannel).afterLength := by
        rw [hstrobe, if_pos hlen]
      have hfirst (hlen : x.cur.length = 2) : stored.getD 0 0 = x.cur.getD 0 0 := by
        simp [stored, hlen]
      refine ⟨fun hlen => becomes (by rw [hstrobe, if_neg hlen]), fun hlen hzero => ?_, fun hlen hlong => ?_,
        fun hlen hle hne htype => ?_, fun hlen hle hne htype => ?_⟩
      · have h := becomes (z := ({ x with cur := stored } : RspChannel).finish) (n := 0) (by
          rw [hafter hlen]; simp [RspChannel.afterLength, hzero])
        exact ⟨h.2, h.1⟩
      · exact becomes (by rw [hafter hlen]; simp [RspChannel.afterLength, hlong]; rfl)
      · have htype : stored.getD 0 0 = typeEnd := (hfirst hlen).trans htype
        exact becomes (by rw [hafter hlen]; rw [RspChannel.afterLength, if_pos (.inr ⟨htype, hne⟩)]; rfl)
      · have htype : stored.getD 0 0 ≠ typeEnd := fun h => htype ((hfirst hlen).symm.trans h)
        exact becomes (by
          rw [hafter hlen]; simp only [RspChannel.afterLength, htype, hne, Nat.not_lt.2 hle, false_and, or_self, if_false])
    case payload =>
      have hstrobe := RspChannel.strobe_payload (byte := byte) he hroom
      refine ⟨fun hlen => becomes (by rw [hstrobe, if_neg hlen]), fun hlen => ?_⟩
      have h := becomes (hstrobe.trans (if_pos hlen))
      exact ⟨h.2, h.1⟩

end Sys2Proof.Machine
end

section
/-!
PROOFS. The notice lamp after a report of the Wake Unit or the Screen Feed Unit; wake-up calls: BERTH SET, the hold timer, ACK and
WAKE CLEAR (O46, O47, O40, O27).
-/

namespace Sys2Proof.Machine

@[ext] theorem State.ext_fields {s t : State} (pending : s.pending = t.pending) (counters : s.counters = t.counters)
    (cfl : s.cfl = t.cfl) (svl : s.svl = t.svl) (tlu : s.tlu = t.tlu) (smu : s.smu = t.smu) (asp : s.asp = t.asp)
    (rsp : s.rsp = t.rsp) (cmu : s.cmu = t.cmu) (anu : s.anu = t.anu) (lcu : s.lcu = t.lcu) (bcu : s.bcu = t.bcu)
    (bfs : s.bfs = t.bfs) (mix : s.mix = t.mix) (wku : s.wku = t.wku) (sfu : s.sfu = t.sfu) : s = t := by
  cases s
  cases t
  simp_all

/-! ### The notice lamp (R138) -/

/-- The fields of berth `b` that the notice lamp's rule speaks of. -/
def State.lampView (s : State) (b : Fin 4) : Lamp × Bool × Timer × WakeState × Bool :=
  ((s.bcu.get b).lamp, (s.bcu.get b).lit, (s.bcu.get b).flash, (s.wku.get b).state, (s.feed b).overlay.isSome)

theorem lampFollows_of_view {s t s' t' : State} {b : Fin 4} (h : LampFollows s t b) (hs : s'.lampView b = s.lampView b)
    (ht : t'.lampView b = t.lampView b) : LampFollows s' t' b := by
  simp only [State.lampView, Prod.mk.injEq] at hs ht
  obtain ⟨hs1, hs2, hs3, hs4, hs5⟩ := hs
  obtain ⟨ht1, ht2, ht3, ht4, ht5⟩ := ht
  simpa only [LampFollows, hs1, hs2, hs3, hs4, hs5, ht1, ht2, ht3, ht4, ht5] using h

/-- Where no report is made the lamp is as it was. -/
theorem lampFollows_self (s : State) (b : Fin 4) : LampFollows s s b := by simp [LampFollows]

theorem lampFor_eq_flash {w : WakeState} {card : Bool} (h : w = .calling ∨ w = .missed) : lampFor w card = .flash := by
  rcases h with rfl | rfl <;> rfl

theorem lampFor_of_quiet {w : WakeState} {card : Bool} (h : ¬(w = .calling ∨ w = .missed)) :
    lampFor w card = if card then .on else .off := by
  cases w <;> simp at h <;> rfl

theorem Berth.withLamp_only (l : Lamp) (x : Berth) :
    x.withLamp l = { x with lamp := (x.withLamp l).lamp, lit := (x.withLamp l).lit, flash := (x.withLamp l).flash } := by
  unfold Berth.withLamp
  cases l with
  | flash => dsimp only; split <;> rfl
  | on => rfl
  | off => rfl

theorem State.deriveLamp_bcu (b : Fin 4) (s : State) : (s.deriveLamp b).bcu =
    s.bcu.set b ((s.bcu.get b).withLamp (lampFor (s.wku.get b).state (s.feed b).overlay.isSome)) := rfl

/-- The lamp is derived afresh at a report. -/
theorem lampFollows_deriveLamp {s t : State} {b : Fin 4} (hbcu : t.bcu.get b = s.bcu.get b)
    (hreport : (s.wku.get b).state ≠ (t.wku.get b).state ∨ (s.feed b).overlay.isSome ≠ (t.feed b).overlay.isSome) :
    LampFollows s (t.deriveLamp b) b := by
  have hfeed : (t.deriveLamp b).feed b = t.feed b := rfl
  have hwku : (t.deriveLamp b).wku = t.wku := rfl
  simp only [LampFollows, hfeed, hwku, State.deriveLamp_bcu, Table.get_set_self, hbcu, hreport, true_implies]
  by_cases hflash : (t.wku.get b).state = .calling ∨ (t.wku.get b).state = .missed
  · rw [lampFor_eq_flash hflash]
    by_cases hlamp : (s.bcu.get b).lamp = .flash <;> simp [hflash, hlamp, Berth.withLamp]
  · rw [lampFor_of_quiet hflash]
    cases (t.feed b).overlay.isSome <;> simp [hflash, Berth.withLamp]

/-! ### Reports of the wake state (R163) -/

section setWakeReport
variable (b : Fin 4) (x : Wake) (s : State)

@[simp] theorem State.setWakeReport_wku : (s.setWakeReport b x).wku = s.wku.set b x := by
  unfold State.setWakeReport
  dsimp only
  split <;> simp

theorem State.setWakeReport_other {c : Fin 4} (h : c ≠ b) : (s.setWakeReport b x).bcu.get c = s.bcu.get c := by
  unfold State.setWakeReport
  dsimp only
  split <;> simp [State.deriveLamp_bcu, Ne.symm h]

theorem State.setWakeReport_onlyLamp : OnlyLampChanged s (s.setWakeReport b x) b := by
  unfold OnlyLampChanged State.setWakeReport
  dsimp only
  split
  · simp
  · simp only [State.deriveLamp_bcu, Table.get_set_self]
    exact Berth.withLamp_only _ _

theorem State.setWakeReport_lampFollows : LampFollows s (s.setWakeReport b x) b := by
  unfold State.setWakeReport
  dsimp only
  split
  · next h => exact lampFollows_of_view (lampFollows_self s b) rfl (by simp [State.lampView, State.feed, h])
  · next h =>
    refine lampFollows_deriveLamp rfl (.inl ?_)
    simpa using Ne.symm h

@[simp] theorem State.setWakeReport_stop : ((s.setWakeReport b x).bcu.get b).stop = (s.bcu.get b).stop := by
  rw [s.setWakeReport_onlyLamp b x]

@[simp] theorem State.setWakeReport_userLevel : ((s.setWakeReport b x).bcu.get b).userLevel = (s.bcu.get b).userLevel := by
  rw [s.setWakeReport_onlyLamp b x]

@[simp] theorem State.setWakeReport_input (i : PanelInput) :
    ((s.setWakeReport b x).bcu.get b).input i = (s.bcu.get b).input i := by
  rw [s.setWakeReport_onlyLamp b x]
  rfl

/-- The lamp flashes from the report of a call. -/
theorem State.setWakeReport_flash (hx : x.state = .calling ∨ x.state = .missed) (hne : x.state ≠ (s.wku.get b).state) :
    ((s.setWakeReport b x).bcu.get b).lamp = .flash := by
  rw [State.setWakeReport, if_neg hne, State.deriveLamp_bcu, Table.get_set_self, State.setWake_wku, Table.get_set_self,
    lampFor_eq_flash hx, Berth.withLamp]
  split
  · assumption
  · rfl

end setWakeReport

/-! ### The end of a session (R163) -/

section endSession
variable (b : Fin 4) (s : State)

theorem State.setStop_bcu (st : Nat) : (s.setStop b st).bcu = s.bcu.set b { s.bcu.get b with stop := st } := rfl

theorem State.endSession_wku : (s.endSession b).wku = s.wku.set b { s.wku.get b with state := .idle } := by
  simp [State.endSession]

theorem State.endSession_stop : ((s.endSession b).bcu.get b).stop = 0 := by simp [State.endSession, State.setStop_bcu]

theorem State.endSession_userLevel : ((s.endSession b).bcu.get b).userLevel = (s.bcu.get b).userLevel := by
  simp [State.endSession, State.setStop_bcu]

theorem State.endSession_input (i : PanelInput) : ((s.endSession b).bcu.get b).input i = (s.bcu.get b).input i :=
  (congrArg (fun x : Berth => x.input i) (Table.get_set_self _ _ _)).trans (s.setWakeReport_input b _ i)

theorem State.endSession_other {c : Fin 4} (h : c ≠ b) :
    (s.endSession b).bcu.get c = s.bcu.get c ∧ (s.endSession b).wku.get c = s.wku.get c := by
  simp [State.endSession, State.setStop_bcu, Ne.symm h, State.setWakeReport_other b _ s h]

theorem State.endSession_lampFollows : LampFollows s (s.endSession b) b :=
  lampFollows_of_view (s.setWakeReport_lampFollows b { s.wku.get b with state := .idle }) rfl (by
    simp [State.lampView, State.endSession, State.setStop_bcu, State.feed])

end endSession

/-! ### The hold timer (R171) -/

section holdTimer
variable {b : Fin 4} {p : Nat} {s : State}

/-- The state in which the hold timer of a berth has been stopped. -/
def State.holdStopped (b : Fin 4) (s : State) : State := s.setWake b { s.wku.get b with hold := none }

theorem State.holdStopped_view (b : Fin 4) (s : State) : (s.holdStopped b).lampView b = s.lampView b := by
  simp [State.lampView, State.holdStopped, State.feed]

theorem State.takeHoldTimer_calling (h : (s.wku.get b).hold = some (p, 0)) (hstate : (s.wku.get b).state = .calling) :
    s.takeHoldTimer b =
      ((s.holdStopped b).setWakeReport b { s.wku.get b with hold := none, state := .missed }).queueWakeMissed b := by
  simp [State.takeHoldTimer, Wake.holdOver, h, hstate, State.holdStopped]

theorem State.takeHoldTimer_acked (h : (s.wku.get b).hold = some (p, 0)) (hstate : (s.wku.get b).state = .acked) :
    s.takeHoldTimer b = (s.holdStopped b).endSession b := by
  simp [State.takeHoldTimer, Wake.holdOver, h, hstate, State.holdStopped]

theorem State.takeHoldTimer_other (h : (s.wku.get b).hold = some (p, 0)) (hcalling : (s.wku.get b).state ≠ .calling)
    (hacked : (s.wku.get b).state ≠ .acked) : s.takeHoldTimer b = s.holdStopped b := by
  cases hstate : (s.wku.get b).state <;> simp_all [State.takeHoldTimer, Wake.holdOver, State.holdStopped]

end holdTimer

/-- Settles O47. -/
theorem holdTimerEndsTheCall : Obligations.HoldTimerEndsTheCall := by
  intro b p s hhold
  refine ⟨s.takeHoldTimer b, exec_of_event (e := .holdTimer b) rfl s, by ext1 <;> simp, ?_⟩
  by_cases hcalling : (s.wku.get b).state = .calling
  · rw [State.takeHoldTimer_calling hhold hcalling]
    refine ⟨by simp, by simp, ?_, fun _ => ⟨by simp, ?_, ?_, ?_⟩, fun h => absurd (hcalling.symm.trans h) nofun, fun c hc => ?_⟩
    · exact lampFollows_of_view (State.setWakeReport_lampFollows b _ _) (s.holdStopped_view b).symm rfl
    · exact State.setWakeReport_stop b _ (s.holdStopped b)
    · refine State.setWakeReport_flash b _ (s.holdStopped b) (.inr rfl) ?_
      simp [State.holdStopped, hcalling]
    · simp [State.queueWakeMissed, State.holdStopped]
    · exact ⟨State.setWakeReport_other b _ _ hc, by simp [State.holdStopped, Ne.symm hc]⟩
  · by_cases hacked : (s.wku.get b).state = .acked
    · rw [State.takeHoldTimer_acked hhold hacked]
      refine ⟨?_, ?_, ?_, fun h => absurd h hcalling, fun _ => ⟨?_, ?_, ?_⟩, fun c hc => ?_⟩
      · simp [State.endSession_wku, State.holdStopped]
      · simp [State.endSession_wku, State.holdStopped]
      · exact lampFollows_of_view ((s.holdStopped b).endSession_lampFollows b) (s.holdStopped_view b).symm rfl
      · simp [State.endSession_wku]
      · exact State.endSession_stop _ _
      · simp [State.holdStopped]
      · obtain ⟨hbcu, hwku⟩ := (s.holdStopped b).endSession_other b hc
        exact ⟨hbcu, hwku.trans (by simp [State.holdStopped, Ne.symm hc])⟩
    · rw [State.takeHoldTimer_other hhold hcalling hacked]
      refine ⟨?_, ?_, lampFollows_of_view (lampFollows_self s b) rfl (s.holdStopped_view b), fun h => absurd h hcalling,
        fun h => absurd h hacked, fun c hc => ⟨rfl, ?_⟩⟩
      · simp [State.holdStopped]
      · simp [State.holdStopped]
      · simp [State.holdStopped, Ne.symm hc]

/-! ### Answering a call (R134, R169, R170) and dismissing a card (R190) -/

section ack
variable {b : Fin 4} {s : State}

/-- The state in which an ACK press has been accepted. -/
def State.ackAccepted (b : Fin 4) (s : State) : State := s.setBerth b ((s.bcu.get b).acceptInput .ack)

theorem State.ackAccepted_view (b : Fin 4) (s : State) : (s.ackAccepted b).lampView b = s.lampView b := by
  simp [State.lampView, Berth.acceptInput, State.feed, State.ackAccepted]

theorem State.takeAckPress_calling (hdue : s.inputDue b .ack true = true) (h : (s.wku.get b).state = .calling) :
    s.takeAckPress b = ((s.ackAccepted b).setWakeReport b { s.wku.get b with state := .acked }).pillowMute b := by
  simp [State.takeAckPress, hdue, h, State.acknowledge, State.ackAccepted]

theorem State.takeAckPress_missed (hdue : s.inputDue b .ack true = true) (h : (s.wku.get b).state = .missed) :
    s.takeAckPress b = ((s.ackAccepted b).endSession b).queueWakeClear b := by
  simp [State.takeAckPress, hdue, h, State.acknowledge, State.ackAccepted]

theorem State.takeAckPress_other (hdue : s.inputDue b .ack true = true) (hcalling : (s.wku.get b).state ≠ .calling)
    (hmissed : (s.wku.get b).state ≠ .missed) : s.takeAckPress b = (s.ackAccepted b).dismiss b := by
  cases hstate : (s.wku.get b).state <;> simp_all [State.takeAckPress, State.ackAccepted]

/-- R190: a LIVE MESSAGE card is dismissed. -/
theorem State.dismiss_live {o : Overlay} (h : (s.feed b).overlay = some o) (hsource : o.source = .message)
    (hphase : o.phase = .live) : s.dismiss b = s.setFeed b { s.feed b with overlay := some o.toLinger } := by
  simp [State.dismiss, State.setOverlay, h, hsource, hphase]

theorem State.dismiss_none (h : ∀ o, (s.feed b).overlay = some o → o.source ≠ .message ∨ o.phase ≠ .live) :
    s.dismiss b = s := by
  unfold State.dismiss
  split
  · next o ho =>
    have := h o ho
    rw [if_neg (by tauto)]
  · rfl

/-- A dismissal changes no record between present and absent, so nothing is reported. -/
theorem State.dismiss_quiet (b : Fin 4) (s : State) :
    (s.dismiss b).bcu = s.bcu ∧ (s.dismiss b).wku = s.wku ∧ (s.dismiss b).lampView b = s.lampView b := by
  by_cases h : ∀ o, (s.feed b).overlay = some o → o.source ≠ .message ∨ o.phase ≠ .live
  · rw [State.dismiss_none h]
    exact ⟨rfl, rfl, rfl⟩
  · push Not at h
    obtain ⟨o, ho, hsource, hphase⟩ := h
    rw [State.dismiss_live ho hsource hphase]
    exact ⟨rfl, rfl, by simp [State.lampView, State.feed, show (s.sfu.feeds.get b).overlay = some o from ho]⟩

end ack

/-- Settles O40. -/
theorem ackPressAcknowledgesOrDismisses : Obligations.AckPressAcknowledgesOrDismisses := by
  intro b s hdue
  refine ⟨s.takeAckPress b, exec_of_event (e := .ackPress b) rfl s, by ext1 <;> simp, ?_⟩
  have hinput : ((s.ackAccepted b).bcu.get b).input .ack = ⟨true, 0⟩ := by
    have := (State.inputDue_iff.1 hdue).2
    simp [State.ackAccepted, Berth.acceptInput_eq this, Berth.input]
  by_cases hcalling : (s.wku.get b).state = .calling
  · rw [State.takeAckPress_calling hdue hcalling]
    refine ⟨?_, ?_, fun _ => ⟨?_, ?_, ?_, ?_, ?_⟩, fun h => absurd (hcalling.symm.trans h) nofun,
      fun o h => absurd hcalling h, fun h => absurd hcalling h⟩
    · exact (State.setWakeReport_input b _ (s.ackAccepted b) .ack).trans hinput
    · exact lampFollows_of_view (State.setWakeReport_lampFollows b _ _) (s.ackAccepted_view b).symm rfl
    · simp
    · simp [State.pillowMute, LevelState.fade]
    · simp [State.ackAccepted]
    · simp [State.ackAccepted]
    · exact (State.setWakeReport_stop b _ (s.ackAccepted b)).trans (by simp [State.ackAccepted, Berth.acceptInput])
  · by_cases hmissed : (s.wku.get b).state = .missed
    · rw [State.takeAckPress_missed hdue hmissed]
      refine ⟨?_, ?_, fun h => absurd h hcalling, fun _ => ⟨?_, ?_, ?_, ?_, ?_⟩, fun o _ h => absurd hmissed h,
        fun _ h => absurd hmissed h⟩
      · exact (State.endSession_input b (s.ackAccepted b) .ack).trans hinput
      · exact lampFollows_of_view ((s.ackAccepted b).endSession_lampFollows b) (s.ackAccepted_view b).symm rfl
      · simp [State.endSession_wku, State.ackAccepted]
      · exact State.endSession_stop b _
      · simp [State.queueWakeClear, State.ackAccepted]
      · simp [State.ackAccepted]
      · simp [State.ackAccepted]
    · rw [State.takeAckPress_other hdue hcalling hmissed]
      have hfeed : (s.ackAccepted b).feed b = s.feed b := rfl
      obtain ⟨hbcu, hwku, hview⟩ := State.dismiss_quiet b (s.ackAccepted b)
      refine ⟨?_, ?_, fun h => absurd h hcalling, fun h => absurd h hmissed, fun o _ _ ho hsource hphase => ⟨hwku, ?_⟩,
        fun _ _ hnone => ⟨hwku, ?_⟩⟩
      · rw [hbcu, hinput]
      · exact lampFollows_of_view (lampFollows_self s b) rfl (hview.trans (s.ackAccepted_view b))
      · rw [State.dismiss_live (hfeed ▸ ho) hsource hphase]
        simp [State.feed, Overlay.toLinger]
      · rw [State.dismiss_none (s := s.ackAccepted b) hnone]
        rfl

end Sys2Proof.Machine
end

section
/-!
PROOFS. The dispatched messages of a wake-up call: WAKE CLEAR and BERTH SET (O27, O46).
-/

namespace Sys2Proof.Machine

/-! ### The berth that a message names (R76) -/

theorem State.ownBerth_eq_some {s : State} {n k : Nat} {i : Fin 4} :
    s.ownBerth n k = some i ↔ i.val = k ∧ n = s.cfl.address ∧ s.configured i = true := by
  unfold State.ownBerth
  split
  · next hk =>
    constructor
    · intro h
      split at h
      · next hown => cases h; exact ⟨rfl, hown⟩
      · cases h
    · rintro ⟨rfl, hown⟩
      exact if_pos hown
  · next hk => simp only [reduceCtorEq, false_iff, not_and]; rintro rfl; exact absurd i.isLt hk

/-- A state that differs from `s` in the control message unit alone has its own berths. -/
theorem State.ownBerth_withCmu (s : State) (c : Cmu) (n k : Nat) : ({ s with cmu := c } : State).ownBerth n k = s.ownBerth n k := rfl

/-! ### WAKE CLEAR (R79, R172) -/

section wakeClear
variable {n k : Nat} {rest : List Message} {s : State}

/-- The state in which a WAKE CLEAR has left the dispatch list and the missed-wake list. -/
def State.clearHeard (n k : Nat) (rest : List Message) (s : State) : State :=
  { s with cmu := { s.cmu with dispatch := rest, missed := missedRemove n k s.cmu.missed } }

theorem State.takeWakeClear_missed (h : s.cmu.dispatch = .wakeClear n k :: rest) {i : Fin 4} (hown : s.ownBerth n k = some i)
    (hmissed : (s.wku.get i).state = .missed) : s.takeWakeClear = (s.clearHeard n k rest).endSession i := by
  simp [State.takeWakeClear, h, State.ownBerth_withCmu, hown, hmissed, State.clearHeard]

theorem State.takeWakeClear_other (h : s.cmu.dispatch = .wakeClear n k :: rest)
    (hother : ∀ i, s.ownBerth n k = some i → (s.wku.get i).state ≠ .missed) : s.takeWakeClear = s.clearHeard n k rest := by
  cases hown : s.ownBerth n k with
  | none => simp [State.takeWakeClear, h, State.ownBerth_withCmu, hown, State.clearHeard]
  | some i => simp [State.takeWakeClear, h, State.ownBerth_withCmu, hown, State.clearHeard, hother i hown]

end wakeClear

/-- Settles O27. -/
theorem wakeClearClosesAMissedCall : Obligations.WakeClearClosesAMissedCall := by
  intro n k rest s hdispatch
  refine ⟨s.takeWakeClear, exec_of_event (e := .wakeClear) rfl s, by ext1 <;> simp, ?_⟩
  by_cases hown : ∃ i, s.ownBerth n k = some i ∧ (s.wku.get i).state = .missed
  · obtain ⟨i, hi, hmissed⟩ := hown
    rw [State.takeWakeClear_missed hdispatch hi hmissed]
    obtain ⟨hik, hn, hconf⟩ := State.ownBerth_eq_some.1 hi
    refine ⟨(by simp : _ = (s.clearHeard n k rest).cmu).trans rfl, fun j hj _ _ _ => ?_, fun j hj => ?_⟩
    · obtain rfl : j = i := Fin.ext (hj.trans hik.symm)
      refine ⟨?_, State.endSession_stop _ _, State.endSession_userLevel _ _, ?_⟩
      · simp [State.endSession_wku, State.clearHeard]
      · exact lampFollows_of_view ((s.clearHeard n k rest).endSession_lampFollows j) rfl rfl
    · have hne : j ≠ i := by
        rintro rfl
        obtain h | h | h | h := hj
        · exact h hik
        · exact h hn
        · exact absurd (hconf.symm.trans h) nofun
        · exact h hmissed
      obtain ⟨hbcu, hwku⟩ := (s.clearHeard n k rest).endSession_other i hne
      exact ⟨hwku, hbcu⟩
  · push Not at hown
    rw [State.takeWakeClear_other hdispatch hown]
    exact ⟨rfl, fun i hik hn hconf hmissed => absurd hmissed (hown i (State.ownBerth_eq_some.2 ⟨hik, hn, hconf⟩)),
      fun i _ => ⟨rfl, rfl⟩⟩

/-! ### BERTH SET (R137, R165) -/

section berthSet
variable {n k st : Nat} {rest : List Message} {s : State} {b : Fin 4}

/-- The state in which a BERTH SET has left the dispatch list and the berth has its new alighting stop. -/
def State.stopSet (b : Fin 4) (st : Nat) (rest : List Message) (s : State) : State :=
  ({ s with cmu := { s.cmu with dispatch := rest } }).setStop b st

/-- R165: the wake context after a BERTH SET. -/
def State.sessionSet (s : State) (b : Fin 4) (st : Nat) : Wake :=
  { s.wku.get b with state := if st = 0 then .idle else .armed, hold := none, base := s.cfg.w0 }

theorem State.takeBerthSet_own (h : s.cmu.dispatch = .berthSet n k st :: rest) (hown : s.ownBerth n k = some b) :
    s.takeBerthSet = (s.stopSet b st rest).wkuBerthSet b st := by
  simp [State.takeBerthSet, h, State.ownBerth_withCmu, hown, State.stopSet]

theorem State.takeBerthSet_other (h : s.cmu.dispatch = .berthSet n k st :: rest) (hown : s.ownBerth n k = none) :
    s.takeBerthSet = { s with cmu := { s.cmu with dispatch := rest } } := by
  simp [State.takeBerthSet, h, State.ownBerth_withCmu, hown]

theorem State.stopSet_view (b : Fin 4) (st : Nat) (rest : List Message) (s : State) :
    (s.stopSet b st rest).lampView b = s.lampView b := by
  simp [State.lampView, State.stopSet, State.setStop_bcu, State.feed]

/-- What a BERTH SET leaves of the berths is what the report of its wake context leaves. -/
theorem State.wkuBerthSet_report (b : Fin 4) (st : Nat) (s : State) :
    (s.wkuBerthSet b st).bcu = (s.setWakeReport b (s.sessionSet b st)).bcu ∧
      (s.wkuBerthSet b st).wku = s.wku.set b (s.sessionSet b st) := by
  unfold State.wkuBerthSet State.sessionSet
  dsimp only
  split <;> simp

theorem State.wkuBerthSet_mix (b : Fin 4) (st : Nat) (s : State) :
    (s.wkuBerthSet b st).mix =
      if (s.wku.get b).state = .calling then s.mix.set b { s.mix.get b with pillow := (s.mix.get b).pillow.fade s.cfg }
      else s.mix := by
  unfold State.wkuBerthSet
  dsimp only
  cases hstate : (s.wku.get b).state <;> simp [State.pillowMute, State.cfg]

theorem State.wkuBerthSet_cmu (b : Fin 4) (st : Nat) (s : State) :
    (s.wkuBerthSet b st).cmu =
      if (s.wku.get b).state = .missed then s.cmu.put (.berth b) (Message.wakeClear s.cfl.address b.val).bytes else s.cmu := by
  unfold State.wkuBerthSet
  dsimp only
  cases hstate : (s.wku.get b).state <;> simp [State.queueWakeClear]

end berthSet

@[simp] theorem Cmu.put_dispatch (c : Cmu) (o : Origin) (bytes : List Byte) : (c.put o bytes).dispatch = c.dispatch := by
  unfold Cmu.put
  split <;> rfl

/-- The place that a message takes in the out queue does not depend on what was dispatched. -/
theorem Cmu.put_queue_of_eq {c d : Cmu} (h : c.queue = d.queue) (o : Origin) (bytes : List Byte) :
    (c.put o bytes).queue = (d.put o bytes).queue := by
  unfold Cmu.put
  rw [h]
  split <;> rfl

/-- Settles O46. -/
theorem berthSetOpensOrClosesASession : Obligations.BerthSetOpensOrClosesASession := by
  intro n k st rest s hdispatch
  refine ⟨fun b hb hn hconf => ?_, fun hother => ?_⟩
  · refine ⟨s.takeBerthSet, exec_of_event (e := .berthSet) rfl s, by ext1 <;> simp, ?_⟩
    rw [State.takeBerthSet_own hdispatch (State.ownBerth_eq_some.2 ⟨hb, hn, hconf⟩)]
    obtain ⟨hbcu, hwku⟩ := (s.stopSet b st rest).wkuBerthSet_report b st
    have hmix := (s.stopSet b st rest).wkuBerthSet_mix b st
    have hcmu := (s.stopSet b st rest).wkuBerthSet_cmu b st
    have hbcu' : (s.stopSet b st rest).bcu = s.bcu.set b { s.bcu.get b with stop := st } := rfl
    have hstate : ((s.stopSet b st rest).wku.get b).state = (s.wku.get b).state := rfl
    rw [hstate] at hmix hcmu
    refine ⟨?_, ?_, ?_, ?_, fun hmissed => ?_, fun hcalling => ?_, fun hcalling => ?_, fun hmissed => ?_, fun c hc => ?_⟩
    · rw [hcmu]; split <;> simp [State.stopSet, State.setStop]
    · rw [hbcu, State.setWakeReport_stop, hbcu']; simp
    · refine lampFollows_of_view (s := s.stopSet b st rest)
        (State.setWakeReport_lampFollows b ((s.stopSet b st rest).sessionSet b st) _) (s.stopSet_view b st rest).symm ?_
      simp [State.lampView, hbcu, hwku, State.feed]
    · rw [hwku, Table.get_set_self]; rfl
    · rw [hcmu, if_pos hmissed]
      exact Cmu.put_queue_of_eq (c := (s.stopSet b st rest).cmu) (d := s.cmu) rfl _ _
    · rw [hmix, if_pos hcalling]
      simp [LevelState.fade]
    · rw [hmix, if_neg hcalling]; rfl
    · rw [hcmu, if_neg hmissed]; rfl
    · refine ⟨?_, ?_, ?_⟩
      · rw [hbcu, State.setWakeReport_other _ _ _ hc, hbcu', Table.get_set_of_ne _ _ (Ne.symm hc)]
      · rw [hwku, Table.get_set_of_ne _ _ (Ne.symm hc)]; rfl
      · rw [hmix]
        split
        · rw [Table.get_set_of_ne _ _ (Ne.symm hc)]; rfl
        · rfl
  · have hnone : s.ownBerth n k = none := by
      refine Option.eq_none_iff_forall_ne_some.2 fun i hi => ?_
      obtain ⟨hik, hn, hconf⟩ := State.ownBerth_eq_some.1 hi
      have hlt : i.val < s.cfg.berthCount := of_decide_eq_true hconf
      obtain h | h | h := hother
      · have := i.isLt; omega
      · exact h hn
      · omega
    exact (exec_of_event (e := .berthSet) rfl s).trans (congrArg _ (State.takeBerthSet_other hdispatch hnone))

end Sys2Proof.Machine
end

section
/-!
PROOFS. Looking up the announcement table: the entry of a tag, the lowest FREE entry, the oldest DESCRIBED one; and a dispatched
PRESENT (O28).
-/

namespace Sys2Proof.Machine

/-! ### The first and the best of a list -/

/-- The first of an ascending list that has a property is the lowest. -/
theorem find?_eq_some_iff_lowest {n : Nat} {l : List (Fin n)} (hl : l.Pairwise (· < ·)) (p : Fin n → Bool) (i : Fin n) :
    l.find? p = some i ↔ i ∈ l ∧ p i = true ∧ ∀ j ∈ l, j < i → p j = false := by
  induction l with
  | nil => simp
  | cons a l ih =>
    obtain ⟨ha, hl⟩ := List.pairwise_cons.1 hl
    cases hp : p a with
    | true =>
      rw [List.find?_cons_of_pos hp]
      constructor
      · rintro h
        cases h
        refine ⟨List.mem_cons_self, hp, fun j hj hlt => ?_⟩
        obtain rfl | hj := List.mem_cons.1 hj
        · exact absurd hlt (lt_irrefl _)
        · exact absurd (ha j hj) (not_lt.2 hlt.le)
      · rintro ⟨hi, -, hlow⟩
        obtain rfl | hi := List.mem_cons.1 hi
        · rfl
        · exact absurd (hlow a List.mem_cons_self (ha i hi)) (by simp [hp])
    | false =>
      rw [List.find?_cons_of_neg (by simp [hp]), ih hl]
      constructor
      · rintro ⟨hi, hpi, hlow⟩
        refine ⟨List.mem_cons_of_mem _ hi, hpi, fun j hj hlt => ?_⟩
        obtain rfl | hj := List.mem_cons.1 hj
        · exact hp
        · exact hlow j hj hlt
      · rintro ⟨hi, hpi, hlow⟩
        obtain rfl | hi := List.mem_cons.1 hi
        · exact absurd hpi (by simp [hp])
        · exact ⟨hi, hpi, fun j hj => hlow j (List.mem_cons_of_mem _ hj)⟩

/-- One step of a search for the best candidate: `a`'s candidate replaces the best so far where it beats it. -/
def pick {α β : Type} (cand : α → Option β) (beats : β → β → Bool) (best : Option β) (a : α) : Option β :=
  match cand a, best with
  | none, _ => best
  | some x, none => some x
  | some x, some y => if beats x y then some x else some y

section pick
variable {n : Nat} {β : Type} {cand : Fin n → Option β} {beats : β → β → Bool}

theorem pick_of_none {α : Type} {cand : α → Option β} {a : α} (h : cand a = none) (best : Option β) :
    pick cand beats best a = best := by
  unfold pick
  rw [h]

theorem pick_first {α : Type} {cand : α → Option β} {a : α} {x : β} (h : cand a = some x) :
    pick cand beats none a = some x := by
  unfold pick
  rw [h]

theorem pick_next {α : Type} {cand : α → Option β} {a : α} {x : β} (h : cand a = some x) (y : β) :
    pick cand beats (some y) a = if beats x y then some x else some y := by
  unfold pick
  rw [h]

theorem foldl_pick_eq_none {α : Type} {cand : α → Option β} (l : List α) :
    l.foldl (pick cand beats) none = none ↔ ∀ a ∈ l, cand a = none := by
  induction l using List.reverseRecOn with
  | nil => simp
  | append_singleton l a ih =>
    rw [List.foldl_append, List.foldl_cons, List.foldl_nil]
    cases hc : cand a with
    | none =>
      rw [pick_of_none hc, ih]
      exact ⟨fun h b hb => (List.mem_append.1 hb).elim (h b) fun hb => List.mem_singleton.1 hb ▸ hc,
        fun h b hb => h b (List.mem_append_left _ hb)⟩
    | some x =>
      have hright : ¬∀ b ∈ l ++ [a], cand b = none := fun h => by simp [h a (by simp)] at hc
      simp only [hright, iff_false]
      cases l.foldl (pick cand beats) none with
      | none => simp [pick_first hc]
      | some y => rw [pick_next hc]; split <;> simp

/-- The best candidate of an ascending list beats every one before it, and none after it beats it. -/
theorem foldl_pick_eq_some (htrans : ∀ x y z, beats x y = true → beats y z = true → beats x z = true)
    (hweak : ∀ x y z, beats x y = true → beats z y = false → beats x z = true) {l : List (Fin n)} (hl : l.Pairwise (· < ·))
    {x : β} (h : l.foldl (pick cand beats) none = some x) :
    ∃ i ∈ l, cand i = some x ∧ ∀ j ∈ l, ∀ y, cand j = some y → (j < i → beats x y = true) ∧ (i < j → beats y x = false) := by
  induction l using List.reverseRecOn generalizing x with
  | nil => cases h
  | append_singleton l a ih =>
    obtain ⟨hl, -, hlast⟩ := List.pairwise_append.1 hl
    have hlast : ∀ j ∈ l, j < a := fun j hj => hlast j hj a (by simp)
    rw [List.foldl_append, List.foldl_cons, List.foldl_nil] at h
    have hkeep : ∀ y, l.foldl (pick cand beats) none = some y → (∀ z, cand a = some z → beats z y = false) →
        ∃ i ∈ l ++ [a], cand i = some y ∧
          ∀ j ∈ l ++ [a], ∀ z, cand j = some z → (j < i → beats y z = true) ∧ (i < j → beats z y = false) := by
      intro y hy hbeaten
      obtain ⟨i, hi, hci, hall⟩ := ih hl hy
      refine ⟨i, List.mem_append_left _ hi, hci, fun j hj z hz => ?_⟩
      obtain hj | hj := List.mem_append.1 hj
      · exact hall j hj z hz
      · obtain rfl := List.mem_singleton.1 hj
        exact ⟨fun hlt => absurd hlt (not_lt.2 (hlast i hi).le), fun _ => hbeaten z hz⟩
    cases hc : cand a with
    | none =>
      rw [pick_of_none hc] at h
      exact hkeep x h fun z hz => by simp [hc] at hz
    | some x' =>
      have hself : ∀ z, cand a = some z → z = x' := fun z hz => Option.some.inj (hz.symm.trans hc)
      cases hbest : l.foldl (pick cand beats) none with
      | none =>
        rw [hbest, pick_first hc] at h
        cases h
        refine ⟨a, by simp, hc, fun j hj z hz => ?_⟩
        obtain hj | hj := List.mem_append.1 hj
        · exact absurd ((foldl_pick_eq_none l).1 hbest j hj) (by simp [hz])
        · obtain rfl := List.mem_singleton.1 hj
          exact ⟨fun hlt => absurd hlt (lt_irrefl _), fun hlt => absurd hlt (lt_irrefl _)⟩
      | some y =>
        rw [hbest, pick_next hc] at h
        split at h
        · next hbeats =>
          cases h
          obtain ⟨i, hi, hci, hall⟩ := ih hl hbest
          refine ⟨a, by simp, hc, fun j hj z hz => ?_⟩
          obtain hj | hj := List.mem_append.1 hj
          · refine ⟨fun _ => ?_, fun hlt => absurd hlt (not_lt.2 (hlast j hj).le)⟩
            obtain ⟨hbefore, hafter⟩ := hall j hj z hz
            obtain hlt | rfl | hlt := lt_trichotomy j i
            · exact htrans _ _ _ hbeats (hbefore hlt)
            · exact Option.some.inj (hci.symm.trans hz) ▸ hbeats
            · exact hweak _ _ _ hbeats (hafter hlt)
          · obtain rfl := List.mem_singleton.1 hj
            exact ⟨fun hlt => absurd hlt (lt_irrefl _), fun hlt => absurd hlt (lt_irrefl _)⟩
        · next hbeats =>
          cases h
          exact hkeep x hbest fun z hz => by simpa [hself z hz] using hbeats

end pick

/-! ### The announcement entries -/

theorem mem_announcementIndices {i : Fin 16} : i ∈ announcementIndices ↔ i ≠ 0 := by
  revert i
  decide

theorem announcementIndices_ascending : announcementIndices.Pairwise (· < ·) := by decide

theorem AnnEntry.isFree_iff (e : AnnEntry) :
    e.isFree = true ↔
      e.state = .free ∨ (e.state = .fading ∧ 8 ≤ e.absence) ∨ (e.state = .described ∧ 2000 ≤ e.age) := by
  simp [AnnEntry.isFree, AnnEntry.expired]

section lookup
variable {s : State}

theorem State.entryOf_eq_some {tag : Byte} {i : Fin 16} : s.entryOf tag = some i ↔
    i ≠ 0 ∧ ((s.anu.entries.get i).tag = some tag ∧ (s.anu.entries.get i).isFree = false) ∧
      ∀ j, j ≠ 0 → j < i → (s.anu.entries.get j).tag = some tag → (s.anu.entries.get j).isFree = true := by
  unfold State.entryOf
  rw [find?_eq_some_iff_lowest announcementIndices_ascending]
  simp [mem_announcementIndices]

theorem State.entryOf_eq_none {tag : Byte} : s.entryOf tag = none ↔
    ∀ i, i ≠ 0 → (s.anu.entries.get i).tag = some tag → (s.anu.entries.get i).isFree = true := by
  simp [State.entryOf, mem_announcementIndices]

theorem State.freeEntry_eq_some {i : Fin 16} : s.freeEntry = some i ↔
    i ≠ 0 ∧ (s.anu.entries.get i).isFree = true ∧ ∀ j, j ≠ 0 → j < i → (s.anu.entries.get j).isFree = false := by
  unfold State.freeEntry
  rw [find?_eq_some_iff_lowest announcementIndices_ascending]
  simp [mem_announcementIndices]

theorem State.freeEntry_eq_none : s.freeEntry = none ↔ ∀ i, i ≠ 0 → (s.anu.entries.get i).isFree = false := by
  simp [State.freeEntry, mem_announcementIndices]

/-- A DESCRIBED entry as a candidate for replacement. -/
def State.describedAt (s : State) (i : Fin 16) : Option (Fin 16) :=
  if (s.anu.entries.get i).state = .described then some i else none

def State.older (s : State) (i j : Fin 16) : Bool := decide ((s.anu.entries.get j).age < (s.anu.entries.get i).age)

theorem State.oldestDescribed_eq_pick (s : State) :
    s.oldestDescribed = announcementIndices.foldl (pick s.describedAt s.older) none := by
  unfold State.oldestDescribed
  congr
  funext best i
  unfold pick State.describedAt State.older
  dsimp only
  split
  · cases best <;> simp
  · rfl

theorem State.describedAt_eq_some {i j : Fin 16} :
    s.describedAt i = some j ↔ (s.anu.entries.get i).state = .described ∧ i = j := by
  unfold State.describedAt
  split <;> simp_all

theorem State.oldestDescribed_eq_none : s.oldestDescribed = none ↔ ∀ i, i ≠ 0 → (s.anu.entries.get i).state ≠ .described := by
  rw [State.oldestDescribed_eq_pick, foldl_pick_eq_none]
  simp [mem_announcementIndices, State.describedAt]

theorem State.oldestDescribed_eq_some {i : Fin 16} (h : s.oldestDescribed = some i) :
    i ≠ 0 ∧ (s.anu.entries.get i).state = .described ∧ ∀ j, j ≠ 0 → (s.anu.entries.get j).state = .described →
      (s.anu.entries.get j).age < (s.anu.entries.get i).age ∨ ((s.anu.entries.get j).age = (s.anu.entries.get i).age ∧ i ≤ j) := by
  rw [State.oldestDescribed_eq_pick] at h
  obtain ⟨k, hk, hcand, hall⟩ := foldl_pick_eq_some
    (fun x y z => by simp only [State.older, decide_eq_true_eq]; omega)
    (fun x y z => by simp only [State.older, decide_eq_true_eq, decide_eq_false_iff_not]; omega)
    announcementIndices_ascending h
  obtain ⟨hdescribed, rfl⟩ := State.describedAt_eq_some.1 hcand
  refine ⟨mem_announcementIndices.1 hk, hdescribed, fun j hj hdesc => ?_⟩
  obtain ⟨hbefore, hafter⟩ := hall j (mem_announcementIndices.2 hj) j (State.describedAt_eq_some.2 ⟨hdesc, rfl⟩)
  obtain hlt | rfl | hlt := lt_trichotomy j k
  · exact .inl (by simpa [State.older] using hbefore hlt)
  · exact .inr ⟨rfl, le_rfl⟩
  · have := hafter hlt
    simp only [State.older, decide_eq_false_iff_not, not_lt] at this
    obtain h | h := this.lt_or_eq
    · exact .inl h
    · exact .inr ⟨h, hlt.le⟩

end lookup

/-! ### A dispatched PRESENT (R84 to R87) -/

theorem presentClass_eq (cls : AnnClass) (t : Target) :
    presentClass cls t = if cls = .wake ∧ t.kindByte ≠ 2 then .crew else cls := by
  cases cls <;> cases t <;> rfl

theorem State.takePresent_eq {s : State} {tag seq : Byte} {cls : AnnClass} {target : Target} {text : List Byte}
    {rest : List Message} (h : s.cmu.dispatch = .present tag seq cls target text :: rest) :
    s.takePresent = ({ s with cmu := { s.cmu with dispatch := rest } }).applyPresent tag seq cls target text := by
  simp [State.takePresent, h]

section applyPresent
variable {tag seq : Byte} {cls : AnnClass} {target : Target} {text : List Byte} {s : State} {i : Fin 16}

theorem State.applyPresent_alert : s.applyPresent 0x00 seq cls target text =
    s.setEntry 0 { s.anu.entries.get 0 with text := text, textMark := true } := rfl

theorem State.applyPresent_known (htag : tag ≠ 0x00) (hentry : s.entryOf tag = some i) :
    s.applyPresent tag seq cls target text = s.setEntry i ((s.anu.entries.get i).present seq cls target text) := by
  unfold State.applyPresent
  rw [if_neg htag, hentry]

theorem State.applyPresent_new (htag : tag ≠ 0x00) (hentry : s.entryOf tag = none)
    (hi : s.freeEntry = some i ∨ (s.freeEntry = none ∧ s.oldestDescribed = some i)) :
    s.applyPresent tag seq cls target text =
      s.setEntry i { AnnEntry.described tag seq cls target text with freed := (s.anu.entries.get i).freed } := by
  unfold State.applyPresent
  rw [if_neg htag, hentry]
  obtain hi | ⟨hnone, hi⟩ := hi
  · rw [hi]
  · rw [hnone, hi]

theorem State.applyPresent_full (htag : tag ≠ 0x00) (hentry : s.entryOf tag = none) (hfree : s.freeEntry = none)
    (hold : s.oldestDescribed = none) : s.applyPresent tag seq cls target text = s.bump .tableFull := by
  unfold State.applyPresent
  rw [if_neg htag, hentry, hfree, hold]

end applyPresent

/-- Settles O28. -/
theorem presentDescribesAnAnnouncement : Obligations.PresentDescribesAnAnnouncement := by
  constructor
  · intro s entry free
    have hfree : ∀ i, free i ↔ (s.anu.entries.get i).isFree = true := fun i => (AnnEntry.isFree_iff _).symm
    simp only [hfree, Bool.not_eq_true]
    refine ⟨fun tag => ⟨fun i h => ?_, State.entryOf_eq_none⟩, fun i h => State.freeEntry_eq_some.1 h, State.freeEntry_eq_none,
      fun i h => State.oldestDescribed_eq_some h, State.oldestDescribed_eq_none⟩
    obtain ⟨hi, ⟨htag, hused⟩, hlow⟩ := State.entryOf_eq_some.1 h
    exact ⟨hi, htag, hused, hlow⟩
  · intro tag seq cls target text rest s hdispatch s' taken entry
    have hexec : exec .present s = .next (s'.applyPresent tag seq cls target text) :=
      (exec_of_event (e := .present) rfl s).trans (congrArg _ (State.takePresent_eq hdispatch))
    have htaken : presentClass cls target = taken := presentClass_eq cls target
    rw [hexec]
    refine ⟨?_, fun i htag hentry hseq => ?_, fun i htag hentry hseq hstate => ?_, fun i htag hentry hseq hstate => ?_,
      fun i htag hentry hi => ?_, fun htag hentry hfree hold => ?_⟩
    · rintro rfl
      exact congrArg _ State.applyPresent_alert
    · rw [State.applyPresent_known (s := s') htag hentry]
      simp only [AnnEntry.present]
      rw [if_pos hseq]
    · rw [State.applyPresent_known (s := s') htag hentry]
      simp only [AnnEntry.present]
      rw [if_neg hseq, if_neg hstate, AnnEntry.describe, htaken]
    · rw [State.applyPresent_known (s := s') htag hentry]
      simp only [AnnEntry.present]
      rw [if_neg hseq, if_pos hstate, AnnEntry.describe, htaken]
    · rw [State.applyPresent_new (s := s') htag hentry hi]
      simp only [AnnEntry.described, AnnEntry.describe, htaken]
      rfl
    · rw [State.applyPresent_full (s := s') htag hentry hfree hold]

end Sys2Proof.Machine
end

section
/-!
PROOFS. A berth with alighting stop 0 stays IDLE, and entry 0 stays the alert's (O59).
-/

namespace Sys2Proof.Machine

/-! ### Stop 0 and IDLE -/

namespace State.stopZeroIdle
variable {s : State} (h : s.stopZeroIdle)
include h

/-- The property reads nothing but the berth contexts and the wake contexts. -/
theorem congr {t : State} (hbcu : t.bcu = s.bcu) (hwku : t.wku = s.wku) : t.stopZeroIdle := by
  intro b
  rw [hbcu, hwku]
  exact h b

theorem setBerth (b : Fin 4) {x : Berth} (hx : x.stop = (s.bcu.get b).stop) : (s.setBerth b x).stopZeroIdle := by
  intro c hc
  refine h c ?_
  simp only [setBerth_bcu, Table.get_set] at hc
  split at hc
  · next heq => subst heq; rw [← hx]; exact hc
  · exact hc

theorem setWake (b : Fin 4) {x : Wake} (hx : (s.bcu.get b).stop = 0 → x.state = .idle) : (s.setWake b x).stopZeroIdle := by
  intro c hc
  simp only [setWake_wku, Table.get_set]
  split
  · next heq => subst heq; exact hx hc
  · exact h c hc

theorem withLamp (b : Fin 4) (l : Lamp) : (s.setBerth b ((s.bcu.get b).withLamp l)).stopZeroIdle := by
  refine h.setBerth b ?_
  unfold Berth.withLamp
  split
  · split <;> rfl
  · rfl
  · rfl

theorem deriveLamp (b : Fin 4) : (s.deriveLamp b).stopZeroIdle := h.withLamp b _

theorem setWakeReport (b : Fin 4) {x : Wake} (hx : (s.bcu.get b).stop = 0 → x.state = .idle) :
    (s.setWakeReport b x).stopZeroIdle := by
  unfold State.setWakeReport
  dsimp only
  split
  · exact h.setWake b hx
  · exact (h.setWake b hx).deriveLamp b

/-- A wake state that was not IDLE shows that a session is open, so the stop is not 0. -/
theorem stop_ne_zero (b : Fin 4) (hw : (s.wku.get b).state ≠ .idle) : (s.bcu.get b).stop ≠ 0 := fun hz => hw (h b hz)

theorem setWakeReport_open (b : Fin 4) {x : Wake} (hw : (s.wku.get b).state ≠ .idle) : (s.setWakeReport b x).stopZeroIdle :=
  h.setWakeReport b fun hz => absurd hz (h.stop_ne_zero b hw)

theorem queueWakeClear (b : Fin 4) : (s.queueWakeClear b).stopZeroIdle := h.congr rfl rfl

theorem queueWakeMissed (b : Fin 4) : (s.queueWakeMissed b).stopZeroIdle := h.congr rfl rfl

theorem pillowMute (b : Fin 4) : (s.pillowMute b).stopZeroIdle := h.congr rfl rfl

theorem pillowRestart (b : Fin 4) (base : Nat) : (s.pillowRestart b base).stopZeroIdle := h.congr rfl rfl

theorem setMix (b : Fin 4) (x : MixBerth) : (s.setMix b x).stopZeroIdle := h.congr rfl rfl

theorem mixUserLevel (b : Fin 4) : (s.mixUserLevel b).stopZeroIdle := h.congr rfl rfl

theorem setOverlay (b : Fin 4) (o : Option Overlay) : (s.setOverlay b o).stopZeroIdle := by
  have hset : (s.setFeed b { s.feed b with overlay := o }).stopZeroIdle := h.congr rfl rfl
  unfold State.setOverlay
  dsimp only
  split
  · exact hset
  · exact hset.deriveLamp b

theorem showOverlay (b : Fin 4) (o : Overlay) : (s.showOverlay b o).stopZeroIdle :=
  (h.congr (by simp) (by simp) : (s.placeCard b (cardRecord layerOverlay o.card o.text)).stopZeroIdle).setOverlay b _

theorem sfuFollowChange (b : Fin 4) (new : Follow) : (s.sfuFollowChange b new).stopZeroIdle := by
  unfold State.sfuFollowChange
  split
  · exact h
  · exact h.showOverlay b _
  · split
    · split
      · split
        · exact h
        · exact h.showOverlay b _
      · exact h.setOverlay b _
    · split
      · exact h.showOverlay b _
      · exact h

theorem wkuFollowChange (b : Fin 4) (new : Follow) : (s.wkuFollowChange b new).stopZeroIdle := by
  have hkeep : ∀ x : Wake, x.state = (s.wku.get b).state → (s.setWake b x).stopZeroIdle :=
    fun x hx => h.setWake b fun hz => hx.trans (h b hz)
  unfold State.wkuFollowChange
  dsimp only
  split
  · split
    · next hw => exact h.setWakeReport_open b (by simp [hw])
    · next hw => exact (h.setWakeReport_open b (by simp [hw])).queueWakeClear b
    · exact State.stopZeroIdle.pillowRestart (hkeep { s.wku.get b with base := _, following := _, hold := none } rfl) b _
    · exact hkeep _ rfl
    · exact hkeep _ rfl
  · split
    · split <;> exact hkeep _ rfl
    · exact hkeep _ rfl

theorem publish (b : Fin 4) (new : Follow) : (s.publish b new).stopZeroIdle := by
  have hmix : ((s.setFollow b new).mixFollowChange b (s.anu.follow.get b) new).stopZeroIdle := h.congr (by simp) (by simp)
  exact (hmix.wkuFollowChange b new).sfuFollowChange b new

theorem endFollows (i : Fin 16) : (s.endFollows i).stopZeroIdle :=
  foldl_keeps (I := State.stopZeroIdle)
    (fun s b h => keeps_when (I := State.stopZeroIdle) (fun _ h => publish h b .nothing) s h) (indices 4) h

theorem freeNow (i : Fin 16) : (s.freeNow i).stopZeroIdle :=
  (h.congr rfl rfl : (s.setEntry i .freedNow).stopZeroIdle).endFollows i

theorem anuTeardown : s.anuTeardown.stopZeroIdle := by
  refine foldl_keeps (I := State.stopZeroIdle) (fun s i h => ?_) announcementIndices h
  split
  · exact h
  · exact freeNow h i

theorem followBerth (b : Fin 4) : (s.followBerth b).stopZeroIdle := by
  obtain heq | heq := s.followBerth_cases b <;> rw [heq]
  · exact h
  · exact h.publish b _

theorem evaluate : s.evaluate.stopZeroIdle := by
  have htable : s.evaluateTable.stopZeroIdle := h.congr (by simp) (by simp)
  have hfollowed : (s.evaluateTable.configuredBerths.foldl (fun s b => s.followBerth b) s.evaluateTable).stopZeroIdle :=
    foldl_keeps (I := State.stopZeroIdle) (fun _ b h => followBerth h b) _ htable
  unfold State.evaluate
  dsimp only
  generalize s.evaluateTable.configuredBerths.foldl (fun s b => s.followBerth b) s.evaluateTable = t at hfollowed ⊢
  exact hfollowed.congr rfl rfl

theorem enterListen : s.enterListen.stopZeroIdle := by
  have hlcu : ({ s with tlu := s.tlu.listen } : State).smuTeardown.lcuTeardown.stopZeroIdle := h.congr (by simp) (by simp)
  exact hlcu.anuTeardown.congr (by simp [State.enterListen]) (by simp [State.enterListen])

theorem endSession (b : Fin 4) : (s.endSession b).stopZeroIdle := by
  intro c hc
  by_cases hcb : c = b
  · subst hcb
    simp [State.endSession_wku]
  · obtain ⟨hbcu, hwku⟩ := s.endSession_other b hcb
    rw [hbcu] at hc
    rw [hwku]
    exact h c hc

theorem takeHoldTimer (b : Fin 4) : (s.takeHoldTimer b).stopZeroIdle := by
  have hstopped : (s.holdStopped b).stopZeroIdle := h.setWake b fun hz => h b hz
  unfold State.takeHoldTimer
  dsimp only
  split
  · split
    · next hw =>
      exact (hstopped.setWakeReport_open b (by simp [State.holdStopped, hw])).queueWakeMissed b
    · exact hstopped.endSession b
    · exact hstopped
    · exact hstopped
    · exact hstopped
  · exact h

theorem takeBerthSet : s.takeBerthSet.stopZeroIdle := by
  unfold State.takeBerthSet
  split
  · next st rest _ =>
    dsimp only
    split
    · next i _ =>
      intro c hc
      obtain ⟨hbcu, hwku⟩ := (s.stopSet i st rest).wkuBerthSet_report i st
      change (((s.stopSet i st rest).wkuBerthSet i st).bcu.get c).stop = 0 at hc
      change (((s.stopSet i st rest).wkuBerthSet i st).wku.get c).state = .idle
      rw [hbcu] at hc
      rw [hwku]
      by_cases hci : c = i
      · subst hci
        rw [State.setWakeReport_stop] at hc
        have hst : st = 0 := by simpa [State.stopSet, State.setStop_bcu] using hc
        simp [State.sessionSet, hst]
      · rw [State.setWakeReport_other i _ _ hci] at hc
        rw [Table.get_set_of_ne _ _ (Ne.symm hci)]
        refine h c ?_
        simpa [State.stopSet, State.setStop_bcu, Ne.symm hci] using hc
    · exact h.congr rfl rfl
  · exact h

theorem takeWakeClear : s.takeWakeClear.stopZeroIdle := by
  unfold State.takeWakeClear
  split
  · next n k rest _ =>
    have hheard : (s.clearHeard n k rest).stopZeroIdle := h.congr rfl rfl
    dsimp only
    split
    · split
      · exact hheard.endSession _
      · exact hheard
    · exact hheard
  · exact h

theorem dismiss (b : Fin 4) : (s.dismiss b).stopZeroIdle := by
  unfold State.dismiss
  split
  · split
    · exact h.setOverlay b _
    · exact h
  · exact h

theorem takeAckPress (b : Fin 4) : (s.takeAckPress b).stopZeroIdle := by
  have haccepted : (s.ackAccepted b).stopZeroIdle := h.setBerth b rfl
  by_cases hdue : s.inputDue b .ack true = true
  · by_cases hcalling : (s.wku.get b).state = .calling
    · rw [takeAckPress_calling hdue hcalling]
      exact (haccepted.setWakeReport_open b (by simp [State.ackAccepted, hcalling])).pillowMute b
    · by_cases hmissed : (s.wku.get b).state = .missed
      · rw [takeAckPress_missed hdue hmissed]
        exact (haccepted.endSession b).queueWakeClear b
      · rw [takeAckPress_other hdue hcalling hmissed]
        exact haccepted.dismiss b
  · rw [State.takeAckPress, if_neg hdue]
    exact h

theorem takeCard : s.takeCard.stopZeroIdle := by
  have hmessage : ∀ d text (t : State) b, t.stopZeroIdle → (t.showMessage d text b).stopZeroIdle := by
    intro d text t b ht
    unfold State.showMessage
    split
    · exact ht
    · exact ht.showOverlay b _
  unfold State.takeCard
  split
  · exact foldl_keeps (I := State.stopZeroIdle) (hmessage _ _) _ (h.congr rfl rfl)
  · exact h

theorem takeCardDuration (b : Fin 4) : (s.takeCardDuration b).stopZeroIdle := by
  unfold State.takeCardDuration
  split
  · split
    · exact h.setOverlay b _
    · exact h
  · exact h

theorem takeLinger (b : Fin 4) : (s.takeLinger b).stopZeroIdle := by
  unfold State.takeLinger
  split
  · split
    · exact (h.congr (by simp) (by simp) : (s.placeCard b (clearRecord layerOverlay)).stopZeroIdle).setOverlay b _
    · exact h
  · exact h

theorem stepVolume (b : Fin 4) (d : Dir) : (s.stepVolume b d).stopZeroIdle := by
  unfold State.stepVolume
  dsimp only
  split
  · exact h
  · refine State.stopZeroIdle.mixUserLevel ?_ b
    exact h.setBerth b rfl

theorem completeSwitch (b : Fin 4) (ch : Choice) (cause : SwitchCause) : (s.completeSwitch b ch cause).stopZeroIdle :=
  (h.setBerth b rfl : (s.setBerth b
    { s.bcu.get b with choice := ch, pendingChoice := none, pendingTimer := none }).stopZeroIdle).congr
      (by rw [State.completeSwitch]; simp) (by rw [State.completeSwitch]; simp)

theorem bcuCompletions : s.bcuCompletions.stopZeroIdle := by
  refine foldl_keeps (I := State.stopZeroIdle) (fun t b ht => ?_) s.configuredBerths h
  unfold State.completeWithoutVideo
  split
  · split
    · exact ht.completeSwitch b _ _
    · exact ht
  · exact ht

theorem takePendingTimer (b : Fin 4) : (s.takePendingTimer b).stopZeroIdle := by
  unfold State.takePendingTimer
  dsimp only
  split
  · split
    · exact h.completeSwitch b _ _
    · exact h.setBerth b rfl
  · exact h

theorem offerRecord (tag : Byte) (r : List Byte) (b : Fin 4) : (s.offerRecord tag r b).stopZeroIdle := by
  have htaken : (s.feedTake b r).stopZeroIdle := h.congr (by simp) (by simp)
  unfold State.offerRecord
  split
  · split
    · exact (h.congr (by simp) (by simp) : (s.keySwitchFeed b tag r).stopZeroIdle).completeSwitch b _ _
    · split
      · exact htaken
      · exact h
  · split
    · exact htaken
    · exact h

theorem takeRecord : s.takeRecord.stopZeroIdle := by
  unfold State.takeRecord
  split
  · exact h
  · dsimp only
    split
    · exact foldl_keeps (I := State.stopZeroIdle) (fun t b ht => offerRecord ht _ _ b) _ (h.congr rfl rfl)
    · exact h.congr rfl rfl

/-- R205: a berth reset in the BCU and the WKU together. -/
theorem bcuReset_wkuReset {t : State} (b : Fin 4) (hbcu : t.bcu = (s.bcuReset b).bcu) (hwku : t.wku = (s.wkuReset b).wku) :
    t.stopZeroIdle := by
  intro c hc
  by_cases hcb : c = b
  · subst hcb
    simp [hwku, State.wkuReset, Wake.unconfigured]
  · rw [hwku]
    rw [hbcu] at hc
    refine (Table.get_set_of_ne _ _ (Ne.symm hcb)).symm ▸ h c ?_
    exact (Table.get_set_of_ne s.bcu _ (Ne.symm hcb)) ▸ hc

theorem berthReset (b : Fin 4) : (s.berthReset b).stopZeroIdle :=
  h.bcuReset_wkuReset b (by simp [State.berthReset]) (by simp [State.berthReset, State.wkuReset, State.cfg])

theorem loadBerth (b : Fin 4) : (s.loadBerth b).stopZeroIdle := by
  unfold State.loadBerth
  split
  · exact h.bcuReset_wkuReset b (by simp) (by simp [State.wkuReset, State.cfg])
  · exact h.setWake b fun _ => rfl

theorem configure (image : List Byte) (straps : BitVec 6) : (s.configure image straps).stopZeroIdle :=
  foldl_keeps (I := State.stopZeroIdle) (fun _ b ht => loadBerth ht b) (indices 4) (h.congr (by simp) (by simp))

theorem bcuTick (pins : TickPins) : (s.bcuTick pins).stopZeroIdle := by
  intro b hb
  refine h b ?_
  simp only [State.bcuTick, Table.get_mapIdx] at hb
  split at hb <;> exact hb

theorem wkuTick : s.wkuTick.stopZeroIdle := by
  intro b hb
  simpa [State.wkuTick] using h b hb

theorem cycleTick (fs : FrameStart) : (s.cycleTick fs).stopZeroIdle := by
  have hbcu : ({ s with tlu := s.tlu.tick } : State).stopZeroIdle := h
  have htick := (hbcu.bcuTick fs.pins).wkuTick
  unfold State.cycleTick
  dsimp only
  split
  · exact htick.congr (by simp [State.wkuTick]) (by simp [State.wkuTick])
  · exact htick.congr (by simp [State.wkuTick]) (by simp [State.wkuTick])

theorem mapUpdate : s.mapUpdate.stopZeroIdle := by
  have hlcu : s.smuMapUpdate.receiversReassign.lcuMapUpdate.stopZeroIdle := h.congr (by simp) (by simp)
  exact hlcu.bcuCompletions.evaluate

theorem takeCommand {k : ServiceCommand} {effect : List Byte → State → State}
    (heffect : ∀ c t, t.stopZeroIdle → (effect c t).stopZeroIdle) : (s.takeCommand k effect).stopZeroIdle := by
  unfold State.takeCommand
  split
  · exact h
  · split
    · dsimp only
      split
      · exact h.congr rfl rfl
      · exact heffect _ _ (h.congr rfl rfl)
    · exact h

theorem takeResetBerth : s.takeResetBerth.stopZeroIdle := by
  refine h.takeCommand fun c t ht => ?_
  unfold State.withBerth
  dsimp only
  split
  · split
    · exact (ht.berthReset _).congr rfl rfl
    · exact ht.congr rfl rfl
  · exact ht.congr rfl rfl

theorem takeEvent (e : Event) : (takeEvent e s).stopZeroIdle := by
  have hberth : ∀ (b : Fin 4) (x : Berth), x.stop = (s.bcu.get b).stop → (s.setBerth b x).stopZeroIdle :=
    fun b x hx => h.setBerth b hx
  have hwhen : ∀ (c : Prop) [Decidable c] (t : State), t.stopZeroIdle → (if c then t else s).stopZeroIdle := by
    intro c _ t ht
    split
    · exact ht
    · exact h
  have hrepeat : ∀ (b : Fin 4) (x : Berth) (d : Dir) (timer : Timer), x.stop = (s.bcu.get b).stop →
      (s.setBerth b (x.withRepeat d timer)).stopZeroIdle := by
    intro b x d timer hx
    cases d <;> exact hberth b _ hx
  cases e with
  | framesSinceForeign =>
    refine hwhen _ _ ?_
    split
    · exact h.congr rfl rfl
    · exact (h.congr rfl rfl : (s.bump .linkDrops).stopZeroIdle).enterListen
  | recordDelivered => exact h.takeRecord
  | withdraw =>
    simp only [Machine.takeEvent]
    unfold State.takeWithdraw State.applyWithdraw
    split
    · have hrest : ∀ c : Cmu, ({ s with cmu := c } : State).stopZeroIdle := fun _ => h.congr rfl rfl
      split
      · split
        · exact (hrest _).freeNow _
        · exact hrest _
      · exact hrest _
    · exact h
  | berthSet => exact h.takeBerthSet
  | card => exact h.takeCard
  | wakeClear => exact h.takeWakeClear
  | fading i => exact hwhen _ _ (h.freeNow i)
  | descriptionAge i => exact hwhen _ _ (h.freeNow i)
  | headsetDetect b =>
    refine hwhen _ _ (State.stopZeroIdle.setMix ?_ b _)
    exact hberth b _ rfl
  | volPress b d =>
    refine hwhen _ _ (State.stopZeroIdle.stepVolume ?_ b d)
    exact hrepeat b ((s.bcu.get b).acceptInput (volInput d)) d _ rfl
  | volRelease b d =>
    refine hwhen _ _ ?_
    exact hrepeat b ((s.bcu.get b).acceptInput (volInput d)) d _ rfl
  | channelPress b d =>
    refine hwhen _ _ (hberth b _ ?_)
    unfold Berth.land
    split <;> rfl
  | ackPress b => exact h.takeAckPress b
  | buttonRelease b k => exact hwhen _ _ (hberth b _ rfl)
  | repeatTimer b d =>
    refine hwhen _ _ ?_
    split
    · exact (hrepeat b (s.bcu.get b) d _ rfl).stepVolume b d
    · exact hrepeat b (s.bcu.get b) d _ rfl
  | pendingTimer b => exact h.takePendingTimer b
  | flashPhase b => exact hwhen _ _ (hberth b _ rfl)
  | holdTimer b => exact h.takeHoldTimer b
  | cardDuration b => exact h.takeCardDuration b
  | linger b => exact h.takeLinger b
  | command k =>
    cases k with
    | resetBerth => exact h.takeResetBerth
    | _ => exact h.congr (by simp [Machine.takeEvent]) (by simp [Machine.takeEvent])
  | _ => exact h.congr (by simp [Machine.takeEvent]) (by simp [Machine.takeEvent])

end State.stopZeroIdle

theorem keptByParts_stopZeroIdle : KeptByParts State.stopZeroIdle where
  queue _ _ h := h
  event e _ h := h.takeEvent e
  clock s h := by
    unfold State.timePasses
    split <;> exact h
  reset _ _ := by
    intro b _
    show ((Table.replicate 4 (Wake.unconfigured 0)).get b).state = .idle
    rw [Table.get_replicate]
    rfl
  loading _ h := h
  loaded image straps s h := (h.configure image straps).enterListen.congr (by simp only [State.loadingBegun])
    (by simp only [State.loadingBegun])
  timer _ _ h := h.congr (by simp) (by simp)
  guardRun _ h := h.congr (by simp) (by simp)
  readBack _ _ h := h.congr (by simp) (by simp)
  flywheel _ _ _ h := h
  standing _ h := h
  mark _ _ _ h := h.congr (by simp [State.markBegun]) (by simp [State.markBegun])
  ignored _ h := h
  tagSlot k byte wait s h := by
    have hover : ((s.collect k byte (s.resultOf k)).slotOver k wait).stopZeroIdle := h.congr rfl rfl
    unfold State.tagSlot
    dsimp only
    split
    · exact hover.mapUpdate
    · exact hover
  dataSlot _ _ _ _ _ h := h.congr (by simp) (by simp)
  tick fs _ h := h.cycleTick fs
  portBits _ _ h := h.congr (by simp) (by simp)
  afsPulse _ h := h.congr (by simp) (by simp)
  strobe _ _ _ _ h := h.congr (by simp) (by simp)
  feed _ _ _ h := h
  link _ _ h := h
  discard _ h := h
  completions _ h := h.bcuCompletions
  lcuEnd _ _ _ h := h.congr (by simp) (by simp)
  alert _ _ h := h
  dataEnd _ _ _ h := h.congr (by simp) (by simp)
  tables listen s h := by
    have hsmu : s.smuTick.stopZeroIdle := h.congr (by simp) (by simp)
    unfold State.tablesTick
    dsimp only
    split
    · exact hsmu.evaluate
    · exact hsmu
  feedFrame _ _ _ h := h.congr (by simp) (by simp)
  grant _ h := h.congr (by simp) (by simp)

/-! ### Entry 0 -/

/-- R82: the fields that make an entry A0's. -/
def AnnEntry.isAlert (e : AnnEntry) : Prop :=
  e.tag = some 0x00 ∧ e.cls = some .alert ∧ e.target = some .all ∧ e.seq = none ∧
    (e.state = .idle ∨ e.state = .active ∨ e.state = .fading)

theorem State.entryZeroIsAlert_iff (s : State) : s.entryZeroIsAlert ↔ (s.anu.entries.get 0).isAlert := Iff.rfl

namespace AnnEntry.isAlert
variable {e : AnnEntry} (h : e.isAlert)
include h

theorem takeStamp (c : BitVec 32) : (e.takeStamp c).isAlert := by
  unfold AnnEntry.takeStamp
  split <;> exact h

theorem alertUpdate (isPresent : Bool) (c : BitVec 32) : (e.alertUpdate isPresent c).isAlert := by
  obtain ⟨htag, hcls, htarget, hseq, hstate⟩ := id h
  unfold AnnEntry.alertUpdate
  split
  · exact h
  · exact ⟨htag, hcls, htarget, hseq, .inr (.inr rfl)⟩
  · exact ⟨htag, hcls, htarget, hseq, .inr (.inl rfl)⟩
  · exact h
  · exact ⟨htag, hcls, htarget, hseq, .inr (.inl rfl)⟩
  · exact h

end AnnEntry.isAlert

/-- A follow change writes the follow record and no entry. -/
@[simp] theorem State.publish_anu (b : Fin 4) (new : Follow) (s : State) :
    (s.publish b new).anu = { s.anu with follow := s.anu.follow.set b new } := by
  simp [State.publish]

theorem keeps_if {σ : Type} {I : σ → Prop} {c : Prop} [Decidable c] {s t : σ} (h : I s) (ht : c → I t) :
    I (if c then t else s) := by
  split
  · next hc => exact ht hc
  · exact h

theorem foldl_keeps_mem {σ α : Type} {I : σ → Prop} {f : σ → α → σ} {l : List α} (hf : ∀ a ∈ l, ∀ s, I s → I (f s a)) {s : σ}
    (h : I s) : I (l.foldl f s) := by
  induction l generalizing s with
  | nil => exact h
  | cons a l ih => exact ih (fun b hb => hf b (List.mem_cons_of_mem _ hb)) (hf a List.mem_cons_self s h)

@[simp] theorem State.endFollows_entries (i : Fin 16) (s : State) : (s.endFollows i).anu.entries = s.anu.entries := by
  refine foldl_keeps (I := fun t : State => t.anu.entries = s.anu.entries) (fun t b ht => ?_) (indices 4) rfl
  split
  · rw [State.publish_anu]; exact ht
  · exact ht

@[simp] theorem State.freeNow_entries (i : Fin 16) (s : State) :
    (s.freeNow i).anu.entries = s.anu.entries.set i .freedNow := by
  simp [State.freeNow]

@[simp] theorem State.followBerth_entries (b : Fin 4) (s : State) : (s.followBerth b).anu.entries = s.anu.entries := by
  obtain heq | heq := s.followBerth_cases b <;> rw [heq]
  simp

/-- R89: the tag of an entry is among the tags heard. -/
def AnnEntry.isHeard (heard : List Byte) (e : AnnEntry) : Bool := e.tag.any heard.contains

/-- R90: the third step of an evaluation for one entry. -/
theorem State.updateEntry_eq (heard : List Byte) (i : Fin 16) (s : State) :
    s.updateEntry heard i =
      let e := s.anu.entries.get i
      let t := s.setEntry i (e.update (e.isHeard heard) s.tlu.cycleCount)
      if e.state = .undescribed ∧ e.isHeard heard = false then t.bump .undescribed else t := by
  unfold State.updateEntry AnnEntry.isHeard
  dsimp only
  cases (s.anu.entries.get i).tag <;> rfl

@[simp] theorem State.updateEntry_anu (heard : List Byte) (i : Fin 16) (s : State) :
    (s.updateEntry heard i).anu = { s.anu with
      entries := s.anu.entries.set i ((s.anu.entries.get i).update ((s.anu.entries.get i).isHeard heard) s.tlu.cycleCount) } := by
  rw [State.updateEntry_eq]
  dsimp only
  split <;> rfl

/-- R90: an evaluation after its first step, after its second and after its third. -/
def State.stamped (s : State) : State :=
  { s with anu := { s.anu with entries := s.anu.entries.map (AnnEntry.takeStamp s.tlu.cycleCount) } }

def State.alertUpdated (s : State) : State :=
  s.stamped.setEntry 0
    ((s.stamped.anu.entries.get 0).alertUpdate (s.anu.alert.active || s.heardTags.contains 0x00) s.tlu.cycleCount)

def State.entriesUpdated (s : State) : State :=
  announcementIndices.foldl (fun t i => t.updateEntry s.heardTags i) s.alertUpdated

theorem State.evaluateTable_eq (s : State) :
    s.evaluateTable = (announcementTags s.heardTags).foldl (fun t g => t.allocateHeard g) s.entriesUpdated := rfl

@[simp] theorem State.configure_entries (image : List Byte) (straps : BitVec 6) (s : State) :
    (s.configure image straps).anu.entries = s.anu.entries := by
  unfold State.configure
  simp

namespace State.entryZeroIsAlert
variable {s : State} (h : s.entryZeroIsAlert)
include h

theorem congr {t : State} (heq : t.anu.entries = s.anu.entries) : t.entryZeroIsAlert := by
  rw [entryZeroIsAlert_iff, heq]
  exact h

theorem setEntry {i : Fin 16} (hi : i ≠ 0) (x : AnnEntry) : (s.setEntry i x).entryZeroIsAlert := by
  rw [entryZeroIsAlert_iff]
  simpa [hi] using (entryZeroIsAlert_iff s).1 h

omit h in
theorem setEntry_zero {x : AnnEntry} (hx : x.isAlert) : (s.setEntry 0 x).entryZeroIsAlert := by
  rw [entryZeroIsAlert_iff]
  simpa using hx

theorem freeNow {i : Fin 16} (hi : i ≠ 0) : (s.freeNow i).entryZeroIsAlert := (h.setEntry hi .freedNow).congr (by simp)

theorem anuTeardown : s.anuTeardown.entryZeroIsAlert := by
  refine foldl_keeps_mem (I := State.entryZeroIsAlert) (fun i hi t ht => ?_) h
  split
  · exact ht
  · exact ht.freeNow (mem_announcementIndices.1 hi)

theorem enterListen : s.enterListen.entryZeroIsAlert := by
  have hlcu : ({ s with tlu := s.tlu.listen } : State).smuTeardown.lcuTeardown.entryZeroIsAlert := h.congr (by simp)
  exact hlcu.anuTeardown.congr (by simp [State.enterListen])

theorem applyPresent (tag seq : Byte) (cls : AnnClass) (target : Target) (text : List Byte) :
    (s.applyPresent tag seq cls target text).entryZeroIsAlert := by
  by_cases htag : tag = 0x00
  · subst htag
    exact State.entryZeroIsAlert.setEntry_zero h
  · cases hentry : s.entryOf tag with
    | some i =>
      rw [applyPresent_known htag hentry]
      exact h.setEntry (entryOf_eq_some.1 hentry).1 _
    | none =>
      cases hfree : s.freeEntry with
      | some i =>
        rw [applyPresent_new htag hentry (.inl hfree)]
        exact h.setEntry (freeEntry_eq_some.1 hfree).1 _
      | none =>
        cases hold : s.oldestDescribed with
        | some i =>
          rw [applyPresent_new htag hentry (.inr ⟨hfree, hold⟩)]
          exact h.setEntry (oldestDescribed_eq_some hold).1 _
        | none =>
          rw [applyPresent_full htag hentry hfree hold]
          exact h

theorem updateEntry (heard : List Byte) {i : Fin 16} (hi : i ≠ 0) : (s.updateEntry heard i).entryZeroIsAlert :=
  (h.setEntry hi ((s.anu.entries.get i).update ((s.anu.entries.get i).isHeard heard) s.tlu.cycleCount)).congr (by simp)

theorem allocateHeard (t : Byte) : (s.allocateHeard t).entryZeroIsAlert := by
  unfold State.allocateHeard
  split
  · exact h
  · split
    · next hfree => exact h.setEntry (freeEntry_eq_some.1 hfree).1 _
    · exact h

theorem evaluateTable : s.evaluateTable.entryZeroIsAlert := by
  have hstamped : s.stamped.entryZeroIsAlert := by
    rw [entryZeroIsAlert_iff]
    simpa [State.stamped] using ((entryZeroIsAlert_iff s).1 h).takeStamp _
  have halert : s.alertUpdated.entryZeroIsAlert := setEntry_zero (AnnEntry.isAlert.alertUpdate hstamped _ _)
  have hentries : s.entriesUpdated.entryZeroIsAlert :=
    foldl_keeps_mem (I := State.entryZeroIsAlert) (fun i hi _ ht => updateEntry ht _ (mem_announcementIndices.1 hi)) halert
  rw [evaluateTable_eq]
  exact foldl_keeps (I := State.entryZeroIsAlert) (fun _ g ht => allocateHeard ht g) _ hentries

theorem evaluate : s.evaluate.entryZeroIsAlert := by
  have hfollowed : (s.evaluateTable.configuredBerths.foldl (fun s b => s.followBerth b) s.evaluateTable).entryZeroIsAlert :=
    foldl_keeps (I := State.entryZeroIsAlert) (fun t b ht => ht.congr (t.followBerth_entries b)) _ h.evaluateTable
  unfold State.evaluate
  dsimp only
  generalize s.evaluateTable.configuredBerths.foldl (fun s b => s.followBerth b) s.evaluateTable = t at hfollowed ⊢
  rw [entryZeroIsAlert_iff] at hfollowed ⊢
  rw [State.clearMarks]
  simp only [Table.get_map]
  exact hfollowed

theorem mapUpdate : s.mapUpdate.entryZeroIsAlert := by
  have hcompleted : s.smuMapUpdate.receiversReassign.lcuMapUpdate.bcuCompletions.entryZeroIsAlert := h.congr (by simp)
  exact hcompleted.evaluate

theorem takeEntry0Fade : s.takeEntry0Fade.entryZeroIsAlert := by
  obtain ⟨htag, hcls, htarget, hseq, -⟩ := id h
  unfold State.takeEntry0Fade
  dsimp only
  split
  · exact State.entryZeroIsAlert.setEntry_zero ⟨htag, hcls, htarget, hseq, .inl rfl⟩
  · exact h

theorem cycleTick (fs : FrameStart) : (s.cycleTick fs).entryZeroIsAlert := by
  unfold State.cycleTick
  dsimp only
  split <;> exact h.congr (by simp [State.sampleAlrt])

theorem takeEvent (e : Event) : (takeEvent e s).entryZeroIsAlert := by
  cases e with
  | framesSinceForeign =>
    simp only [Machine.takeEvent]
    unfold State.takeFramesSinceForeign
    split
    · split
      · exact h
      · exact (h.congr rfl : (s.bump .linkDrops).entryZeroIsAlert).enterListen
    · exact h
  | present =>
    simp only [Machine.takeEvent]
    unfold State.takePresent
    split
    · next rest _ =>
      have hrest : ({ s with cmu := { s.cmu with dispatch := rest } } : State).entryZeroIsAlert := h.congr rfl
      exact hrest.applyPresent _ _ _ _ _
    · exact h
  | withdraw =>
    simp only [Machine.takeEvent]
    unfold State.takeWithdraw State.applyWithdraw
    split
    · have hrest : ∀ c : Cmu, ({ s with cmu := c } : State).entryZeroIsAlert := fun _ => h.congr rfl
      split
      · next hentry =>
        split
        · exact (hrest _).freeNow (entryOf_eq_some.1 hentry).1
        · exact hrest _
      · exact hrest _
    · exact h
  | fading i => exact keeps_if h fun hc => h.freeNow hc.1
  | descriptionAge i => exact keeps_if h fun hc => h.freeNow hc.1
  | entry0Fade => exact h.takeEntry0Fade
  | zoneMode =>
    simp only [Machine.takeEvent]
    unfold State.takeZoneMode
    split <;> exact h.congr rfl
  | alertAccepted => exact keeps_if h fun _ => h.congr rfl
  | command k =>
    cases k with
    | resetBerth =>
      simp only [Machine.takeEvent]
      have hreset : ∀ (t : State) (b : Fin 4), (t.berthReset b).anu.entries = t.anu.entries := fun _ _ => rfl
      unfold State.takeResetBerth State.takeCommand State.withBerth
      split
      · exact h
      · refine keeps_if (I := State.entryZeroIsAlert) h fun _ => ?_
        dsimp only
        split
        · exact h.congr rfl
        · split
          · split
            · exact h.congr (hreset _ _)
            · exact h.congr rfl
          · exact h.congr rfl
    | _ => exact h.congr (by simp [Machine.takeEvent])
  | _ => exact h.congr (by simp [Machine.takeEvent])

end State.entryZeroIsAlert

theorem keptByParts_entryZeroIsAlert : KeptByParts State.entryZeroIsAlert where
  queue _ _ h := h
  event e _ h := h.takeEvent e
  clock s h := by
    unfold State.timePasses
    split <;> exact h
  reset _ _ := by
    rw [State.entryZeroIsAlert_iff]
    exact State.reset_entryZeroIsAlert
  loading _ h := h
  loaded image straps s h := by
    have hconfigured : (s.configure image straps).entryZeroIsAlert := h.congr (by simp)
    exact hconfigured.enterListen.congr (by simp only [State.loadingBegun])
  timer _ _ h := h.congr (by simp)
  guardRun _ h := h.congr (by simp)
  readBack _ _ h := h.congr (by simp)
  flywheel _ _ _ h := h
  standing _ h := h
  mark _ _ _ h := h.congr (by simp [State.markBegun])
  ignored _ h := h
  tagSlot k byte wait s h := by
    have hover : ((s.collect k byte (s.resultOf k)).slotOver k wait).entryZeroIsAlert := h.congr rfl
    unfold State.tagSlot
    dsimp only
    split
    · exact hover.mapUpdate
    · exact hover
  dataSlot _ _ _ _ _ h := h.congr (by simp)
  tick fs _ h := h.cycleTick fs
  portBits _ _ h := h.congr (by simp)
  afsPulse _ h := h.congr (by simp)
  strobe _ _ _ _ h := h.congr (by simp)
  feed _ _ _ h := h
  link _ _ h := h
  discard _ h := h
  completions _ h := h.congr (by simp)
  lcuEnd _ _ _ h := h.congr (by simp)
  alert _ _ h := h
  dataEnd _ _ _ h := h.congr (by simp)
  tables listen s h := by
    have hsmu : s.smuTick.entryZeroIsAlert := h.congr (by simp)
    unfold State.tablesTick
    dsimp only
    split
    · exact hsmu.evaluate
    · exact hsmu
  feedFrame _ _ _ h := h.congr (by simp)
  grant _ h := h.congr (by simp)

/-- Settles O59: a berth's stop becomes 0 only with its wake state IDLE, and no operation writes another description into entry 0. -/
theorem sessionsAndEntryZeroStayLawful : Obligations.SessionsAndEntryZeroStayLawful :=
  fun _ _ hstep => ⟨fun h => keptByParts_stopZeroIdle.step h hstep, fun h => keptByParts_entryZeroIsAlert.step h hstep⟩

end Sys2Proof.Machine
end

section
/-!
PROOFS. The volume and channel buttons of a berth's panel (O37, O38).
-/

namespace Sys2Proof.Machine

/-! ### Volume (R127, R128, R153) -/

/-- A berth after one volume step. -/
def State.volumeStepped (b : Fin 4) (d : Dir) (s : State) : Berth :=
  { s.bcu.get b with userLevel := volumeStep (s.berthCfg b).maxLevel d (s.bcu.get b).userLevel }

theorem State.stepVolume_bcu (b : Fin 4) (d : Dir) (s : State) :
    (s.stepVolume b d).bcu = s.bcu.set b (s.volumeStepped b d) := by
  unfold State.stepVolume
  dsimp only
  split
  · next h =>
    have hsame : s.volumeStepped b d = s.bcu.get b := by rw [State.volumeStepped, h]
    rw [hsame, Table.set_get_self]
  · simp [State.volumeStepped]

/-- The Mixer takes a level only when the step changed it. -/
theorem State.stepVolume_mix (b : Fin 4) (d : Dir) (s : State) :
    (s.stepVolume b d).mix = if (s.volumeStepped b d).userLevel = (s.bcu.get b).userLevel then s.mix
      else s.mix.set b ((s.mix.get b).userLevelChange s.cfg (s.volumeStepped b d).userLevel) := by
  unfold State.stepVolume
  dsimp only
  split
  · next h => rw [if_pos (by exact h)]
  · next h =>
    rw [if_neg (by exact h)]
    simp [State.mixUserLevel, State.userLevel, State.volumeStepped, State.cfg]

theorem LevelState.aim_cur (x : LevelState) (target : Level) (shape : Shape) (r : Nat) :
    (x.aim target shape r).cur = x.cur := by
  unfold LevelState.aim
  split <;> rfl

theorem MixBerth.userLevelChange_only (m : MixBerth) (c : Config) (user : Level) :
    m.userLevelChange c user = { m with programme := (m.userLevelChange c user).programme } := by
  unfold MixBerth.userLevelChange
  split <;> rfl

theorem MixBerth.userLevelChange_unducked {m : MixBerth} (h : m.duck = .unducked) (c : Config) (user : Level) :
    (m.userLevelChange c user).programme = m.programme.settle user := by rw [MixBerth.userLevelChange, h]

theorem MixBerth.userLevelChange_ducked {m : MixBerth} (h : m.duck = .ducked ∨ m.duck = .holding) (c : Config) (user : Level) :
    (m.userLevelChange c user).programme =
      m.programme.aim (if m.lastClass = .alert then .mute else user.lowered c.duckDepth) .linear c.duckRate := by
  have htarget : duckTarget c.duckDepth user m.lastClass =
      if m.lastClass = .alert then .mute else user.lowered c.duckDepth := by
    cases m.lastClass <;> simp [duckTarget]
  rcases h with h | h <;> simp only [MixBerth.userLevelChange, h, MixBerth.aimProgramme, htarget]

/-- A volume step of a berth whose panel inputs and timers have been dealt with (`x`) hands the new level over. -/
theorem levelHandedOver_stepVolume (b : Fin 4) (d : Dir) {x : Berth} (s : State)
    (hlevel : x.userLevel = (s.bcu.get b).userLevel) : LevelHandedOver s ((s.setBerth b x).stepVolume b d) b := by
  have hnew : (((s.setBerth b x).stepVolume b d).bcu.get b).userLevel = ((s.setBerth b x).volumeStepped b d).userLevel := by
    rw [State.stepVolume_bcu, Table.get_set_self]
  unfold LevelHandedOver
  dsimp only
  rw [hnew, State.stepVolume_mix, State.setBerth_bcu, Table.get_set_self, hlevel, State.setBerth_mix]
  refine ⟨fun c hc => ⟨?_, ?_⟩, fun hsame => if_pos hsame, fun hdiffers => ?_⟩
  · rw [State.stepVolume_bcu, Table.get_set_of_ne _ _ (Ne.symm hc), State.setBerth_bcu, Table.get_set_of_ne _ _ (Ne.symm hc)]
  · split
    · rfl
    · exact Table.get_set_of_ne _ _ (Ne.symm hc)
  · rw [if_neg hdiffers, Table.get_set_self]
    refine ⟨MixBerth.userLevelChange_only _ _ _, fun hduck => ?_, fun hduck => ?_⟩
    · rw [MixBerth.userLevelChange_unducked hduck]
      exact ⟨rfl, rfl, rfl⟩
    · rw [MixBerth.userLevelChange_ducked hduck]
      exact ⟨LevelState.aim_cur _ _ _ _, LevelState.aim_target _ _ _ _, rfl⟩

/-- What a volume step leaves of a berth that has been written: the new level. -/
theorem State.stepVolume_setBerth_get (b : Fin 4) (d : Dir) (x : Berth) (s : State) :
    ((s.setBerth b x).stepVolume b d).bcu.get b =
      { x with userLevel := volumeStep (s.berthCfg b).maxLevel d x.userLevel } := by
  rw [State.stepVolume_bcu, Table.get_set_self, State.volumeStepped, State.setBerth_bcu, Table.get_set_self]
  rfl

theorem State.stepVolume_setBerth_only (b : Fin 4) (d : Dir) (x : Berth) (s : State) :
    (s.setBerth b x).stepVolume b d =
      { s with bcu := ((s.setBerth b x).stepVolume b d).bcu, mix := ((s.setBerth b x).stepVolume b d).mix } := by
  ext1 <;> simp

@[simp] theorem Berth.withRepeat_userLevel (x : Berth) (d : Dir) (t : Timer) : (x.withRepeat d t).userLevel = x.userLevel := by
  cases d <;> rfl

@[simp] theorem Berth.withRepeat_inputs (x : Berth) (d : Dir) (t : Timer) : (x.withRepeat d t).inputs = x.inputs := by
  cases d <;> rfl

@[simp] theorem Berth.withRepeat_repeatTimer (x : Berth) (d : Dir) (t : Timer) : (x.withRepeat d t).repeatTimer d = t := by
  cases d <;> rfl

theorem volInput_eq (d : Dir) : (if d = .up then PanelInput.volUp else .volDown) = volInput d := by cases d <;> rfl

theorem Berth.repeatTimer_eq (x : Berth) (d : Dir) : (if d = .up then x.repUp else x.repDown) = x.repeatTimer d := by
  cases d <;> rfl

/-- The acceptance of a due change, read back. -/
theorem Berth.acceptInput_input {x : Berth} {i : PanelInput} {level : Bool} (h : (x.input i).active = !level) :
    (x.acceptInput i).input i = ⟨level, 0⟩ := by
  simp [Berth.acceptInput_eq h, Berth.input]

/-- The repeat timer's event while the button is held. -/
theorem State.takeRepeatTimer_held {b : Fin 4} {d : Dir} {s : State} (hdue : (s.bcu.get b).repeatDue d = true)
    (hheld : ((s.bcu.get b).input (volInput d)).active = true) :
    s.takeRepeatTimer b d = (s.setBerth b ((s.bcu.get b).withRepeat d (some 250))).stepVolume b d := by
  simp [State.takeRepeatTimer, hdue, hheld]

theorem State.takeVolRelease_eq {b : Fin 4} {d : Dir} {s : State} (hdue : s.inputDue b (volInput d) false = true) :
    s.takeVolRelease b d = s.setBerth b ({ s.bcu.get b with
      inputs := (s.bcu.get b).inputs.set (volInput d).idx ⟨false, 0⟩ }.withRepeat d none) := by
  rw [State.takeVolRelease, if_pos hdue, Berth.acceptInput_eq (State.inputDue_iff.1 hdue).2]

/-- Settles O37. The press and both repeats are one volume step of a berth that has been prepared. -/
theorem volumeStepsAndRepeats : Obligations.VolumeStepsAndRepeats := by
  intro b s
  refine ⟨fun d hdue => ?press, fun htaken hup hheld => ?up, fun htaken hup hdown hheld => ?down, fun hdue => ?relUp,
    fun hdue => ?relDown⟩
  case press =>
    rw [volInput_eq] at hdue
    have haccept := Berth.acceptInput_eq (State.inputDue_iff.1 hdue).2
    have hexec : exec (.volPress b d) s = .next
        ((s.setBerth b (((s.bcu.get b).acceptInput (volInput d)).withRepeat d (some 600))).stepVolume b d) := by
      rw [exec_of_event (e := .volPress b d) rfl, takeEvent, State.takeVolPress, if_pos hdue]
    refine ⟨_, hexec, State.stepVolume_setBerth_only _ _ _ _,
      levelHandedOver_stepVolume b d s (by rw [haccept, Berth.withRepeat_userLevel]), ?_⟩
    rw [State.stepVolume_setBerth_get, volInput_eq, Berth.repeatTimer_eq]
    have hlevel : (((s.bcu.get b).acceptInput (volInput d)).withRepeat d (some 600)).userLevel = (s.bcu.get b).userLevel := by
      rw [haccept, Berth.withRepeat_userLevel]
    simp only [hlevel]
    refine ⟨?_, ?_, ?_, ?_, ?_, ?_, ?_⟩
    · rintro rfl h
      simp [h, volumeStep]
    · rintro n rfl h hn
      simp [h, volumeStep, hn]
    · rintro n rfl h hn
      simp [h, volumeStep, Nat.not_lt.2 hn]
    · rintro rfl (h | h) <;> simp [h, volumeStep]
    · rintro n rfl h
      simp [h, volumeStep]
    · cases d <;> rfl
    · rw [← Berth.acceptInput_input (State.inputDue_iff.1 hdue).2]
      cases d <;> rfl
  case up =>
    have hdue : (s.bcu.get b).repeatDue .up = true := by simp [Berth.repeatDue, htaken, Berth.repeatTimer, hup, expired]
    refine ⟨_, by rw [exec_of_event (e := .repeatTimer b .up) rfl, takeEvent, State.takeRepeatTimer_held hdue hheld],
      State.stepVolume_setBerth_only _ _ _ _, ?_, ?_, ?_, levelHandedOver_stepVolume b .up s (Berth.withRepeat_userLevel _ _ _)⟩
    all_goals rw [State.stepVolume_setBerth_get]; rfl
  case down =>
    have hdue : (s.bcu.get b).repeatDue .down = true := by
      simp [Berth.repeatDue, htaken, Berth.repeatTimer, hup, hdown, expired]
    refine ⟨_, by rw [exec_of_event (e := .repeatTimer b .down) rfl, takeEvent, State.takeRepeatTimer_held hdue hheld],
      State.stepVolume_setBerth_only _ _ _ _, ?_, ?_, ?_,
      levelHandedOver_stepVolume b .down s (Berth.withRepeat_userLevel _ _ _)⟩
    all_goals rw [State.stepVolume_setBerth_get]; rfl
  case relUp =>
    rw [exec_of_event (e := .volRelease b .up) rfl, takeEvent, State.takeVolRelease_eq (d := .up) hdue]
    rfl
  case relDown =>
    rw [exec_of_event (e := .volRelease b .down) rfl, takeEvent, State.takeVolRelease_eq (d := .down) hdue]
    rfl

/-! ### Channel stepping (R129, R130) -/

theorem chInput_eq (d : Dir) : (if d = .up then PanelInput.chUp else .chDown) = chInput d := by cases d <;> rfl

theorem Berth.land_only (x : Berth) (ch : Choice) :
    x.land ch = { x with pendingChoice := (x.land ch).pendingChoice, pendingTimer := (x.land ch).pendingTimer } := by
  unfold Berth.land
  split <;> rfl

/-- Settles O38: the accepted press, then where the landed choice goes. -/
theorem channelPressSelects : Obligations.ChannelPressSelects := by
  intro b d s hdue
  rw [chInput_eq] at hdue ⊢
  have haccept := Berth.acceptInput_eq (State.inputDue_iff.1 hdue).2
  have hexec : exec (.channelPress b d) s = .next (s.setBerth b (((s.bcu.get b).acceptInput (chInput d)).land
      (stepChoice s.cfg.programme.length d ((s.bcu.get b).pendingChoice.getD (s.bcu.get b).choice)))) := by
    rw [exec_of_event (e := .channelPress b d) rfl, takeEvent, State.takeChannelPress, if_pos hdue, haccept]
  refine ⟨_, hexec, rfl, fun c hc => Table.get_set_of_ne _ _ (Ne.symm hc), ?_, ?_,
    stepChoice s.cfg.programme.length d ((s.bcu.get b).pendingChoice.getD (s.bcu.get b).choice), ?_⟩
  · rw [State.setBerth_bcu, Table.get_set_self, Berth.land_only, haccept]
  · rw [State.setBerth_bcu, Table.get_set_self, Berth.land_only, haccept]
    simp [Berth.input]
  · generalize (s.bcu.get b).pendingChoice.getD (s.bcu.get b).choice = start
    rw [State.setBerth_bcu, Table.get_set_self]
    refine ⟨?_, ?_, ?_, ?_, ?_, ?_, ?_, fun hsame => ?_, fun hdiffers => ?_⟩
    · rintro hn rfl
      cases d <;> simp [stepChoice, hn]
    · rintro rfl rfl hn
      simp [stepChoice, hn.ne']
    · rintro i rfl rfl
      rfl
    · rintro rfl rfl hn
      simp [stepChoice, hn.ne']
    · rintro rfl rfl
      rfl
    · rintro i rfl rfl
      rfl
    · rw [Berth.land_only, haccept]
    · rw [Berth.land, if_pos (by rw [hsame, haccept])]
      exact ⟨rfl, rfl⟩
    · rw [Berth.land, if_neg (by rw [haccept]; exact hdiffers)]
      exact ⟨rfl, rfl⟩

end Sys2Proof.Machine
end

section
/-!
PROOFS. Cards in a screen queue, the overlay record and its reports; the CARD message and the screen timers (O49).
-/

namespace Sys2Proof.Machine

/-! ### A card record's place in the queue (R186) -/

theorem isCardRecord_iff (r : List Byte) : isCardRecord r = decide (r.head? = some 0x10 ∨ r.head? = some 0x11) := by
  cases r with
  | nil => rfl
  | cons x r => exact decide_eq_decide.2 (by simp [typeCard, typeClear])

theorem isCardRecord_cardRecord (layer : Byte) (n : Nat) (text : List Byte) : isCardRecord (cardRecord layer n text) = true := rfl

theorem isCardRecord_clearRecord (layer : Byte) : isCardRecord (clearRecord layer) = true := rfl

theorem isCardRecord_baseRecord (c : BaseCard) : isCardRecord (baseRecord c) = true := by
  cases c
  · exact isCardRecord_clearRecord _
  · exact isCardRecord_cardRecord _ _ _
  · exact isCardRecord_cardRecord _ _ _

theorem hasLayer_cons (r x : List Byte) (q : List (List Byte)) : hasLayer r (x :: q) = true ↔
    (isCardRecord x = true ∧ recordLayer x = recordLayer r) ∨ hasLayer r q = true := by simp [hasLayer]

theorem mem_replaceLayer {r : List Byte} {q : List (List Byte)} (h : hasLayer r q = true) : r ∈ replaceLayer r q := by
  induction q with
  | nil => exact absurd h (by simp [hasLayer])
  | cons x q ih =>
    rw [replaceLayer]
    split
    · exact List.mem_cons_self
    · next hx => exact List.mem_cons_of_mem _ (ih (((hasLayer_cons r x q).1 h).resolve_left hx))

/-- The record placed is in the queue. -/
theorem mem_insertCard (r : List Byte) (q : List (List Byte)) : r ∈ insertCard r q := by
  unfold insertCard
  split
  · next h => exact mem_replaceLayer h
  · simp

theorem replaceLayer_filter {r : List Byte} (hr : isCardRecord r = true) (q : List (List Byte)) :
    (replaceLayer r q).filter (fun x => !isCardRecord x) = q.filter (fun x => !isCardRecord x) := by
  induction q with
  | nil => rfl
  | cons x q ih =>
    rw [replaceLayer]
    split
    · next hx => simp [hr, hx.1]
    · simp [List.filter_cons, ih]

/-- Placing a card changes no programme record. -/
theorem insertCard_filter {r : List Byte} (hr : isCardRecord r = true) (q : List (List Byte)) :
    (insertCard r q).filter (fun x => !isCardRecord x) = q.filter (fun x => !isCardRecord x) := by
  unfold insertCard
  split
  · exact replaceLayer_filter hr q
  · have htail : (r :: q.dropWhile isCardRecord).filter (fun x => !isCardRecord x) =
        (q.dropWhile isCardRecord).filter fun x => !isCardRecord x := by simp [hr]
    rw [List.filter_append, htail, ← List.filter_append, List.takeWhile_append_dropWhile]

theorem shed_zero (q : List (List Byte)) : shed 0 q = (q, 0) := by cases q <;> rfl

theorem shed_card {x : List Byte} (hx : isCardRecord x = true) (n : Nat) (q : List (List Byte)) :
    shed n (x :: q) = (x :: (shed n q).1, (shed n q).2) := by
  cases n with
  | zero => simp [shed_zero]
  | succ n => rw [shed, if_pos hx]; exact Nat.succ_ne_zero n

theorem shed_programme {x : List Byte} (hx : isCardRecord x = false) (n : Nat) (q : List (List Byte)) :
    shed (n + 1) (x :: q) = ((shed (n + 1 - x.length) q).1, (shed (n + 1 - x.length) q).2 + 1) := by
  rw [shed, if_neg (by simp [hx])]
  exact Nat.succ_ne_zero n

/-- Making room removes no card. -/
theorem mem_shed {x : List Byte} (hx : isCardRecord x = true) (n : Nat) {q : List (List Byte)} (h : x ∈ q) : x ∈ (shed n q).1 := by
  induction q generalizing n with
  | nil => exact h
  | cons y q ih =>
    cases hy : isCardRecord y with
    | true =>
      rw [shed_card hy]
      rcases List.mem_cons.1 h with rfl | h
      · exact List.mem_cons_self
      · exact List.mem_cons_of_mem _ (ih n h)
    | false =>
      have hq : x ∈ q := (List.mem_cons.1 h).resolve_left fun heq => by rw [heq, hy] at hx; exact Bool.noConfusion hx
      cases n with
      | zero => rw [shed_zero]; exact h
      | succ n => rw [shed_programme hy]; exact ih _ hq

theorem shed_of_cards (n : Nat) {q : List (List Byte)} (h : ∀ x ∈ q, isCardRecord x = true) : shed n q = (q, 0) := by
  induction q generalizing n with
  | nil => cases n <;> rfl
  | cons y q ih => rw [shed_card (h y List.mem_cons_self), ih n fun x hx => h x (List.mem_cons_of_mem _ hx)]

/-! ### Placing a card in a feed (R186) -/

section placeCard
variable (f : Feed) {r : List Byte}

theorem Feed.inTransit_append_notStarted : f.inTransit ++ f.notStarted = f.queue := by
  unfold Feed.inTransit Feed.notStarted
  split
  · exact List.take_append_drop 1 f.queue
  · rfl

theorem Feed.placeCard_only (r : List Byte) : (f.placeCard r).1 = { f with
    state := (f.placeCard r).1.state, waitKey := (f.placeCard r).1.waitKey, queue := (f.placeCard r).1.queue } := by
  simp only [Feed.placeCard, Feed.lost]
  repeat' split
  all_goals rfl

/-- Only a feed that follows its programme can lose it. -/
theorem Feed.placeCard_quiet (h : f.state ≠ .following) (r : List Byte) :
    (f.placeCard r).1 = { f with queue := (f.placeCard r).1.queue } := by
  have hlost : ∀ q, Feed.lost { f with queue := q } = { f with queue := q } := fun q => if_neg h
  simp only [Feed.placeCard, hlost, ite_self]

theorem Feed.placeCard_queue (r : List Byte) : (f.placeCard r).1.queue = f.inTransit ++
    (shed (queueBytes (f.inTransit ++ insertCard r f.notStarted) - queueLimit) (insertCard r f.notStarted).reverse).1.reverse := by
  simp only [Feed.placeCard, Feed.lost]
  repeat' split
  all_goals rfl

theorem Feed.mem_placeCard (hr : isCardRecord r = true) : r ∈ (f.placeCard r).1.queue := by
  rw [Feed.placeCard_queue]
  exact List.mem_append_right _ (List.mem_reverse.2 (mem_shed hr _ (List.mem_reverse.2 (mem_insertCard _ _))))

/-- A card that fits sheds nothing. -/
theorem Feed.placeCard_fits (h : queueBytes (f.inTransit ++ insertCard r f.notStarted) ≤ queueLimit) :
    f.placeCard r = ({ f with queue := f.inTransit ++ insertCard r f.notStarted }, 0) := by
  simp [Feed.placeCard, Nat.sub_eq_zero_of_le h, shed_zero]

/-- Nothing is shed where no programme record waits. -/
theorem Feed.placeCard_of_cards (hr : isCardRecord r = true) (h : ∀ x ∈ f.notStarted, isCardRecord x = true) :
    f.placeCard r = ({ f with queue := f.inTransit ++ insertCard r f.notStarted }, 0) := by
  have hwaiting : f.notStarted.filter (fun x => !isCardRecord x) = [] := List.filter_eq_nil_iff.2 fun x hx => by simp [h x hx]
  have hcards : ∀ x ∈ insertCard r f.notStarted, isCardRecord x = true := fun x hx => by
    have := List.filter_eq_nil_iff.1 ((insertCard_filter hr f.notStarted).trans hwaiting) x hx
    simpa using this
  simp [Feed.placeCard, shed_of_cards _ fun x hx => hcards x (List.mem_reverse.1 hx)]

@[simp] theorem Feed.placeCard_base (r : List Byte) : (f.placeCard r).1.base = f.base := by rw [f.placeCard_only r]

@[simp] theorem Feed.placeCard_overlay (r : List Byte) : (f.placeCard r).1.overlay = f.overlay := by rw [f.placeCard_only r]

end placeCard

section feeds
variable (b : Fin 4) (s : State)

@[simp] theorem State.setFeed_feed_self (f : Feed) : (s.setFeed b f).feed b = f := by simp [State.feed]

theorem State.setFeed_feed_other {c : Fin 4} (h : c ≠ b) (f : Feed) : (s.setFeed b f).feed c = s.feed c := by
  simp [State.feed, Ne.symm h]

theorem State.placeCard_feed (r : List Byte) : (s.placeCard b r).feed b = ((s.feed b).placeCard r).1 := by
  simp [State.placeCard, State.feed]

theorem State.placeCard_feed_other {c : Fin 4} (h : c ≠ b) (r : List Byte) : (s.placeCard b r).feed c = s.feed c := by
  simp [State.placeCard, State.feed, Ne.symm h]

theorem State.placeCard_only (r : List Byte) :
    s.placeCard b r = { s with sfu := (s.placeCard b r).sfu, counters := (s.placeCard b r).counters } := by
  ext1 <;> simp

theorem State.placeCard_inbox (r : List Byte) : (s.placeCard b r).sfu.inbox = s.sfu.inbox := by simp [State.placeCard]

/-! ### The base layer (R185) -/

theorem State.showBase_same {c : BaseCard} (h : (s.feed b).base = c) : s.showBase b c = s := if_pos h

theorem State.showBase_differs {c : BaseCard} (h : (s.feed b).base ≠ c) :
    s.showBase b c = (s.setFeed b { s.feed b with base := c }).placeCard b (baseRecord c) := if_neg h

theorem State.showBase_feed_differs {c : BaseCard} (h : (s.feed b).base ≠ c) :
    (s.showBase b c).feed b = ({ s.feed b with base := c }.placeCard (baseRecord c)).1 := by
  rw [State.showBase_differs b s h, State.placeCard_feed, State.setFeed_feed_self]

theorem State.showBase_base (c : BaseCard) : ((s.showBase b c).feed b).base = c := by
  by_cases h : (s.feed b).base = c
  · rw [State.showBase_same b s h, h]
  · rw [State.showBase_feed_differs b s h, Feed.placeCard_base]

theorem State.showBase_overlay (c : BaseCard) : ((s.showBase b c).feed b).overlay = (s.feed b).overlay := by
  by_cases h : (s.feed b).base = c
  · rw [State.showBase_same b s h]
  · rw [State.showBase_feed_differs b s h, Feed.placeCard_overlay]

theorem State.showBase_mem {c : BaseCard} (h : (s.feed b).base ≠ c) : baseRecord c ∈ ((s.showBase b c).feed b).queue := by
  rw [State.showBase_feed_differs b s h]
  exact Feed.mem_placeCard _ (isCardRecord_baseRecord c)

theorem State.showBase_feed_other {c : Fin 4} (h : c ≠ b) (card : BaseCard) : (s.showBase b card).feed c = s.feed c := by
  by_cases hsame : (s.feed b).base = card
  · rw [State.showBase_same b s hsame]
  · rw [State.showBase_differs b s hsame, State.placeCard_feed_other b _ h, State.setFeed_feed_other b s h]

/-- A feed that does not follow keeps its state at a base card. -/
theorem State.showBase_quiet (h : (s.feed b).state ≠ .following) (c : BaseCard) :
    (s.showBase b c).feed b = { s.feed b with base := c, queue := ((s.showBase b c).feed b).queue } := by
  by_cases hsame : (s.feed b).base = c
  · rw [State.showBase_same b s hsame, ← hsame]
  · rw [State.showBase_feed_differs b s hsame]
    exact Feed.placeCard_quiet { s.feed b with base := c } h _

theorem State.showBase_inbox (c : BaseCard) : (s.showBase b c).sfu.inbox = s.sfu.inbox := by
  by_cases h : (s.feed b).base = c
  · rw [State.showBase_same b s h]
  · rw [State.showBase_differs b s h, State.placeCard_inbox]
    rfl

/-! ### The overlay record and its reports (R138, R191) -/

@[simp] theorem State.deriveLamp_feed (c : Fin 4) : (s.deriveLamp b).feed c = s.feed c := rfl

theorem State.setOverlay_feed (o : Option Overlay) : (s.setOverlay b o).feed b = { s.feed b with overlay := o } := by
  unfold State.setOverlay
  dsimp only
  split <;> simp

theorem State.setOverlay_other {c : Fin 4} (h : c ≠ b) (o : Option Overlay) :
    (s.setOverlay b o).feed c = s.feed c ∧ (s.setOverlay b o).bcu.get c = s.bcu.get c := by
  unfold State.setOverlay
  dsimp only
  split
  · exact ⟨State.setFeed_feed_other b s h _, rfl⟩
  · exact ⟨State.setFeed_feed_other b s h _, by simp [State.deriveLamp_bcu, Ne.symm h]⟩

theorem State.setOverlay_onlyLamp (o : Option Overlay) : OnlyLampChanged s (s.setOverlay b o) b := by
  unfold OnlyLampChanged State.setOverlay
  dsimp only
  split
  · rfl
  · simp only [State.deriveLamp_bcu, Table.get_set_self]
    exact Berth.withLamp_only _ _

theorem State.setOverlay_lampFollows (o : Option Overlay) : LampFollows s (s.setOverlay b o) b := by
  unfold State.setOverlay
  dsimp only
  split
  · next h =>
    refine lampFollows_of_view (lampFollows_self s b) rfl ?_
    simp only [State.lampView, State.setFeed_feed_self, ← h]
    rfl
  · next h =>
    refine lampFollows_deriveLamp rfl (.inr ?_)
    simpa using h

/-- A record that stays present, or absent, is not reported. -/
theorem State.setOverlay_unreported {o : Option Overlay} (h : (s.feed b).overlay.isSome = o.isSome) :
    s.setOverlay b o = s.setFeed b { s.feed b with overlay := o } := if_pos h

theorem State.placeCard_lampView (r : List Byte) : (s.placeCard b r).lampView b = s.lampView b := by
  simp [State.lampView, State.placeCard_feed]

/-- A card record placed with the record it ends or begins: what stays, and what the lamp does. -/
theorem State.placeCard_setOverlay (r : List Byte) (o : Option Overlay) :
    LampFollows s ((s.placeCard b r).setOverlay b o) b ∧ OnlyLampChanged s ((s.placeCard b r).setOverlay b o) b ∧
      ∀ c, c ≠ b → ((s.placeCard b r).setOverlay b o).feed c = s.feed c ∧
        ((s.placeCard b r).setOverlay b o).bcu.get c = s.bcu.get c := by
  refine ⟨lampFollows_of_view ((s.placeCard b r).setOverlay_lampFollows b o) (s.placeCard_lampView b r).symm rfl, ?_,
    fun c hc => ⟨?_, ?_⟩⟩
  · simpa [OnlyLampChanged] using (s.placeCard b r).setOverlay_onlyLamp b o
  · exact ((s.placeCard b r).setOverlay_other b hc o).1.trans (s.placeCard_feed_other b hc r)
  · simpa using ((s.placeCard b r).setOverlay_other b hc o).2

theorem State.showOverlay_feed (o : Overlay) : ((s.showOverlay b o).feed b).overlay = some o ∧
    cardRecord layerOverlay o.card o.text ∈ ((s.showOverlay b o).feed b).queue := by
  rw [State.showOverlay, State.setOverlay_feed, State.placeCard_feed]
  exact ⟨rfl, Feed.mem_placeCard _ (isCardRecord_cardRecord _ _ _)⟩

end feeds

/-! ### A fold that serves berths one by one -/

/-- A fold over indices whose step for one index leaves the others' view: an index outside the list keeps its view, and one in it is
served from a state where its view is still the first one. -/
theorem foldl_at {σ α β : Type} {f : σ → α → σ} {V : σ → α → β} (hother : ∀ s a b, b ≠ a → V (f s a) b = V s b) {l : List α}
    (hl : l.Nodup) (s : σ) (b : α) :
    (b ∉ l → V (l.foldl f s) b = V s b) ∧ (b ∈ l → ∃ u, V u b = V s b ∧ V (l.foldl f s) b = V (f u b) b) := by
  induction l generalizing s with
  | nil => exact ⟨fun _ => rfl, nofun⟩
  | cons a l ih =>
    obtain ⟨ha, hl⟩ := List.nodup_cons.1 hl
    obtain ⟨hout, hin⟩ := ih hl (f s a)
    refine ⟨fun hb => ?_, fun hb => ?_⟩
    · rw [List.mem_cons, not_or] at hb
      exact (hout hb.2).trans (hother s a b hb.1)
    · rcases List.mem_cons.1 hb with rfl | hb
      · exact ⟨s, rfl, hout ha⟩
      · obtain ⟨u, hu, hend⟩ := hin hb
        exact ⟨u, hu.trans (hother s a b fun h => ha (h ▸ hb)), hend⟩

theorem indices_nodup (n : Nat) : (indices n).Nodup := by
  rw [indices]
  exact List.nodup_finRange n

/-! ### The CARD message and the screen timers (R76, R182, R189, R191) -/

theorem State.cardAdmits_eq (s : State) (target : Target) (b : Fin 4) : s.cardAdmits target b = s.targetIncludes target b := by
  cases target <;> rfl

/-- What a CARD can change of one berth, and what its lamp depends on. -/
def State.cardView (s : State) (b : Fin 4) : Feed × Berth × WakeState := (s.feed b, s.bcu.get b, (s.wku.get b).state)

theorem State.cardView_eq_iff {s t : State} {b : Fin 4} : t.cardView b = s.cardView b ↔
    t.feed b = s.feed b ∧ t.bcu.get b = s.bcu.get b ∧ (t.wku.get b).state = (s.wku.get b).state := by simp [State.cardView]

theorem State.lampView_of_cardView {s t : State} {b : Fin 4} (h : t.cardView b = s.cardView b) : t.lampView b = s.lampView b := by
  obtain ⟨hfeed, hbcu, hwku⟩ := State.cardView_eq_iff.1 h
  simp only [State.lampView, hfeed, hbcu, hwku]

theorem State.showMessage_other (d : Nat) (text : List Byte) (s : State) (a b : Fin 4) (h : b ≠ a) :
    (s.showMessage d text a).cardView b = s.cardView b := by
  unfold State.showMessage
  split
  · rfl
  · obtain ⟨_, _, hother⟩ := s.placeCard_setOverlay a (cardRecord layerOverlay 0 text)
      (some ⟨.message, none, 0, text, .live, d, 1000, 0⟩)
    obtain ⟨hfeed, hbcu⟩ := hother b h
    simp only [State.cardView, State.showOverlay, hfeed, hbcu, State.setOverlay_frame, State.placeCard_frame]

theorem Overlay.outranksMessage_iff (f : Feed) : f.overlay.any Overlay.outranksMessage = true ↔
    ∃ o, f.overlay = some o ∧ o.phase = .live ∧ o.source ≠ .message := by
  simp [Option.any_eq_true, Overlay.outranksMessage]

theorem State.showMessage_above {d : Nat} {text : List Byte} {b : Fin 4} {s : State}
    (h : ∃ o, (s.feed b).overlay = some o ∧ o.phase = .live ∧ o.source ≠ .message) : s.showMessage d text b = s :=
  if_pos ((Overlay.outranksMessage_iff _).2 h)

theorem State.showMessage_shows {d : Nat} {text : List Byte} {b : Fin 4} {s : State}
    (h : ¬∃ o, (s.feed b).overlay = some o ∧ o.phase = .live ∧ o.source ≠ .message) :
    s.showMessage d text b = s.showOverlay b ⟨.message, none, 0, text, .live, d, 1000, 0⟩ :=
  if_neg fun hany => h ((Overlay.outranksMessage_iff _).1 hany)

@[simp] theorem State.takeCard_cmu {target : Target} {d : Nat} {text : List Byte} {rest : List Message} {s : State}
    (h : s.cmu.dispatch = .card target d text :: rest) : s.takeCard.cmu = { s.cmu with dispatch := rest } := by
  rw [State.takeCard, h]
  exact foldl_keeps (I := fun t : State => t.cmu = { s.cmu with dispatch := rest }) (fun t b ht => by
    unfold State.showMessage
    split
    · exact ht
    · simpa using ht) _ rfl

/-- Settles O49. -/
theorem cardsShowAndExpire : Obligations.CardsShowAndExpire := by
  refine ⟨fun target d text rest s hhead => ⟨s.takeCard, exec_of_event (e := .card) rfl s, State.takeCard_cmu hhead,
    by ext1 <;> simp, fun b => ?card⟩, fun b s => ⟨fun htimer hstate => ?wait, fun o ho hsource hphase hover => ?duration,
    fun o ho hphase hover => ?linger⟩⟩
  case card =>
    have htake : s.takeCard = ((indices 4).filter (s.cardAdmits target)).foldl (fun s b => s.showMessage d text b)
        { s with cmu := { s.cmu with dispatch := rest } } := by
      rw [State.takeCard, hhead]
      rfl
    obtain ⟨hout, hin⟩ := foldl_at (V := State.cardView) (State.showMessage_other d text)
      ((indices_nodup 4).filter (s.cardAdmits target)) { s with cmu := { s.cmu with dispatch := rest } } b
    rw [← htake] at hout hin
    have hmem : b ∈ (indices 4).filter (s.cardAdmits target) ↔ s.targetIncludes target b = true := by
      simp [indices, State.cardAdmits_eq]
    rw [hmem] at hout hin
    have hdispatched : { s with cmu := { s.cmu with dispatch := rest } }.cardView b = s.cardView b := rfl
    rw [hdispatched] at hout hin
    refine ⟨fun hincludes hnone => ?_, fun h => ?_⟩
    · obtain ⟨u, hu, hend⟩ := hin hincludes
      obtain ⟨hufeed, hubcu, huwku⟩ := State.cardView_eq_iff.1 hu
      rw [State.showMessage_shows (by rw [hufeed]; exact hnone)] at hend
      obtain ⟨hfeed, hbcu, hwku⟩ := State.cardView_eq_iff.1 hend
      obtain ⟨hlamp, honly, _⟩ := u.placeCard_setOverlay b (cardRecord layerOverlay 0 text)
        (some ⟨.message, none, 0, text, .live, d, 1000, 0⟩)
      obtain ⟨hover, hqueue⟩ := u.showOverlay_feed b ⟨.message, none, 0, text, .live, d, 1000, 0⟩
      refine ⟨by rw [hfeed, hover], by rw [hfeed]; exact hqueue,
        lampFollows_of_view hlamp (State.lampView_of_cardView hu.symm) (State.lampView_of_cardView hend), ?_⟩
      unfold OnlyLampChanged at honly ⊢
      rw [hbcu, ← hubcu]
      exact honly
    · refine (fun hview => (State.cardView_eq_iff.1 hview).imp id And.left) ?_
      cases hincludes : s.targetIncludes target b with
      | false => exact hout (by simp [hincludes])
      | true =>
        obtain ⟨u, hu, hend⟩ := hin hincludes
        have habove := h.resolve_left (by simp [hincludes])
        rw [State.showMessage_above (by rw [(State.cardView_eq_iff.1 hu).1]; exact habove)] at hend
        exact hend.trans hu
  case wait =>
    have htake : s.takeWaitKeyTimer b = (s.setFeed b { s.feed b with waitKey := none }).showBase b .unavailable := by
      simp [State.takeWaitKeyTimer, htimer, hstate, expired]
    have hnot : ((s.setFeed b { s.feed b with waitKey := none }).feed b).state ≠ .following := by simp [hstate]
    have hquiet := State.showBase_quiet b _ hnot .unavailable
    have hbase : ((s.setFeed b { s.feed b with waitKey := none }).feed b).base = (s.feed b).base := by simp
    refine ⟨s.takeWaitKeyTimer b, exec_of_event (e := .waitKeyTimer b) rfl s, by ext1 <;> simp, ?_⟩
    rw [htake]
    refine ⟨by rw [hquiet, State.setFeed_feed_self], by rw [hquiet, State.setFeed_feed_self]; exact hstate,
      State.showBase_base b _ _, ?_, fun h => ?_, fun h => ?_, fun c hc => ?_⟩
    · rw [State.showBase_overlay, State.setFeed_feed_self]
    · exact State.showBase_mem b _ (by rw [hbase]; exact h)
    · rw [State.showBase_same b _ (hbase.trans h), State.setFeed_feed_self]
    · rw [State.showBase_feed_other b _ hc, State.setFeed_feed_other b s hc]
  case duration =>
    rw [exec_of_event (e := .cardDuration b) rfl, takeEvent, State.takeCardDuration, ho]
    have hdue : o.durationOver = true := by simp [Overlay.durationOver, hsource, hphase, hover]
    simp only [hdue, if_true]
    rw [State.setOverlay_unreported b s (by rw [ho]; rfl)]
    rfl
  case linger =>
    have htake : s.takeLinger b = (s.placeCard b (clearRecord layerOverlay)).setOverlay b none := by
      simp [State.takeLinger, ho, Overlay.lingerOver, hphase, hover]
    obtain ⟨hlamp, honly, hother⟩ := s.placeCard_setOverlay b (clearRecord layerOverlay) none
    refine ⟨s.takeLinger b, exec_of_event (e := .linger b) rfl s, by ext1 <;> simp, ?_⟩
    rw [htake]
    refine ⟨?_, ?_, ?_, hlamp, honly, hother⟩
    all_goals rw [State.setOverlay_feed, State.placeCard_feed]
    · exact Feed.mem_placeCard _ (isCardRecord_clearRecord _)
    · exact Feed.placeCard_base _ _

end Sys2Proof.Machine
end

section
/-!
PROOFS. What the publication of a follow record does in the Wake Unit, the Mixer and the Screen Feed Unit; the entries that are
freed; routing, admission and follow selection (O29, O31, O32).
-/

namespace Sys2Proof.Machine

/-! ### Two reports in a row -/

/-- R138 for the lamp, its phase and its timer: from `x` to `y`, where a change was reported or not. -/
def LampStep (reported flashes : Prop) (shown : Bool) (x y : Lamp × Bool × Timer) : Prop :=
  (reported → ¬flashes → shown = true → y = (.on, true, none)) ∧
  (reported → ¬flashes → shown = false → y = (.off, false, none)) ∧
  (reported → flashes → x.1 ≠ .flash → y = (.flash, true, some 250)) ∧
  ((reported → flashes ∧ x.1 = .flash) → y = x)

theorem lampFollows_iff_step (s t : State) (b : Fin 4) : LampFollows s t b ↔
    LampStep ((s.wku.get b).state ≠ (t.wku.get b).state ∨ (s.feed b).overlay.isSome ≠ (t.feed b).overlay.isSome)
      ((t.wku.get b).state = .calling ∨ (t.wku.get b).state = .missed) (t.feed b).overlay.isSome
      ((s.bcu.get b).lamp, (s.bcu.get b).lit, (s.bcu.get b).flash) ((t.bcu.get b).lamp, (t.bcu.get b).lit, (t.bcu.get b).flash) := by
  simp only [LampFollows, LampStep, Prod.mk.injEq]

theorem LampStep.trans {p q flashes : Prop} {before shown : Bool} {x y z : Lamp × Bool × Timer}
    (hxy : LampStep p flashes before x y) (hyz : LampStep q flashes shown y z) (hshown : ¬q → before = shown) :
    LampStep (p ∨ q) flashes shown x z := by
  obtain ⟨hon, hoff, hflash, hkeep⟩ := hxy
  obtain ⟨hon', hoff', hflash', hkeep'⟩ := hyz
  by_cases hq : q
  · refine ⟨fun _ => hon' hq, fun _ => hoff' hq, fun _ hf hx => ?_, fun h => ?_⟩
    · by_cases hp : p
      · have hy := hflash hp hf hx
        rw [hkeep' fun _ => ⟨hf, by rw [hy]⟩, hy]
      · exact hflash' hq hf (by rwa [hkeep fun h => absurd h hp])
    · obtain ⟨hf, hx⟩ := h (.inr hq)
      have hy := hkeep fun _ => ⟨hf, hx⟩
      rw [hkeep' fun _ => ⟨hf, by rw [hy, hx]⟩, hy]
  · rw [hkeep' fun h => absurd h hq, ← hshown hq]
    have hor : p ∨ q ↔ p := or_iff_left hq
    exact ⟨fun h => hon (hor.1 h), fun h => hoff (hor.1 h), fun h => hflash (hor.1 h), fun h => hkeep fun hp => h (.inl hp)⟩

/-- A wake report and then a report of the overlay: the lamp follows both. -/
theorem LampFollows.trans {s u t : State} {b : Fin 4} (hsu : LampFollows s u b) (hut : LampFollows u t b)
    (hcard : (u.feed b).overlay.isSome = (s.feed b).overlay.isSome) (hwake : (u.wku.get b).state = (t.wku.get b).state) :
    LampFollows s t b := by
  rw [lampFollows_iff_step] at *
  rw [hwake, hcard] at hsu hut
  simpa using hsu.trans hut (by simp)

theorem LampFollows.flash {s t : State} {b : Fin 4} (h : LampFollows s t b)
    (hflashes : (t.wku.get b).state = .calling ∨ (t.wku.get b).state = .missed) (hnew : (s.wku.get b).state ≠ (t.wku.get b).state) :
    (t.bcu.get b).lamp = .flash := by
  obtain ⟨-, -, hflash, hkeep⟩ := h
  by_cases hlamp : (s.bcu.get b).lamp = .flash
  · exact (hkeep fun _ => ⟨hflashes, hlamp⟩).1.trans hlamp
  · exact (hflash (.inl hnew) hflashes hlamp).1

theorem OnlyLampChanged.trans {s u t : State} {b : Fin 4} (hsu : OnlyLampChanged s u b) (hut : OnlyLampChanged u t b) :
    OnlyLampChanged s t b := by
  unfold OnlyLampChanged at *
  dsimp only at *
  rw [hut, hsu]

theorem onlyLampChanged_of_eq {s t : State} {b : Fin 4} (h : t.bcu.get b = s.bcu.get b) : OnlyLampChanged s t b := by
  simp [OnlyLampChanged, h]

/-! ### The Wake Unit takes a follow change (R166 to R168) -/

section wake
variable (b : Fin 4) (new : Follow) (s : State)

/-- The wake context of a berth after a follow change. -/
def State.wakeFollowed (b : Fin 4) (new : Follow) (s : State) : Wake :=
  let w := s.wku.get b
  let x := { w with following := decide (new.cls = some .wake) }
  if new.cls = some .wake ∧ w.following = false then
    match w.state with
    | .armed | .missed => { x with state := .calling }
    | .calling => { x with base := min (w.base + s.cfg.escalation) s.cfg.w1, hold := none }
    | .acked => { x with hold := none }
    | .idle => x
  else if new.cls ≠ some .wake ∧ w.following = true then
    match w.state with
    | .calling | .acked => { x with hold := some (1000, s.cfg.wakeHold) }
    | .idle | .armed | .missed => x
  else x

theorem State.setWakeReport_same {x : Wake} (h : x.state = (s.wku.get b).state) : s.setWakeReport b x = s.setWake b x := if_pos h

/-- A follow change is one report of the new wake context, a WAKE CLEAR for a call missed before, or a restart of the pillow for a
call that is repeated. -/
theorem State.wkuFollowChange_eq : s.wkuFollowChange b new =
    if new.cls = some .wake ∧ (s.wku.get b).following = false ∧ (s.wku.get b).state = .missed then
      (s.setWakeReport b (s.wakeFollowed b new)).queueWakeClear b
    else if new.cls = some .wake ∧ (s.wku.get b).following = false ∧ (s.wku.get b).state = .calling then
      (s.setWakeReport b (s.wakeFollowed b new)).pillowRestart b (s.wakeFollowed b new).base
    else s.setWakeReport b (s.wakeFollowed b new) := by
  cases hfollowing : (s.wku.get b).following <;> by_cases hcls : new.cls = some .wake <;>
    cases hstate : (s.wku.get b).state <;>
    simp [State.wkuFollowChange, State.wakeFollowed, State.setWakeReport_same, State.holdStart, hfollowing, hcls, hstate]

theorem State.wkuFollowChange_wku : (s.wkuFollowChange b new).wku = s.wku.set b (s.wakeFollowed b new) := by
  rw [State.wkuFollowChange_eq]
  split
  · simp
  · split <;> simp

theorem State.wkuFollowChange_bcu : (s.wkuFollowChange b new).bcu = (s.setWakeReport b (s.wakeFollowed b new)).bcu := by
  rw [State.wkuFollowChange_eq]
  split
  · simp
  · split <;> simp

theorem State.wkuFollowChange_cmu : (s.wkuFollowChange b new).cmu =
    if new.cls = some .wake ∧ (s.wku.get b).following = false ∧ (s.wku.get b).state = .missed then
      s.cmu.put (.berth b) (Message.wakeClear s.cfl.address b.val).bytes
    else s.cmu := by
  rw [State.wkuFollowChange_eq]
  split
  · simp [State.queueWakeClear, State.handMessage]
  · split <;> simp

theorem State.wkuFollowChange_mix : (s.wkuFollowChange b new).mix =
    if new.cls = some .wake ∧ (s.wku.get b).following = false ∧ (s.wku.get b).state = .calling then
      s.mix.set b { s.mix.get b with pillow := (s.mix.get b).pillow.wakeRamp s.cfg (s.wakeFollowed b new).base }
    else s.mix := by
  rw [State.wkuFollowChange_eq]
  split
  · next h =>
    have hstate : (s.wku.get b).state ≠ .calling := by simp [h.2.2]
    simp [hstate]
  · split
    · simp [State.pillowRestart, State.cfg]
    · simp

/-- The Wake Unit's part of a follow change, as the obligation states it. -/
theorem wakeTakesFollow_of {t : State} (hwku : t.wku.get b = s.wakeFollowed b new)
    (hcmu : t.cmu = (s.wkuFollowChange b new).cmu)
    (hlamp : (t.wku.get b).state = .calling → (s.wku.get b).state ≠ .calling → (t.bcu.get b).lamp = .flash) :
    WakeTakesFollow s t b new := by
  unfold WakeTakesFollow
  dsimp only
  rw [hcmu, State.wkuFollowChange_cmu]
  refine ⟨fun hstarts => ?_, fun hends => ?_, fun hnot hnot' => ?_, fun hstarts hmissed => ?_, fun h => ?_⟩
  · have hcalls : ∀ st, (s.wku.get b).state = st → st = .armed ∨ st = .missed →
        t.wku.get b = { s.wku.get b with following := decide (new.cls = some .wake), state := .calling } ∧
          (t.bcu.get b).lamp = .flash := by
      intro st hst hor
      have hv : t.wku.get b = { s.wku.get b with following := decide (new.cls = some .wake), state := .calling } := by
        rcases hor with rfl | rfl <;> simp [hwku, State.wakeFollowed, hstarts, hst]
      exact ⟨hv, hlamp (by rw [hv]) (by rcases hor with rfl | rfl <;> simp [hst])⟩
    refine ⟨fun h => hcalls _ rfl h, ?_, ?_, ?_⟩ <;> intro h <;> simp [hwku, State.wakeFollowed, hstarts, h]
  · refine ⟨fun h => ?_, fun hcalling hacked => ?_⟩
    · rcases h with h | h <;> simp [hwku, State.wakeFollowed, hends, h]
    · cases hstate : (s.wku.get b).state <;> simp_all [State.wakeFollowed]
  · rw [hwku, State.wakeFollowed]
    dsimp only
    rw [if_neg hnot, if_neg hnot']
  · rw [if_pos ⟨hstarts.1, hstarts.2, hmissed⟩]
  · rw [if_neg]
    rintro ⟨hcls, hfollowing, hmissed⟩
    exact h.elim (fun h => h ⟨hcls, hfollowing⟩) fun h => h hmissed

end wake

/-! ### The Screen Feed Unit takes a follow change (R188, R189) -/

section screen
variable (b : Fin 4) (new : Follow) (s : State)

theorem State.sfuFollowChange_asked {o : Overlay} (hasked : askedCard s.anu.entries new = some o)
    (h : ∀ x, (s.feed b).overlay = some x → x.outranksMessage = true → x.sameCard o = false) :
    s.sfuFollowChange b new = s.showOverlay b o := by
  rw [State.sfuFollowChange, hasked]
  cases hx : (s.feed b).overlay with
  | none => rfl
  | some x =>
    cases hranks : x.outranksMessage with
    | false => simp [hranks]
    | true => simp [hranks, h x hx hranks]

theorem State.sfuFollowChange_same {o x : Overlay} (hasked : askedCard s.anu.entries new = some o)
    (hx : (s.feed b).overlay = some x) (hranks : x.outranksMessage = true) (hsame : x.sameCard o = true) :
    s.sfuFollowChange b new = s := by simp [State.sfuFollowChange, hasked, hx, hranks, hsame]

theorem State.sfuFollowChange_ends {x : Overlay} (hasked : askedCard s.anu.entries new = none)
    (hx : (s.feed b).overlay = some x) (hranks : x.outranksMessage = true) :
    s.sfuFollowChange b new = s.setFeed b { s.feed b with overlay := some x.toLinger } := by
  simp only [State.sfuFollowChange, hasked, hx, hranks, if_true]
  exact State.setOverlay_unreported b s (by rw [hx]; rfl)

theorem State.sfuFollowChange_nothing (hasked : askedCard s.anu.entries new = none)
    (h : ∀ x, (s.feed b).overlay = some x → x.outranksMessage = false) : s.sfuFollowChange b new = s := by
  rw [State.sfuFollowChange, hasked]
  cases hx : (s.feed b).overlay with
  | none => rfl
  | some x => simp [h x hx]

/-- In every case the lamp follows the overlay record, and the other berths keep theirs. -/
theorem State.sfuFollowChange_keeps : LampFollows s (s.sfuFollowChange b new) b ∧ OnlyLampChanged s (s.sfuFollowChange b new) b ∧
    ∀ c, c ≠ b → (s.sfuFollowChange b new).feed c = s.feed c ∧ (s.sfuFollowChange b new).bcu.get c = s.bcu.get c := by
  have hself : LampFollows s s b ∧ OnlyLampChanged s s b ∧ ∀ c, c ≠ b → s.feed c = s.feed c ∧ s.bcu.get c = s.bcu.get c :=
    ⟨lampFollows_self s b, onlyLampChanged_of_eq rfl, fun _ _ => ⟨rfl, rfl⟩⟩
  have hshow : ∀ o, LampFollows s (s.showOverlay b o) b ∧ OnlyLampChanged s (s.showOverlay b o) b ∧
      ∀ c, c ≠ b → (s.showOverlay b o).feed c = s.feed c ∧ (s.showOverlay b o).bcu.get c = s.bcu.get c :=
    fun o => s.placeCard_setOverlay b _ _
  unfold State.sfuFollowChange
  split
  · exact hself
  · exact hshow _
  · split
    · split
      · exact keeps_if (I := fun t => LampFollows s t b ∧ OnlyLampChanged s t b ∧
          ∀ c, c ≠ b → t.feed c = s.feed c ∧ t.bcu.get c = s.bcu.get c) (hshow _) fun _ => hself
      · exact ⟨s.setOverlay_lampFollows b _, s.setOverlay_onlyLamp b _, fun c hc => s.setOverlay_other b hc _⟩
    · split
      · exact hshow _
      · exact hself

/-- The Screen Feed Unit's part of a follow change, as the obligation states it. -/
theorem screenTakesFollow_of {u t : State} (hfeed : u.feed b = s.feed b) (hentries : u.anu.entries = s.anu.entries)
    (ht : t.feed b = (u.sfuFollowChange b new).feed b) : ScreenTakesFollow s t b new := by
  have hasked : (new.entry.bind fun e =>
      if e = 0 then some (⟨.alert, some e, 1, (s.anu.entries.get e).text, .live, 0, 0, 0⟩ : Overlay)
      else if new.cls = some .wake ∧ new.pillow = true then some ⟨.wake, some e, 4, (s.anu.entries.get e).text, .live, 0, 0, 0⟩
      else if (s.anu.entries.get e).text = [] then none
      else some ⟨.announcement, some e, 0, (s.anu.entries.get e).text, .live, 0, 0, 0⟩) = askedCard u.anu.entries new := by
    rw [hentries]
    cases he : new.entry with
    | none => simp [askedCard, he]
    | some e => simp [askedCard, he, List.isEmpty_iff]
  have hranks : ∀ x : Overlay, x.phase = .live ∧ x.source ≠ .message ↔ x.outranksMessage = true := fun x => by
    simp [Overlay.outranksMessage]
  unfold ScreenTakesFollow
  dsimp only
  rw [hasked, ht, ← hfeed]
  simp only [hranks]
  refine ⟨fun o ho hnew => ?_, fun o x ho hx hr hentry hcard htext => ?_, fun x hnone hx hr => ?_, fun hnone hquiet => ?_⟩
  · rw [u.sfuFollowChange_asked b new ho fun x hx hr => by simpa [Overlay.sameCard] using hnew x hx hr]
    exact u.showOverlay_feed b o
  · rw [u.sfuFollowChange_same b new ho hx hr (by simp [Overlay.sameCard, hentry, hcard, htext])]
  · rw [u.sfuFollowChange_ends b new hnone hx hr, State.setFeed_feed_self]
    rfl
  · rw [u.sfuFollowChange_nothing b new hnone fun x hx => by simpa using hquiet x hx]

end screen
end Sys2Proof.Machine
end

section
/-!
PROOFS. The Mixer's part of a follow change; publication; the entries that are freed; routing, admission and follow selection
(O29, O31, O32).
-/

namespace Sys2Proof.Machine

/-! ### The Mixer takes a follow change (R148 to R151) -/

section mixer
variable {m : MixBerth} {c : Config} {user : Level} {base : Nat} {old new : Follow} {e : Fin 16} {cls : AnnClass}

theorem pillowBegins_pillowStart (x : LevelState) (c : Config) (base : Nat) (cls : AnnClass) :
    PillowBegins c cls base (x.pillowStart c base cls) := by
  refine ⟨?_, ?_, ?_⟩
  · rintro rfl; exact ⟨rfl, rfl, rfl⟩
  · rintro rfl; exact ⟨rfl, rfl, rfl⟩
  · rintro rfl; exact LevelState.start_started { x with cur := .lvl base } _ _ _

theorem pillowBegins_wakeRamp (x : LevelState) (c : Config) (base : Nat) : PillowBegins c .wake base (x.wakeRamp c base) :=
  pillowBegins_pillowStart x c base .wake

theorem MixBerth.followChange_new (he : new.entry = some e) (hcls : new.cls = some cls) (hann : m.ann ≠ some (e, cls)) :
    m.followChange c user base old new = m.newAnnouncement c user base e cls new.pillow := by
  simp [MixBerth.followChange, he, hcls, hann]

theorem MixBerth.followChange_same (he : new.entry = some e) (hcls : new.cls = some cls) (hann : m.ann = some (e, cls)) :
    m.followChange c user base old new = m.admission c base cls old.pillow new.pillow := by
  simp [MixBerth.followChange, he, hcls, hann]

theorem MixBerth.followChange_end (h : new.entry = none ∨ new.cls = none) :
    m.followChange c user base old new = m.announcementEnd c user := by
  unfold MixBerth.followChange
  split
  · next he hcls => rcases h with h | h <;> simp_all
  · rfl

theorem MixBerth.announcementEnd_only (m : MixBerth) (c : Config) (user : Level) : m.announcementEnd c user = { m with
    programme := (m.announcementEnd c user).programme, headset := (m.announcementEnd c user).headset
    pillow := (m.announcementEnd c user).pillow, duck := (m.announcementEnd c user).duck
    hold := (m.announcementEnd c user).hold, ann := (m.announcementEnd c user).ann } := by
  simp only [MixBerth.announcementEnd]
  repeat' split
  all_goals rfl

theorem MixBerth.followChange_only (m : MixBerth) (c : Config) (user : Level) (base : Nat) (old new : Follow) :
    let n := m.followChange c user base old new
    n = { m with
      programme := n.programme, headset := n.headset, pillow := n.pillow, duck := n.duck, hold := n.hold, ann := n.ann
      lastClass := n.lastClass } := by
  dsimp only
  unfold MixBerth.followChange
  repeat' split
  · rfl
  · rfl
  · rw [MixBerth.announcementEnd_only]

/-- R151: what the end of the announcement leaves. -/
theorem MixBerth.announcementEnd_leaves (m : MixBerth) (c : Config) (user : Level) :
    let n := m.announcementEnd c user
    n.ann = none ∧ n.headset.target = .mute ∧ n.pillow.target = .mute ∧
    (m.duck = .ducked → c.duckHold = 0 → n.duck = .unducked ∧ n.hold = none ∧ n.programme.target = user) ∧
    (m.duck = .ducked → c.duckHold ≠ 0 → n.duck = .holding ∧ n.hold = some c.duckHold ∧ n.programme = m.programme) ∧
    (m.duck ≠ .ducked → n.duck = m.duck ∧ n.hold = m.hold ∧ n.programme = m.programme) := by
  by_cases hduck : m.duck = .ducked
  · by_cases hhold : c.duckHold = 0 <;>
      simp [MixBerth.announcementEnd, hduck, hhold, LevelState.fade, MixBerth.aimProgramme]
  · simp [MixBerth.announcementEnd, hduck, LevelState.fade]

/-- R149: what a new announcement sets beside the pillow. -/
theorem MixBerth.newAnnouncement_sets (m : MixBerth) (c : Config) (user : Level) (base : Nat) (e : Fin 16) (cls : AnnClass)
    (pillow : Bool) :
    let n := m.newAnnouncement c user base e cls pillow
    let level : Level := match cls with
      | .alert => .lvl 48 | .wake => .lvl c.wakeHeadset | .crew => .lvl c.crewHeadset | .service => .lvl c.serviceHeadset
    n.ann = some (e, cls) ∧ n.duck = .ducked ∧ n.hold = none ∧ n.headset.cur = level ∧ n.headset.target = level ∧
    n.programme.cur = m.programme.cur ∧ n.programme.target = (if cls = .alert then .mute else user.lowered c.duckDepth) := by
  refine ⟨rfl, rfl, rfl, ?_, ?_, LevelState.aim_cur _ _ _ _, (LevelState.aim_target _ _ _ _).trans ?_⟩
  all_goals cases cls <;> rfl

theorem MixBerth.newAnnouncement_pillow (m : MixBerth) (c : Config) (user : Level) (base : Nat) (e : Fin 16) (cls : AnnClass)
    (pillow : Bool) : (m.newAnnouncement c user base e cls pillow).pillow =
      if pillow = true then m.pillow.pillowStart c base cls else m.pillow.settle .mute := rfl

end mixer

/-! ### Publication (R100) -/

theorem table_set_set {α : Type} {n : Nat} (t : Table n α) (i : Fin n) (v w : α) : (t.set i v).set i w = t.set i w :=
  Table.ext_get fun j => by
    by_cases h : i = j <;> simp [h]

section publish
variable (b : Fin 4) (new : Follow) (s : State)

/-- R154, R167: a call that is repeated. -/
def State.wakeRepeats (b : Fin 4) (new : Follow) (s : State) : Prop :=
  new.cls = some .wake ∧ (s.wku.get b).following = false ∧ (s.wku.get b).state = .calling

/-- The Mixer's own part of a publication. -/
def State.mixFollowed (b : Fin 4) (new : Follow) (s : State) : MixBerth :=
  (s.mix.get b).followChange s.cfg (s.bcu.get b).userLevel (s.wku.get b).base (s.anu.follow.get b) new

theorem State.publish_wku : (s.publish b new).wku = s.wku.set b (s.wakeFollowed b new) := by
  simp only [State.publish, State.sfuFollowChange_frame, State.wkuFollowChange_wku]
  rfl

theorem State.publish_cmu : (s.publish b new).cmu = (s.wkuFollowChange b new).cmu := by
  simp only [State.publish, State.sfuFollowChange_frame, State.wkuFollowChange_cmu]
  rfl

theorem State.publish_mix_repeats (h : s.wakeRepeats b new) : (s.publish b new).mix = s.mix.set b { s.mixFollowed b new with
    pillow := (s.mixFollowed b new).pillow.wakeRamp s.cfg (s.wakeFollowed b new).base } := by
  simp only [State.publish, State.sfuFollowChange_frame, State.wkuFollowChange_mix]
  rw [if_pos (by exact h)]
  simp only [State.mixFollowChange, State.setMix_mix, State.setFollow_mix, table_set_set, Table.get_set_self]
  rfl

theorem State.publish_mix (h : ¬s.wakeRepeats b new) : (s.publish b new).mix = s.mix.set b (s.mixFollowed b new) := by
  simp only [State.publish, State.sfuFollowChange_frame, State.wkuFollowChange_mix]
  rw [if_neg (by exact h)]
  rfl

theorem State.wakeFollowed_base (h : ¬s.wakeRepeats b new) : (s.wakeFollowed b new).base = (s.wku.get b).base := by
  unfold State.wakeFollowed
  dsimp only
  repeat' split
  all_goals try rfl
  next hstarts _ hcalling => exact absurd ⟨hstarts.1, hstarts.2, hcalling⟩ h

/-- The mixing state after a publication: the Mixer's own part, and the pillow restarted where a call is repeated. -/
theorem State.publish_mix_get : ∃ n, (s.publish b new).mix.get b = n ∧ n = { s.mixFollowed b new with pillow := n.pillow } ∧
    (s.wakeRepeats b new → n.pillow = (s.mixFollowed b new).pillow.wakeRamp s.cfg (s.wakeFollowed b new).base) ∧
    (¬s.wakeRepeats b new → n.pillow = (s.mixFollowed b new).pillow) := by
  by_cases h : s.wakeRepeats b new
  · rw [State.publish_mix_repeats b new s h, Table.get_set_self]
    exact ⟨_, rfl, rfl, fun _ => rfl, fun hnot => absurd h hnot⟩
  · rw [State.publish_mix b new s h, Table.get_set_self]
    exact ⟨_, rfl, rfl, fun hrep => absurd hrep h, fun _ => rfl⟩

/-- The Mixer's part of a publication, as the obligation states it. -/
theorem State.publish_mixer : MixerTakesFollow s (s.publish b new) b new := by
  obtain ⟨n, hn, hrest, hrepeats, hpillow⟩ := s.publish_mix_get b new
  have hwku : (s.publish b new).wku.get b = s.wakeFollowed b new := by rw [State.publish_wku, Table.get_set_self]
  have hbase := s.wakeFollowed_base b new
  /- the pillow where the Mixer's own part starts it -/
  have hbegins : ∀ cls, new.cls = some cls →
      (s.mixFollowed b new).pillow = (s.mix.get b).pillow.pillowStart s.cfg (s.wku.get b).base cls →
      PillowBegins s.cfg cls (s.wakeFollowed b new).base n.pillow := by
    intro cls hcls hstart
    by_cases hrep : s.wakeRepeats b new
    · obtain rfl : cls = .wake := Option.some.inj (hcls.symm.trans hrep.1)
      rw [hrepeats hrep]
      exact pillowBegins_wakeRamp _ _ _
    · rw [hpillow hrep, hstart, hbase hrep]
      exact pillowBegins_pillowStart _ _ _ _
  unfold MixerTakesFollow
  dsimp only
  rw [hwku, hn]
  refine ⟨?only, fun e cls he hcls hann => ?fresh, fun e cls he hcls hann => ?same, fun he hcls => ?ends⟩
  case only =>
    rw [hrest, State.mixFollowed, MixBerth.followChange_only]
  case fresh =>
    have hM : s.mixFollowed b new = _ := MixBerth.followChange_new he hcls hann
    have hpil := congrArg MixBerth.pillow hM
    rw [MixBerth.newAnnouncement_pillow] at hpil
    obtain ⟨h1, h2, h3, h4, h5, h6, h7⟩ :=
      (s.mix.get b).newAnnouncement_sets s.cfg (s.bcu.get b).userLevel (s.wku.get b).base e cls new.pillow
    rw [← hM] at h1 h2 h3 h4 h5 h6 h7
    refine ⟨?_, ?_, ?_, ?_, ?_, ?_, ?_, fun hp => hbegins cls hcls (by rw [hpil, if_pos hp]), fun hp hrep => ?_⟩
    · rw [hrest]; exact h1
    · rw [hrest]; exact h2
    · rw [hrest]; exact h3
    · rw [hrest]; exact h4
    · rw [hrest]; exact h5
    · rw [hrest]; exact h6
    · rw [hrest]; exact h7
    · rw [hpillow hrep, hpil, if_neg (by simp [hp])]
      exact ⟨rfl, rfl⟩
  case same =>
    have hM : s.mixFollowed b new = _ := MixBerth.followChange_same he hcls hann
    have hpil := congrArg MixBerth.pillow hM
    refine ⟨by rw [hrest, hM]; rfl, fun heq hrep => ?_, fun hbefore hnow => hbegins cls hcls ?_, fun hbefore hnow hrep => ?_⟩
    · rw [hpillow hrep, hpil]
      simp [MixBerth.admission, heq]
    · rw [hpil]
      simp [MixBerth.admission, hbefore, hnow]
    · rw [hpillow hrep, hpil]
      simp [MixBerth.admission, hbefore, hnow, LevelState.fade]
  case ends =>
    have hM : s.mixFollowed b new = _ := MixBerth.followChange_end (.inl he)
    have hrep : ¬s.wakeRepeats b new := fun h => nomatch hcls.symm.trans h.1
    have hnM : n = s.mixFollowed b new := by rw [hrest, hpillow hrep]
    rw [hnM, hM]
    exact MixBerth.announcementEnd_leaves _ _ _

/-- The state in which the Mixer has taken a follow change and the Wake Unit takes it. -/
def State.mixerServed (b : Fin 4) (new : Follow) (s : State) : State :=
  (s.setFollow b new).mixFollowChange b (s.anu.follow.get b) new

theorem State.publish_eq : s.publish b new = ((s.mixerServed b new).wkuFollowChange b new).sfuFollowChange b new := rfl

theorem State.wkuFollowChange_feed (c : Fin 4) : (s.wkuFollowChange b new).feed c = s.feed c := by simp [State.feed]

/-- The Wake Unit's step as a report, for the lamp and the berths' contexts. -/
theorem State.wkuFollowChange_keeps : LampFollows s (s.wkuFollowChange b new) b ∧ OnlyLampChanged s (s.wkuFollowChange b new) b ∧
    ∀ c, c ≠ b → (s.wkuFollowChange b new).bcu.get c = s.bcu.get c := by
  have hbcu := s.wkuFollowChange_bcu b new
  have hview : (s.wkuFollowChange b new).lampView b = (s.setWakeReport b (s.wakeFollowed b new)).lampView b := by
    simp [State.lampView, hbcu, State.wkuFollowChange_wku, State.feed]
  refine ⟨lampFollows_of_view (s.setWakeReport_lampFollows b _) rfl hview, ?_, fun c hc => ?_⟩
  · simpa [OnlyLampChanged, hbcu] using s.setWakeReport_onlyLamp b (s.wakeFollowed b new)
  · rw [hbcu, s.setWakeReport_other b _ hc]

/-- The lamp and the berths' contexts after a publication. -/
theorem State.publish_keeps : LampFollows s (s.publish b new) b ∧ OnlyLampChanged s (s.publish b new) b ∧
    ∀ c, c ≠ b → (s.publish b new).feed c = s.feed c ∧ (s.publish b new).bcu.get c = s.bcu.get c := by
  have hbcu : (s.mixerServed b new).bcu = s.bcu := by simp [State.mixerServed]
  have hfeed : ∀ c, (s.mixerServed b new).feed c = s.feed c := fun c => by simp [State.mixerServed, State.feed]
  have hview : s.lampView b = (s.mixerServed b new).lampView b := by
    simp only [State.lampView, hbcu, hfeed]
    simp [State.mixerServed]
  obtain ⟨hlamp, honly, hother⟩ := (s.mixerServed b new).wkuFollowChange_keeps b new
  obtain ⟨hlamp', honly', hother'⟩ := ((s.mixerServed b new).wkuFollowChange b new).sfuFollowChange_keeps b new
  rw [State.publish_eq]
  refine ⟨?_, ?_, fun c hc => ⟨?_, ?_⟩⟩
  · exact (lampFollows_of_view hlamp hview rfl).trans hlamp' (by rw [State.wkuFollowChange_feed, hfeed]) (by simp)
  · refine OnlyLampChanged.trans ?_ honly'
    simpa [OnlyLampChanged, hbcu] using honly
  · rw [(hother' c hc).1, State.wkuFollowChange_feed, hfeed]
  · rw [(hother' c hc).2, hother c hc, hbcu]

/-- What a publication does, in the obligation's words. -/
theorem State.publish_takes :
    let t := s.publish b new
    t = { s with
      anu := { s.anu with follow := s.anu.follow.set b new }, mix := t.mix, wku := t.wku, bcu := t.bcu, sfu := t.sfu
      cmu := t.cmu, counters := t.counters } ∧
    (∀ c, c ≠ b → t.mix.get c = s.mix.get c ∧ t.wku.get c = s.wku.get c ∧ t.bcu.get c = s.bcu.get c ∧
      t.feed c = s.feed c) ∧
    MixerTakesFollow s t b new ∧ WakeTakesFollow s t b new ∧ ScreenTakesFollow s t b new ∧ LampFollows s t b ∧
    OnlyLampChanged s t b := by
  obtain ⟨hlamp, honly, hother⟩ := s.publish_keeps b new
  have hwku : (s.publish b new).wku.get b = s.wakeFollowed b new := by rw [State.publish_wku, Table.get_set_self]
  refine ⟨by ext1 <;> simp, fun c hc => ⟨?_, ?_, (hother c hc).2, (hother c hc).1⟩, s.publish_mixer b new, ?_, ?_, hlamp, honly⟩
  · by_cases hrep : s.wakeRepeats b new
    · rw [State.publish_mix_repeats b new s hrep, Table.get_set_of_ne _ _ (Ne.symm hc)]
    · rw [State.publish_mix b new s hrep, Table.get_set_of_ne _ _ (Ne.symm hc)]
  · rw [State.publish_wku, Table.get_set_of_ne _ _ (Ne.symm hc)]
  · exact wakeTakesFollow_of b new s hwku (s.publish_cmu b new) fun hcalling hnot =>
      hlamp.flash (.inl hcalling) (by rw [hcalling]; exact hnot)
  · refine screenTakesFollow_of b new s (u := (s.mixerServed b new).wkuFollowChange b new) ?_ ?_ rfl
    · rw [State.wkuFollowChange_feed]
      simp [State.mixerServed, State.feed]
    · simp [State.mixerServed]

end publish
end Sys2Proof.Machine
end

section
/-!
PROOFS. The entries that are freed; routing, admission and follow selection (O29, O31, O32).
-/

namespace Sys2Proof.Machine

/-! ### An entry that is freed ends the follows that name it (R88, R92, R101) -/

section freed
variable (i : Fin 16) (s : State)

/-- One berth's part of the end of the follows. -/
def State.endFollow (i : Fin 16) (s : State) (b : Fin 4) : State :=
  if (s.anu.follow.get b).entry = some i then s.publish b .nothing else s

theorem State.endFollows_eq : s.endFollows i = (indices 4).foldl (State.endFollow i) s := rfl

theorem State.endFollow_other (a b : Fin 4) (h : b ≠ a) :
    (s.endFollow i a).anu.follow.get b = s.anu.follow.get b := by
  unfold State.endFollow
  split
  · rw [State.publish_anu]
    exact Table.get_set_of_ne _ _ (Ne.symm h)
  · rfl

theorem State.endFollow_self (b : Fin 4) : (s.endFollow i b).anu.follow.get b =
    if (s.anu.follow.get b).entry = some i then .nothing else s.anu.follow.get b := by
  unfold State.endFollow
  split
  · rw [State.publish_anu]
    exact Table.get_set_self _ _ _
  · rfl

theorem State.endFollows_follow (b : Fin 4) : (s.endFollows i).anu.follow.get b =
    if (s.anu.follow.get b).entry = some i then .nothing else s.anu.follow.get b := by
  obtain ⟨-, hin⟩ := foldl_at (V := fun (t : State) b => t.anu.follow.get b) (fun t a b => t.endFollow_other i a b)
    (indices_nodup 4) s b
  obtain ⟨u, hu, hend⟩ := hin (List.mem_finRange b)
  rw [State.endFollows_eq, hend, State.endFollow_self, hu]

theorem Cmu.put_missed (c : Cmu) (o : Origin) (bytes : List Byte) : (c.put o bytes).missed = c.missed := by
  unfold Cmu.put
  split <;> rfl

/-- Of the control messages, a publication changes the queue only. -/
theorem State.publish_dispatch (b : Fin 4) (new : Follow) :
    (s.publish b new).cmu.dispatch = s.cmu.dispatch ∧ (s.publish b new).cmu.missed = s.cmu.missed := by
  rw [State.publish_cmu, State.wkuFollowChange_cmu]
  split
  · exact ⟨Cmu.put_dispatch _ _ _, Cmu.put_missed _ _ _⟩
  · exact ⟨rfl, rfl⟩

/-- What the end of the follows leaves: the dispatch list, the missed wakes and the zones. -/
theorem State.endFollows_keeps : (s.endFollows i).cmu.dispatch = s.cmu.dispatch ∧ (s.endFollows i).cmu.missed = s.cmu.missed ∧
    (s.endFollows i).anu.zones = s.anu.zones := by
  rw [State.endFollows_eq]
  refine foldl_keeps (I := fun t : State => t.cmu.dispatch = s.cmu.dispatch ∧ t.cmu.missed = s.cmu.missed ∧
    t.anu.zones = s.anu.zones) (fun t b ht => ?_) (indices 4) ⟨rfl, rfl, rfl⟩
  unfold State.endFollow
  split
  · obtain ⟨hdispatch, hmissed⟩ := t.publish_dispatch b .nothing
    exact ⟨hdispatch.trans ht.1, hmissed.trans ht.2.1, by rw [State.publish_anu]; exact ht.2.2⟩
  · exact ht

theorem State.freeNow_keeps : (s.freeNow i).cmu.dispatch = s.cmu.dispatch ∧ (s.freeNow i).cmu.missed = s.cmu.missed ∧
    (s.freeNow i).anu.zones = s.anu.zones := State.endFollows_keeps i (s.setEntry i .freedNow)

theorem State.freeNow_freed : EntryFreed s (s.freeNow i) i := by
  have hfollow : ∀ b, (s.freeNow i).anu.follow.get b =
      if (s.anu.follow.get b).entry = some i then .nothing else s.anu.follow.get b :=
    fun b => State.endFollows_follow i (s.setEntry i .freedNow) b
  refine ⟨?_, fun j hj => ?_, fun b hb => ?_, fun b hb => ?_⟩
  · rw [State.freeNow_entries, Table.get_set_self]
    rfl
  · rw [State.freeNow_entries, Table.get_set_of_ne _ _ (Ne.symm hj)]
  · rw [hfollow, if_pos hb]
    rfl
  · rw [hfollow, if_neg hb]

theorem State.freeNow_framed : s.freeNow i = { s with
    anu := (s.freeNow i).anu, mix := (s.freeNow i).mix, wku := (s.freeNow i).wku, sfu := (s.freeNow i).sfu
    bcu := (s.freeNow i).bcu, cmu := (s.freeNow i).cmu, counters := (s.freeNow i).counters } := by
  ext1 <;> simp

end freed

/-- Settles O29: the three events that free an entry. -/
theorem entriesAreFreed : Obligations.EntriesAreFreed := by
  intro s framed
  refine ⟨fun tag seq rest hhead => ?withdraw, fun i hi => ⟨fun hstate hcount => ?fading, fun hstate hcount => ?age⟩⟩
  case withdraw =>
    have hexec : exec .withdraw s = .next ({ s with cmu := { s.cmu with dispatch := rest } }.applyWithdraw tag seq) := by
      rw [exec_of_event (e := .withdraw) rfl, takeEvent, State.takeWithdraw, hhead]
    rw [hexec]
    refine ⟨fun i hentry hseq => ?_, fun hnone => ?_⟩
    · have happly : { s with cmu := { s.cmu with dispatch := rest } }.applyWithdraw tag seq =
          { s with cmu := { s.cmu with dispatch := rest } }.freeNow i := by
        have hentry' : { s with cmu := { s.cmu with dispatch := rest } }.entryOf tag = some i := hentry
        rw [State.applyWithdraw, hentry']
        exact if_pos hseq
      rw [happly]
      obtain ⟨hdispatch, hmissed, hzones⟩ := State.freeNow_keeps i { s with cmu := { s.cmu with dispatch := rest } }
      exact ⟨_, rfl, State.freeNow_freed i _, State.freeNow_framed i _, hdispatch, hmissed, hzones⟩
    · unfold State.applyWithdraw
      split
      · next i hentry => rw [if_neg (hnone i hentry)]
      · rfl
  case fading =>
    refine ⟨s.freeNow i, ?_, State.freeNow_freed i s, State.freeNow_framed i s, (State.freeNow_keeps i s).2.2⟩
    rw [exec_of_event (e := .fading i) rfl, takeEvent, State.takeFading]
    simp only [hi, hstate, hcount, ne_eq, not_false_eq_true, and_self, if_true]
  case age =>
    refine ⟨s.freeNow i, ?_, State.freeNow_freed i s, State.freeNow_framed i s, (State.freeNow_keeps i s).2.2⟩
    rw [exec_of_event (e := .descriptionAge i) rfl, takeEvent, State.takeDescriptionAge]
    simp only [hi, hstate, hcount, ne_eq, not_false_eq_true, and_self, if_true]

/-! ### Routing and admission (R97, R98) -/

/-- No class reaches the pillow and not the headset. -/
theorem routing_either (c : AnnClass) (z : ZoneMode) (w : WakeState) :
    ((routing c z w).1 || (routing c z w).2) = (routing c z w).1 := by
  cases c <;> cases z <;> cases w <;> rfl

section admission
variable {s : State} {b : Fin 4} {i : Fin 16} {f : Follow}

theorem State.targetIncludes_unconfigured (h : s.configured b = false) (t : Target) : s.targetIncludes t b = false := by
  simp [State.targetIncludes, h]

/-- When an entry admits a berth, and the record it gives. -/
theorem State.admission_eq_some_iff : s.admission b i = some f ↔ ∃ c t, (s.anu.entries.get i).cls = some c ∧
    (s.anu.entries.get i).target = some t ∧
    ((s.anu.entries.get i).state = .active ∨ (s.anu.entries.get i).state = .fading) ∧ (s.anu.entries.get i).expired = false ∧
    s.targetIncludes t b = true ∧ (routing c (s.zoneMode b) (s.wku.get b).state).1 = true ∧
    f = ⟨some i, (routing c (s.zoneMode b) (s.wku.get b).state).1, (routing c (s.zoneMode b) (s.wku.get b).state).2, some c⟩ := by
  unfold State.admission
  dsimp only
  split
  · next c t hc ht =>
    simp only [routing_either, hc, ht, Option.some.injEq]
    constructor
    · intro h
      split at h
      · next hcond =>
        obtain ⟨hstate, hexpired, hincludes⟩ := hcond
        split at h
        · next hroute => exact ⟨c, t, rfl, rfl, hstate, hexpired, hincludes, hroute, (Option.some.inj h).symm⟩
        · exact nomatch h
      · exact nomatch h
    · rintro ⟨c', t', rfl, rfl, hstate, hexpired, hincludes, hroute, rfl⟩
      rw [if_pos ⟨hstate, hexpired, hincludes⟩, if_pos hroute]
  · next hnone =>
    refine ⟨nofun, ?_⟩
    rintro ⟨c, t, hc, ht, -⟩
    exact absurd ht (hnone c t hc)

theorem State.admission_entry (h : s.admission b i = some f) : f.entry = some i := by
  obtain ⟨c, t, -, -, -, -, -, -, rfl⟩ := State.admission_eq_some_iff.1 h
  rfl

theorem State.admission_unconfigured (h : s.configured b = false) : s.admission b i = none :=
  Option.eq_none_iff_forall_ne_some.2 fun f hf => by
    obtain ⟨c, t, -, -, -, -, hincludes, -⟩ := State.admission_eq_some_iff.1 hf
    rw [State.targetIncludes_unconfigured h] at hincludes
    exact Bool.noConfusion hincludes

/-- An entry is in force while it is ACTIVE, or FADING with its expiry not due. -/
theorem AnnEntry.inForce_iff (e : AnnEntry) : ((e.state = .active ∨ e.state = .fading) ∧ e.expired = false) ↔
    e.state = .active ∨ (e.state = .fading ∧ e.absence < 8) := by
  cases hstate : e.state <;> simp [AnnEntry.expired, hstate]

end admission

/-! ### Follow selection (R99) -/

section selection
variable {s : State} {b : Fin 4}

/-- R99: the better of two records that admissible entries give: by class, then by stamp. -/
def State.outranks (s : State) (f g : Follow) : Bool :=
  decide (classRank f < classRank g ∨ (classRank f = classRank g ∧ s.stampOf (f.entry.getD 0) < s.stampOf (g.entry.getD 0)))

theorem State.bestEntry_eq_pick (s : State) (b : Fin 4) :
    s.bestEntry b = (indices 16).foldl (pick (s.admission b) s.outranks) none := by
  unfold State.bestEntry
  congr
  funext best i
  cases hf : s.admission b i with
  | none => rw [pick_of_none hf]
  | some f =>
    cases best with
    | none => rw [pick_first hf]
    | some g =>
      rw [pick_next hf]
      simp [State.outranks, State.admission_entry hf]

theorem indices_ascending (n : Nat) : (indices n).Pairwise (· < ·) := by
  rw [indices]
  exact List.pairwise_lt_finRange n

theorem mem_indices {n : Nat} (i : Fin n) : i ∈ indices n := List.mem_finRange i

theorem State.bestEntry_eq_none : s.bestEntry b = none ↔ ∀ i, s.admission b i = none := by
  rw [State.bestEntry_eq_pick, foldl_pick_eq_none]
  exact ⟨fun h i => h i (mem_indices i), fun h i _ => h i⟩

/-- The best entry: no other is of a better class, or of its class with an earlier stamp, or with its stamp and a lower index. -/
theorem State.bestEntry_best {x : Follow} (h : s.bestEntry b = some x) : ∃ j, s.admission b j = some x ∧
    ∀ i f, s.admission b i = some f → classRank x < classRank f ∨
      (classRank x = classRank f ∧ (s.stampOf j < s.stampOf i ∨ (s.stampOf j = s.stampOf i ∧ j ≤ i))) := by
  rw [State.bestEntry_eq_pick] at h
  obtain ⟨j, -, hj, hall⟩ := foldl_pick_eq_some
    (fun x y z => by simp only [State.outranks, decide_eq_true_eq]; omega)
    (fun x y z => by simp only [State.outranks, decide_eq_true_eq, decide_eq_false_iff_not]; omega)
    (indices_ascending 16) h
  refine ⟨j, hj, fun i f hf => ?_⟩
  obtain ⟨hbefore, hafter⟩ := hall i (mem_indices i) f hf
  simp only [State.outranks, State.admission_entry hj, State.admission_entry hf, Option.getD_some, decide_eq_true_eq,
    decide_eq_false_iff_not] at hbefore hafter
  obtain hlt | rfl | hlt := lt_trichotomy i j
  · have := hbefore hlt
    omega
  · obtain rfl : x = f := Option.some.inj (hj.symm.trans hf)
    exact .inr ⟨rfl, .inr ⟨rfl, le_rfl⟩⟩
  · have := hafter hlt
    omega

theorem State.incumbent_eq_some_iff {g : Follow} : s.incumbent b = some g ↔
    ∃ i, (s.anu.follow.get b).entry = some i ∧ (s.anu.entries.get i).freed = false ∧ s.admission b i = some g := by
  unfold State.incumbent
  split
  · next i hi => cases hfreed : (s.anu.entries.get i).freed <;> simp [hi, hfreed]
  · next hnone => simp [hnone]

theorem State.selectFollow_nothing (h : ∀ i, s.admission b i = none) : s.selectFollow b = .nothing := by
  rw [State.selectFollow, State.bestEntry_eq_none.2 h]

/-- The selected record: the best entry's, or the incumbent's of the same class. -/
theorem State.selectFollow_cases {x : Follow} (h : s.bestEntry b = some x) :
    s.selectFollow b = x ∧ (∀ g, s.incumbent b = some g → classRank g ≠ classRank x) ∨
      s.incumbent b = some (s.selectFollow b) ∧ classRank (s.selectFollow b) = classRank x := by
  unfold State.selectFollow
  rw [h]
  dsimp only
  split
  · next g hg =>
    split
    · next heq => exact .inr ⟨hg, heq⟩
    · next hne => exact .inl ⟨rfl, fun g' hg' => by rw [← Option.some.inj (hg.symm.trans hg')]; exact hne⟩
  · next hnone => exact .inl ⟨rfl, fun g hg => by rw [hnone] at hg; exact nomatch hg⟩

theorem State.configured_of_cfl {s t : State} (h : t.cfl = s.cfl) (b : Fin 4) : t.configured b = s.configured b := by
  rw [State.configured, State.cfg, h]
  rfl

/-- The selection of a berth speaks of its follow record, its stop and its wake state beside the tables. -/
def State.selectionView (s : State) (b : Fin 4) : Table 16 AnnEntry × Table 16 ZoneMode × Loader × Follow × Nat × WakeState :=
  (s.anu.entries, s.anu.zones, s.cfl, s.anu.follow.get b, (s.bcu.get b).stop, (s.wku.get b).state)

theorem State.selectFollow_congr {t : State} (h : t.selectionView b = s.selectionView b) : t.selectFollow b = s.selectFollow b := by
  simp only [State.selectionView, Prod.mk.injEq] at h
  obtain ⟨hentries, hzones, hcfl, hfollow, hstop, hwake⟩ := h
  have hcfg : t.berthCfg b = s.berthCfg b := by rw [State.berthCfg, State.cfg, hcfl]; rfl
  have hincludes : ∀ x, t.targetIncludes x b = s.targetIncludes x b := fun x => by
    unfold State.targetIncludes
    rw [State.configured_of_cfl hcfl, hcfg, hstop]
  have hmode : t.zoneMode b = s.zoneMode b := by rw [State.zoneMode, hcfg, hzones]; rfl
  have hadmission : t.admission b = s.admission b := by
    funext i
    simp only [State.admission, hentries, hincludes, hmode, hwake]
  have hstamp : t.stampOf = s.stampOf := by
    funext i
    simp only [State.stampOf, hentries]
  simp only [State.selectFollow, State.bestEntry, State.incumbent, hadmission, hstamp, hfollow, hentries]

end selection

/-- Settles O31. -/
theorem targetsAndMatrixAdmit : Obligations.TargetsAndMatrixAdmit := by
  refine ⟨fun s b => ⟨fun hconf => ?_, fun hconf => ⟨fun t => State.targetIncludes_unconfigured hconf t, ?_⟩⟩,
    fun z w => by cases z <;> rfl, fun z => by cases z <;> exact ⟨rfl, rfl, rfl, rfl, rfl⟩,
    fun w => by cases w <;> exact ⟨rfl, rfl, rfl, rfl⟩, fun s b i c t hc ht => ⟨?_, fun f hf => ?_⟩⟩
  · refine ⟨?_, fun m => ?_, fun st => ?_, fun st hst _ hstop => ?_⟩
    · simp [State.targetIncludes, hconf]
    · simp [State.targetIncludes, hconf]
    · simp [State.targetIncludes, hconf]
    · have : ¬0 = st := by omega
      simp [State.targetIncludes, hstop, this]
  · exact State.selectFollow_nothing fun i => State.admission_unconfigured hconf
  · rw [Option.isSome_iff_exists, ← AnnEntry.inForce_iff]
    simp only [State.admission_eq_some_iff, hc, ht, Option.some.injEq]
    constructor
    · rintro ⟨_, _, _, rfl, rfl, hstate, hexpired, hincludes, hroute, -⟩
      exact ⟨⟨hstate, hexpired⟩, hincludes, hroute⟩
    · rintro ⟨⟨hstate, hexpired⟩, hincludes, hroute⟩
      exact ⟨_, c, t, rfl, rfl, hstate, hexpired, hincludes, hroute, rfl⟩
  · obtain ⟨c', t', hc', -, -, -, -, -, rfl⟩ := State.admission_eq_some_iff.1 hf
    obtain rfl : c = c' := Option.some.inj (hc.symm.trans hc')
    exact ⟨rfl, rfl, rfl⟩

/-! ### The follow changes of an evaluation (R100) -/

section evaluation
variable (b : Fin 4) (s : State)

theorem State.followBerth_publishes (h : s.selectFollow b ≠ s.anu.follow.get b ∨
    ∃ i, (s.selectFollow b).entry = some i ∧ (s.anu.entries.get i).textMark = true) :
    s.followBerth b = s.publish b (s.selectFollow b) := by
  unfold State.followBerth
  refine if_neg fun ⟨hsame, hmark⟩ => ?_
  obtain h | ⟨i, hi, hmarked⟩ := h
  · exact h hsame
  · rw [hi] at hmark
    exact Bool.noConfusion (hmarked.symm.trans hmark)

theorem State.followBerth_keeps (hsame : s.selectFollow b = s.anu.follow.get b)
    (h : ¬∃ i, (s.selectFollow b).entry = some i ∧ (s.anu.entries.get i).textMark = true) : s.followBerth b = s := by
  unfold State.followBerth
  refine if_pos ⟨hsame, ?_⟩
  split
  · next i hi => exact Bool.eq_false_iff.2 fun hmark => h ⟨i, hi, hmark⟩
  · rfl

theorem State.followBerth_follow : (s.followBerth b).anu.follow.get b = s.selectFollow b := by
  by_cases h : s.selectFollow b = s.anu.follow.get b ∧
      ¬∃ i, (s.selectFollow b).entry = some i ∧ (s.anu.entries.get i).textMark = true
  · rw [s.followBerth_keeps b h.1 h.2, h.1]
  · rw [s.followBerth_publishes b (by rw [not_and_or, not_not] at h; exact h), State.publish_anu, Table.get_set_self]

theorem State.followBerth_selectionView (a : Fin 4) (h : b ≠ a) :
    (s.followBerth a).selectionView b = s.selectionView b := by
  obtain heq | heq := s.followBerth_cases a <;> rw [heq]
  obtain ⟨-, hother, -⟩ := s.publish_takes a (s.selectFollow a)
  obtain ⟨-, hwku, hbcu, -⟩ := hother b h
  simp only [State.selectionView, hwku, hbcu, State.publish_anu, State.publish_frame, Table.get_set_of_ne _ _ (Ne.symm h)]

theorem State.evaluate_follow (hconf : s.configured b = true) :
    s.evaluate.anu.follow.get b = s.evaluateTable.selectFollow b := by
  have hcfl : s.evaluateTable.cfl = s.cfl := by simp
  have hmem : b ∈ s.evaluateTable.configuredBerths := by
    have : s.evaluateTable.configured b = true := (State.configured_of_cfl hcfl b).trans hconf
    simp [State.configuredBerths, mem_indices, this]
  obtain ⟨u, hu, hend⟩ := (foldl_at (V := fun (t : State) b => t.selectionView b) (f := fun s b => s.followBerth b)
    (fun t a c hc => t.followBerth_selectionView c a hc) ((indices_nodup 4).filter _) s.evaluateTable b).2 hmem
  have hfollow := congrArg (fun v => v.2.2.2.1) hend
  exact hfollow.trans ((u.followBerth_follow b).trans (State.selectFollow_congr hu))

end evaluation

/-- Settles O32. -/
theorem followIsOfTheBestClass : Obligations.FollowIsOfTheBestClass := by
  refine ⟨fun s b => ⟨State.selectFollow_nothing, fun i f hf => ?best, fun g => State.incumbent_eq_some_iff, fun g hg hmin => ?kept⟩,
    fun s b => ⟨s.followBerth_keeps b, s.followBerth_publishes b, s.evaluate_follow b⟩, fun s b new => s.publish_takes b new⟩
  case best =>
    cases hbest : s.bestEntry b with
    | none => exact nomatch hf.symm.trans (State.bestEntry_eq_none.1 hbest i)
    | some x =>
      obtain ⟨j, hj, hall⟩ := State.bestEntry_best hbest
      obtain ⟨hsel, -⟩ | ⟨hinc, hrank⟩ := State.selectFollow_cases hbest
      · rw [hsel]
        exact ⟨j, hj, (hall i f hf).imp id fun ⟨heq, h⟩ => ⟨heq, .inr h⟩⟩
      · obtain ⟨k, -, -, hk⟩ := State.incumbent_eq_some_iff.1 hinc
        refine ⟨k, hk, ?_⟩
        rw [hrank]
        exact (hall i f hf).imp id fun ⟨heq, _⟩ => ⟨heq, .inl hinc⟩
  case kept =>
    obtain ⟨k, -, -, hk⟩ := State.incumbent_eq_some_iff.1 hg
    cases hbest : s.bestEntry b with
    | none => exact nomatch hk.symm.trans (State.bestEntry_eq_none.1 hbest k)
    | some x =>
      obtain ⟨j, hj, hall⟩ := State.bestEntry_best hbest
      have hle := hmin j x hj
      have hge := hall k g hk
      obtain ⟨-, hno⟩ | ⟨hinc, -⟩ := State.selectFollow_cases hbest
      · exact absurd (by omega) (hno g hg)
      · exact Option.some.inj (hinc.symm.trans hg)

end Sys2Proof.Machine
end

section
/-!
PROOFS. A frame start at which no event is asked to come before the others: its stages, and what each leaves; the trunk's own state
after flywheels and marks (O9 to O12).
-/

namespace Sys2Proof.Machine

/-! ### The stages of a plain frame start (R8, R18) -/

section stages
variable (fs : FrameStart) (e : FrameEnd) (tick : Bool) (s : State)

/-- What a cycle tick counts and samples. -/
def State.startCounted : State := if tick then s.cycleTick fs else s

/-- R132: the completions of a tick in LISTEN. -/
def State.startCompleted : State := if tick && s.listens e fs.order.bcuOld then s.bcuCompletions else s

/-- R116: the lanes' data frame end. -/
def State.startLanes : State := if e.isData then s.lcuFrameEnd e.abandoned e.done else s

/-- R94: ALRT, where it is sampled late. -/
def State.startAlert : State := if tick && fs.order.alrtLate then s.sampleAlrt fs.pins.alrtPeer else s

/-- R61, R71, R156: the data frame end of the other blocks. -/
def State.startEnded : State := if e.isData then s.dataFrameEnd e fs.order else s

/-- R25, R29, R89: the tables' tick. -/
def State.startTabled : State := if tick then s.tablesTick (s.listens e fs.order.anuOld) else s

/-- R106: the grant point of frame 13. -/
def State.startGranted : State := if s.tlu.frame = 13 ∧ s.onTrunk then s.grantPoint else s

/-- Everything up to the tables, the feeds and the grant point. -/
def State.startPrepared : State :=
  ((((s.discardCollected.startCounted fs tick).startCompleted fs e tick).startLanes e).startAlert fs tick).startEnded fs e

theorem State.startFrame_plain (h : fs.plain) : s.startFrame fs e =
    (((s.startPrepared fs e (decide (s.tlu.frame = 0))).startTabled fs e (decide (s.tlu.frame = 0))).feedFrame e
      fs.order).startGranted := by
  obtain ⟨hlink, hend, htick⟩ := h
  unfold State.startFrame
  dsimp only
  rw [hlink, hend, htick]
  rfl

/-! What the stages leave of the state that they do not speak of. -/

@[simp] theorem State.startCounted_tlu : (s.startCounted fs tick).tlu = if tick then s.tlu.tick else s.tlu := by
  unfold State.startCounted
  split <;> simp

@[simp] theorem State.startCounted_frame : (s.startCounted fs tick).pending = s.pending ∧
    (s.startCounted fs tick).counters = s.counters ∧ (s.startCounted fs tick).cfl = s.cfl ∧
    (s.startCounted fs tick).smu = s.smu ∧ (s.startCounted fs tick).rsp = s.rsp ∧ (s.startCounted fs tick).lcu = s.lcu ∧
    (s.startCounted fs tick).bfs = s.bfs := by
  unfold State.startCounted
  split <;> simp

@[simp] theorem State.startCompleted_frame : (s.startCompleted fs e tick).pending = s.pending ∧
    (s.startCompleted fs e tick).cfl = s.cfl ∧ (s.startCompleted fs e tick).svl = s.svl ∧
    (s.startCompleted fs e tick).tlu = s.tlu ∧ (s.startCompleted fs e tick).smu = s.smu ∧
    (s.startCompleted fs e tick).asp = s.asp ∧ (s.startCompleted fs e tick).rsp = s.rsp ∧
    (s.startCompleted fs e tick).cmu = s.cmu ∧ (s.startCompleted fs e tick).anu = s.anu ∧
    (s.startCompleted fs e tick).lcu = s.lcu ∧ (s.startCompleted fs e tick).bfs = s.bfs ∧
    (s.startCompleted fs e tick).mix = s.mix ∧ (s.startCompleted fs e tick).wku = s.wku := by
  unfold State.startCompleted
  split <;> simp

@[simp] theorem State.startLanes_frame : (s.startLanes e).pending = s.pending ∧ (s.startLanes e).cfl = s.cfl ∧
    (s.startLanes e).svl = s.svl ∧ (s.startLanes e).tlu = s.tlu ∧ (s.startLanes e).smu = s.smu ∧
    (s.startLanes e).asp = s.asp ∧ (s.startLanes e).rsp = s.rsp ∧ (s.startLanes e).cmu = s.cmu ∧
    (s.startLanes e).anu = s.anu ∧ (s.startLanes e).bcu = s.bcu ∧ (s.startLanes e).bfs = s.bfs ∧
    (s.startLanes e).mix = s.mix ∧ (s.startLanes e).wku = s.wku := by
  unfold State.startLanes
  split <;> simp

@[simp] theorem State.startAlert_frame : (s.startAlert fs tick).pending = s.pending ∧
    (s.startAlert fs tick).counters = s.counters ∧ (s.startAlert fs tick).cfl = s.cfl ∧
    (s.startAlert fs tick).svl = s.svl ∧ (s.startAlert fs tick).tlu = s.tlu ∧ (s.startAlert fs tick).smu = s.smu ∧
    (s.startAlert fs tick).asp = s.asp ∧ (s.startAlert fs tick).rsp = s.rsp ∧ (s.startAlert fs tick).cmu = s.cmu ∧
    (s.startAlert fs tick).lcu = s.lcu ∧ (s.startAlert fs tick).bcu = s.bcu ∧ (s.startAlert fs tick).bfs = s.bfs ∧
    (s.startAlert fs tick).mix = s.mix ∧ (s.startAlert fs tick).wku = s.wku ∧ (s.startAlert fs tick).sfu = s.sfu := by
  unfold State.startAlert
  split <;> simp

@[simp] theorem State.startEnded_frame : (s.startEnded fs e).pending = s.pending ∧ (s.startEnded fs e).counters = s.counters ∧
    (s.startEnded fs e).cfl = s.cfl ∧ (s.startEnded fs e).svl = s.svl ∧ (s.startEnded fs e).tlu = s.tlu ∧
    (s.startEnded fs e).smu = s.smu ∧ (s.startEnded fs e).asp = s.asp ∧ (s.startEnded fs e).anu = s.anu ∧
    (s.startEnded fs e).lcu = s.lcu ∧ (s.startEnded fs e).bcu = s.bcu ∧ (s.startEnded fs e).bfs = s.bfs ∧
    (s.startEnded fs e).wku = s.wku ∧ (s.startEnded fs e).sfu = s.sfu := by
  unfold State.startEnded
  split <;> simp

@[simp] theorem State.startTabled_frame : (s.startTabled fs e tick).pending = s.pending ∧
    (s.startTabled fs e tick).cfl = s.cfl ∧ (s.startTabled fs e tick).svl = s.svl ∧ (s.startTabled fs e tick).tlu = s.tlu ∧
    (s.startTabled fs e tick).asp = s.asp ∧ (s.startTabled fs e tick).lcu = s.lcu ∧
    (s.startTabled fs e tick).bfs = s.bfs := by
  unfold State.startTabled
  split <;> simp

@[simp] theorem State.startGranted_frame : (s.startGranted).pending = s.pending ∧ (s.startGranted).cfl = s.cfl ∧
    (s.startGranted).svl = s.svl ∧ (s.startGranted).tlu = s.tlu ∧ (s.startGranted).smu = s.smu ∧
    (s.startGranted).asp = s.asp ∧ (s.startGranted).rsp = s.rsp ∧ (s.startGranted).cmu = s.cmu ∧
    (s.startGranted).anu = s.anu ∧ (s.startGranted).bcu = s.bcu ∧ (s.startGranted).bfs = s.bfs ∧
    (s.startGranted).mix = s.mix ∧ (s.startGranted).wku = s.wku ∧ (s.startGranted).sfu = s.sfu := by
  unfold State.startGranted
  split <;> simp

/-- The trunk's own counters of two states agree. -/
def State.sameTrunkCounters (s t : State) : Prop :=
  t.counters.get 0 = s.counters.get 0 ∧ t.counters.get 1 = s.counters.get 1 ∧ t.counters.get 2 = s.counters.get 2 ∧
    t.counters.get 3 = s.counters.get 3

theorem State.sameTrunkCounters.trans {s t u : State} (hst : s.sameTrunkCounters t) (htu : t.sameTrunkCounters u) :
    s.sameTrunkCounters u := by
  obtain ⟨h0, h1, h2, h3⟩ := hst
  obtain ⟨k0, k1, k2, k3⟩ := htu
  exact ⟨k0.trans h0, k1.trans h1, k2.trans h2, k3.trans h3⟩

theorem State.sameTrunkCounters_of_eq {s t : State} (h : t.counters = s.counters) : s.sameTrunkCounters t := by
  unfold State.sameTrunkCounters
  rw [h]
  exact ⟨rfl, rfl, rfl, rfl⟩

theorem State.startCompleted_trunkCounters : s.sameTrunkCounters (s.startCompleted fs e tick) := by
  unfold State.startCompleted
  split
  · exact s.bcuCompletions_trunk
  · exact State.sameTrunkCounters_of_eq rfl

theorem State.startLanes_trunkCounters : s.sameTrunkCounters (s.startLanes e) := by
  unfold State.startLanes
  split
  · exact s.lcuFrameEnd_trunk e.abandoned e.done
  · exact State.sameTrunkCounters_of_eq rfl

theorem State.startTabled_trunkCounters : s.sameTrunkCounters (s.startTabled fs e tick) := by
  unfold State.startTabled
  split
  · exact s.tablesTick_trunk _
  · exact State.sameTrunkCounters_of_eq rfl

theorem State.startGranted_trunkCounters : s.sameTrunkCounters s.startGranted := by
  unfold State.startGranted
  split
  · simp [State.sameTrunkCounters]
  · exact State.sameTrunkCounters_of_eq rfl

/-- R10, R11: a plain frame start counts nothing of the trunk. -/
theorem State.startFrame_trunkCounters (h : fs.plain) : s.sameTrunkCounters (s.startFrame fs e) := by
  have hcounted : s.sameTrunkCounters (s.discardCollected.startCounted fs (decide (s.tlu.frame = 0))) :=
    State.sameTrunkCounters_of_eq (by simp)
  have hrest : ∀ u : State, u.sameTrunkCounters ((u.startAlert fs (decide (s.tlu.frame = 0))).startEnded fs e) := fun u =>
    State.sameTrunkCounters_of_eq (by simp)
  have hprepared : s.sameTrunkCounters (s.startPrepared fs e (decide (s.tlu.frame = 0))) :=
    (hcounted.trans (State.startCompleted_trunkCounters fs e _ _)).trans
      ((State.startLanes_trunkCounters e _).trans (hrest _))
  rw [State.startFrame_plain fs e s h]
  exact (hprepared.trans (State.startTabled_trunkCounters fs e _ _)).trans
    (State.sameTrunkCounters.trans (State.feedFrame_trunk _ e fs.order) (State.startGranted_trunkCounters _))

/-- R19: of the TLU's state a plain frame start changes only what a cycle tick counts. -/
theorem State.startFrame_tlu (h : fs.plain) :
    (s.startFrame fs e).tlu = if s.tlu.frame = 0 then s.tlu.tick else s.tlu := by
  rw [State.startFrame_plain fs e s h]
  simp [State.startPrepared]

end stages
end Sys2Proof.Machine
end

section
/-!
PROOFS. The commands that start a frame, with nothing due: marks on the trunk and in LISTEN (O11, O12).
-/

namespace Sys2Proof.Machine

/-! ### The outcome of a mark and of a flywheel start -/

section outcome
variable {fs : FrameStart} {s : State}

theorem exec_markRecognised (hdue : s.nothingDue) {run start : Nat} (hstart : start ≤ 495) :
    exec (.markRecognised run start fs) s = .next (s.markOutcome run start fs) := by
  have h := execMarkRecognised_eq run hstart fs s
  rwa [State.settle_of_nothingDue hdue] at h

theorem exec_flywheel (hdue : s.nothingDue) (late : LateRun) :
    exec (.flywheel ⟨late, fs⟩) s = .next (s.flywheelOutcome ⟨late, fs⟩) := by
  have h := execFlywheel_eq ⟨late, fs⟩ s
  rwa [State.settle_of_nothingDue hdue] at h

/-- R3: the form of a run of at least 12 bit times. -/
def runForm (run : Nat) : MarkForm := if run = 12 then .f else .c

theorem markForm_of_le {run : Nat} (h : 12 ≤ run) : markForm run = some (runForm run) := by
  unfold markForm runForm
  rw [if_neg (by omega)]
  split <;> rfl

theorem runForm_f : runForm 12 = .f := rfl

theorem runForm_c {run : Nat} (h : 13 ≤ run) : runForm run = .c := if_neg (by omega)

theorem frameAfter_run (run n : Nat) : frameAfter (runForm run) n = if run = 12 then (n + 1) % 25 else 0 := by
  unfold runForm
  split <;> rfl

/-- A mark that is neither taken already nor disregarded starts its frame. -/
theorem State.markOutcome_starts {run start : Nat} (hrun : 12 ≤ run) (hlink : s.tlu.link ≠ .loading)
    (hopening : s.isOpeningMark start = false)
    (hfollow : ¬(isMidFrame start = true ∧ s.onTrunk = true ∧ s.cfg.trunkPolicy = .ignore)) :
    s.markOutcome run start fs = (s.markBegun (runForm run) start).startFrame fs (s.frameEnd (isMidFrame start)) := by
  unfold State.markOutcome
  rw [markForm_of_le hrun]
  dsimp only
  unfold State.takeMark
  rw [if_neg (by simp [hlink, hopening]), if_neg hfollow]
  rfl

theorem State.isOpeningMark_late {start : Nat} (h : 1 ≤ start) : s.isOpeningMark start = false := by
  have : start ≠ 0 := by omega
  simp [State.isOpeningMark, this]

theorem isMidFrame_iff {start : Nat} : isMidFrame start = true ↔ 1 ≤ start ∧ start ≤ 415 := decide_eq_true_iff

theorem isMidFrame_zero : isMidFrame 0 = false := rfl

theorem State.onTrunk_of_listen (h : s.tlu.link = .listen) : s.onTrunk = false := by simp [State.onTrunk, h]

end outcome

/-! ### The counters of a mark (R8, R10) -/

section countMark
variable (form : MarkForm) (start : Nat) (s : State)

theorem State.markBegun_counters : (s.markBegun form start).counters = (s.countMark form (isMidFrame start)).counters := rfl

theorem State.countMark_listen (h : s.tlu.link = .listen) (mid : Bool) : s.countMark form mid = s := by
  simp [State.countMark, State.onTrunk_of_listen h]

theorem State.countMark_counter (h : s.onTrunk = true) (mid : Bool) (c : Counter) : (s.countMark form mid).counter c =
    if (c = .earlyMarks ∧ mid = true) ∨ (c = .cycleSlips ∧ isSlip form s.tlu.frame = true) then satInc (s.counter c)
    else s.counter c := by
  unfold State.countMark
  rw [if_pos h]
  dsimp only
  cases mid <;> cases hslip : isSlip form s.tlu.frame <;> simp [State.counter_bump, eq_comm]
  by_cases h1 : c = .earlyMarks
  · subst h1
    simp
  · simp [h1]

theorem isSlip_run {run n : Nat} (hrun : 13 ≤ run) (hn : n < 24) : isSlip (runForm run) n = true := by
  have : (n + 1) % 25 ≠ 0 := by omega
  simp [isSlip, runForm_c hrun, nextFrame, this]

theorem not_isSlip_run {run n : Nat} (h : run = 12 ∨ n = 24) : isSlip (runForm run) n = false := by
  rcases h with rfl | rfl <;> simp [isSlip, runForm, nextFrame]

theorem State.startFrame_counter {fs : FrameStart} (hplain : fs.plain) (e : FrameEnd) (t : State) :
    (t.startFrame fs e).counter .earlyMarks = t.counter .earlyMarks ∧
      (t.startFrame fs e).counter .ignoredMarks = t.counter .ignoredMarks ∧
      (t.startFrame fs e).counter .cycleSlips = t.counter .cycleSlips ∧
      (t.startFrame fs e).counter .linkDrops = t.counter .linkDrops := by
  obtain ⟨h0, h1, h2, h3⟩ := t.startFrame_trunkCounters fs e hplain
  exact ⟨h0, h1, h2, h3⟩

end countMark

/-! ### Marks in LISTEN (R12) -/

section listen
variable {t : Tlu} {form : MarkForm} {mid : Bool} (foreign : Bool)

theorem Tlu.followMark_listen (h : t.link = .listen) : t.followMark form mid foreign =
    if (acquire form mid t.candidate).2 = true then
      { t with candidate := (acquire form mid t.candidate).1, link := .locked, sinceForeign := 0 }
    else { t with candidate := (acquire form mid t.candidate).1, inListen := t.inListen + 1 } := by
  unfold Tlu.followMark
  rw [h]

theorem Tlu.followMark_waits (h : t.link = .listen) (hacquire : (acquire form mid t.candidate).2 = false) :
    t.followMark form mid foreign =
      { t with candidate := (acquire form mid t.candidate).1, inListen := t.inListen + 1 } := by
  rw [Tlu.followMark_listen foreign h, hacquire]
  rfl

theorem acquire_f (mid : Bool) (c : Option Nat) : (acquire .f mid c).2 = false := by
  cases c with
  | none => rfl
  | some n =>
    unfold acquire
    dsimp only
    split <;> rfl

theorem acquire_c_restarts {mid : Bool} {c : Option Nat}
    (h : c = none ∨ (∃ n, n < 24 ∧ c = some n) ∨ (c = some 24 ∧ mid = true)) : acquire .c mid c = (some 0, false) := by
  rcases h with rfl | ⟨n, hn, rfl⟩ | ⟨rfl, rfl⟩
  · rfl
  · simp [acquire, hn.ne]
  · rfl

end listen

/-- Settles O12: the mark is followed, and the candidate moves by `acquire`. -/
theorem acquisitionFollowsTheTable : Obligations.AcquisitionFollowsTheTable := by
  intro run start fs s hdue hplain hrun hopen hstart hlisten mid
  have hmid : isMidFrame start = true ↔ mid := isMidFrame_iff
  have hopening : s.isOpeningMark start = false := by
    rcases hopen with h | h
    · exact State.isOpeningMark_late h
    · simp [State.isOpeningMark, h]
  have hexec := (exec_markRecognised hdue hstart (run := run) (fs := fs)).trans (congrArg _ (State.markOutcome_starts
    hrun (by simp [hlisten]) hopening (by simp [State.onTrunk_of_listen hlisten])))
  refine ⟨_, hexec, ?_⟩
  obtain ⟨hearly, hignored, hslips, -⟩ := (s.markBegun (runForm run) start).startFrame_counter hplain
    (s.frameEnd (isMidFrame start))
  have hcount : ∀ c, (s.markBegun (runForm run) start).counter c = s.counter c := fun c => by
    rw [State.counter, State.markBegun_counters, State.countMark_listen _ s hlisten]
    rfl
  have htlu : ∀ {β : Type} (f : Tlu → β), (∀ t, f t.tick = f t) →
      f ((s.markBegun (runForm run) start).startFrame fs (s.frameEnd (isMidFrame start))).tlu =
        f (s.markBegun (runForm run) start).tlu := by
    intro β f hf
    rw [State.startFrame_tlu _ _ _ hplain]
    split
    · exact hf _
    · rfl
  have hframe := htlu Tlu.frame fun _ => rfl
  have hlink := htlu Tlu.link fun _ => rfl
  have hcand := htlu Tlu.candidate fun _ => rfl
  have hin := htlu Tlu.inListen fun _ => rfl
  have hsince := htlu Tlu.sinceForeign fun _ => rfl
  rw [hearly, hignored, hslips, hcount, hcount, hcount, hframe, hlink, hcand, hin, hsince, State.markBegun_tlu]
  have hnumber : ∀ t : Tlu, (t.newFrame (frameAfter (runForm run) s.tlu.frame) 13 true).frame =
      if run = 12 then (s.tlu.frame + 1) % 25 else 0 := fun t => frameAfter_run run s.tlu.frame
  refine ⟨fun h => ?_, fun h => ?_, rfl, rfl, rfl, fun h hnot hc => ?_, fun h hc => ?_, fun h => ?_, fun n h hnot hn hc => ?_,
    fun h hc => ?_⟩
  · rw [hnumber, if_neg (by omega)]
  · rw [hnumber, if_pos h]
  · have hmidf : isMidFrame start = false := Bool.eq_false_iff.2 fun h => hnot (hmid.1 h)
    have hacq : acquire .c false (some 24) = (some 24, true) := rfl
    rw [runForm_c h, hmidf, Tlu.followMark_listen _ hlisten, hc, hacq]
    exact ⟨rfl, rfl⟩
  · rw [runForm_c h, Tlu.followMark_waits _ hlisten, acquire_c_restarts]
    · exact ⟨hlisten, rfl, rfl⟩
    · simpa only [hmid] using hc
    · rw [acquire_c_restarts (by simpa only [hmid] using hc)]
  · subst h
    rw [runForm_f, Tlu.followMark_waits _ hlisten (acquire_f _ _)]
    exact ⟨hlisten, rfl⟩
  · subst h
    have hmidf : isMidFrame start = false := Bool.eq_false_iff.2 fun h => hnot (hmid.1 h)
    rw [runForm_f, Tlu.followMark_waits _ hlisten (acquire_f _ _), hmidf, hc]
    simp [acquire, hn, Tlu.newFrame]
  · subst h
    rw [runForm_f, Tlu.followMark_waits _ hlisten (acquire_f _ _)]
    have hnone : (acquire .f (isMidFrame start) s.tlu.candidate).1 = none := by
      rcases hc with hc | hc | hc
      · simp [acquire, hc]
      · rw [hmid.2 hc]
        cases s.tlu.candidate <;> rfl
      · rw [hc]
        rfl
    exact hnone

/-! ### The node's own marks, and marks that are disregarded (R4, R11, R14) -/

/-- A mark of its own leaves the link and counts a frame without a foreign one. -/
theorem Tlu.followMark_own {t : Tlu} (h : t.link = .locked ∨ t.link = .leading) (form : MarkForm) (mid : Bool) :
    t.followMark form mid false = { t with sinceForeign := min (t.sinceForeign + 1) 25 } := by
  rcases h with h | h <;> simp [Tlu.followMark, h, countForeign]

/-- Settles O11. -/
theorem ownMarksStartFramesAndIgnoredMarksCount : Obligations.OwnMarksStartFramesAndIgnoredMarksCount := by
  intro run fs s hdue hrun hlink
  have htrunk : s.onTrunk = true := State.onTrunk_iff.2 hlink
  have hne : s.tlu.link ≠ .loading := by rcases hlink with h | h <;> simp [h]
  refine ⟨fun hplain hown => ?own, fun hnone hmarked => ?opening, fun start h1 h415 hignore => ?ignored⟩
  case own =>
    have hsome : s.tlu.ownMark.isSome = true := Option.isSome_iff_ne_none.2 hown
    have hownMark : s.isOwnMark 0 = true := by simp [State.isOwnMark, hsome]
    have hopening : s.isOpeningMark 0 = false := by simp [State.isOpeningMark, hown]
    have hexec := (exec_markRecognised hdue (Nat.zero_le 495) (run := run) (fs := fs)).trans (congrArg _
      (State.markOutcome_starts hrun hne hopening (by simp [isMidFrame_zero])))
    refine ⟨_, hexec, by simp [State.markBegun], by simp, ?_⟩
    obtain ⟨hearly, hignored, hslips, -⟩ := (s.markBegun (runForm run) 0).startFrame_counter hplain (s.frameEnd (isMidFrame 0))
    have hcount := fun c => State.countMark_counter (runForm run) s htrunk false c
    have hbegun : ∀ c, (s.markBegun (runForm run) 0).counter c = (s.countMark (runForm run) false).counter c := fun _ => rfl
    rw [hearly, hignored, hslips, hbegun, hbegun, hbegun, hcount, hcount, hcount, State.startFrame_tlu _ _ _ hplain]
    have hbegunTlu : (s.markBegun (runForm run) 0).tlu =
        { s.tlu with sinceForeign := min (s.tlu.sinceForeign + 1) 25 }.newFrame (frameAfter (runForm run) s.tlu.frame) 13 true := by
      rw [State.markBegun_tlu, hownMark]
      exact congrArg (fun t => Tlu.newFrame _ _ _ t) (Tlu.followMark_own hlink _ _)
    rw [hbegunTlu, frameAfter_run]
    generalize hn : (if run = 12 then (s.tlu.frame + 1) % 25 else 0) = n
    have h13 : 13 ≤ run → n = 0 := fun h => by rw [← hn, if_neg (by omega)]
    have h12 : run = 12 → n = (s.tlu.frame + 1) % 25 := fun h => by rw [← hn, if_pos h]
    have hslip : 13 ≤ run → s.tlu.frame < 24 → isSlip (runForm run) s.tlu.frame = true := isSlip_run
    have hnoslip : run = 12 ∨ s.tlu.frame = 24 → isSlip (runForm run) s.tlu.frame = false := not_isSlip_run
    by_cases h0 : n = 0
    · simp only [Tlu.newFrame, h0, if_true, Tlu.tick]
      refine ⟨trivial, trivial, trivial, trivial, trivial, trivial, fun _ => trivial, fun h => ?_, fun h h' => ?_, fun h => ?_,
        fun _ => ⟨trivial, trivial⟩, nofun, ?_, ?_⟩
      · rw [← h12 h, h0]
      · simp [hslip h h']
      · simp [hnoslip h]
      · simp
      · simp
    · simp only [Tlu.newFrame, h0, if_false]
      refine ⟨trivial, trivial, trivial, trivial, trivial, trivial, fun h => absurd (h13 h) h0, h12, fun h h' => ?_, fun h => ?_,
        nofun, fun _ => ⟨trivial, trivial⟩, ?_, ?_⟩
      · simp [hslip h h']
      · simp [hnoslip h]
      · simp
      · simp
  case opening =>
    have hopening : s.isOpeningMark 0 = true := by simp [State.isOpeningMark, hnone, hmarked]
    rw [exec_markRecognised hdue (Nat.zero_le 495), State.markOutcome, markForm_of_le hrun]
    simp [State.takeMark, hopening]
  case ignored =>
    rw [exec_markRecognised hdue (by omega), State.markOutcome, markForm_of_le hrun]
    have hmid : isMidFrame start = true := isMidFrame_iff.2 ⟨h1, h415⟩
    simp only [State.takeMark]
    rw [if_neg (by simp [hne, State.isOpeningMark_late h1]), if_pos ⟨hmid, htrunk, hignore⟩]
    rfl

end Sys2Proof.Machine
end

section
/-!
PROOFS. The cycle tick: wants, holdings and parity counts, inputs and timers.
-/

namespace Sys2Proof.Machine

/-! ### What a source wants (R29) -/

theorem eq_cmuHolding {h : Fin 11} : sourceOf h = .cmu → h = cmuHolding := by
  revert h
  decide

theorem State.wants_congr {s t : State} (hcfl : t.cfl = s.cfl)
    (htalk : ∀ c, (t.asp.talk.get c).deb.active = (s.asp.talk.get c).deb.active)
    {h : Fin 11} (hqueue : h = cmuHolding → t.cmu.queue.isEmpty = s.cmu.queue.isEmpty) : t.wants h = s.wants h := by
  have hcfg : t.cfg = s.cfg := by rw [State.cfg, hcfl]; rfl
  have hvalid : t.addressValid = s.addressValid := by rw [State.addressValid, hcfl]; rfl
  unfold State.wants
  rw [hcfg, hvalid]
  simp only [htalk]
  split
  · rfl
  · rfl
  · next hsource => rw [hqueue (eq_cmuHolding hsource)]

theorem Cmu.restart_isEmpty (c : Cmu) : c.restart.queue.isEmpty = c.queue.isEmpty := by
  unfold Cmu.restart
  cases c.queue <;> rfl

/-! ### A holding at a cycle tick (R29, R39) -/

/-- R29, R39: a holding after a cycle tick, by whether its source wants the trunk. -/
def Holding.ticked (x : Holding) (wanted : Bool) : Holding :=
  match x.state, wanted with
  | .inactive, true => { x with state := .seeking, first := none }
  | .inactive, false | .seeking, true | .held, true => x
  | .seeking, false | .held, false => { x with state := .inactive, first := none, attempts := 0 }
  | .backoff, true => if x.backoff ≤ 1 then { x with backoffDue := true } else { x with backoff := x.backoff - 1 }
  | .backoff, false => { x with state := .inactive, attempts := 0, backoffDue := false }

section holdingTick
variable (h : Fin 11) (s : State)

theorem State.sourceReleased_only : s.sourceReleased h =
    { s with rsp := (s.sourceReleased h).rsp, cmu := (s.sourceReleased h).cmu } := by
  unfold State.sourceReleased
  split
  · rfl
  · rfl
  · split <;> rfl

theorem State.sourceReleased_cmu : (s.sourceReleased h).cmu = s.cmu ∨ (s.sourceReleased h).cmu = s.cmu.restart := by
  unfold State.sourceReleased
  split
  · exact .inl rfl
  · exact .inl rfl
  · split
    · exact .inr rfl
    · exact .inl rfl

theorem State.leaveHeld_smu (x : Holding) : (s.leaveHeld h x).smu =
    { s.smu with holdings := s.smu.holdings.set h x, map := disown s.smu.map h } := by
  unfold State.leaveHeld
  rw [State.sourceReleased_only]

/-- R29: a holding's tick keeps it, writes it, or lets it leave HELD. -/
theorem State.holdingTick_eq : s.holdingTick h =
    if (s.holding h).state = .held ∧ s.wants h = false then s.leaveHeld h ((s.holding h).ticked (s.wants h))
    else s.setHolding h ((s.holding h).ticked (s.wants h)) := by
  have hself : s.setHolding h (s.holding h) = s := by simp [State.setHolding, State.holding]
  unfold State.holdingTick
  dsimp only
  generalize hx : s.holding h = x at hself ⊢
  cases hstate : x.state <;> cases hwants : s.wants h <;> simp [Holding.ticked, hstate, hself]
  split <;> rfl

theorem State.holdingTick_holding : (s.holdingTick h).holding h = (s.holding h).ticked (s.wants h) := by
  rw [State.holdingTick_eq]
  split
  · rw [State.holding, State.leaveHeld_smu]
    exact Table.get_set_self _ _ _
  · simp [State.setHolding, State.holding]

theorem State.holdingTick_holding_other {g : Fin 11} (hg : g ≠ h) : (s.holdingTick h).holding g = s.holding g := by
  rw [State.holdingTick_eq]
  split
  · rw [State.holding, State.leaveHeld_smu]
    exact Table.get_set_of_ne _ _ (Ne.symm hg)
  · simp [State.setHolding, State.holding, Ne.symm hg]

/-- R22: the slots that are a holding's own after its tick. -/
theorem State.holdingTick_own (k : Fin 40) : ((s.holdingTick h).smu.map.get k).own =
    if ((s.holding h).state = .held ∧ s.wants h = false) ∧ (s.smu.map.get k).own = some h then none
    else (s.smu.map.get k).own := by
  rw [State.holdingTick_eq]
  by_cases hleave : (s.holding h).state = .held ∧ s.wants h = false
  · rw [if_pos hleave, State.leaveHeld_smu]
    by_cases hown : (s.smu.map.get k).own = some h <;> simp [disown, hleave, hown]
  · rw [if_neg hleave, if_neg fun hand => hleave hand.1]
    rfl

theorem State.holdingTick_cmu : (s.holdingTick h).cmu = s.cmu ∨ (s.holdingTick h).cmu = s.cmu.restart := by
  rw [State.holdingTick_eq]
  split
  · exact State.sourceReleased_cmu h _
  · exact .inl rfl

theorem State.holdingTick_wants (g : Fin 11) : (s.holdingTick h).wants g = s.wants g := by
  refine State.wants_congr (by simp) (fun c => by simp) fun _ => ?_
  obtain heq | heq := s.holdingTick_cmu h <;> rw [heq]
  exact s.cmu.restart_isEmpty

/-- What a tick leaves of the map: tags, ages, and the running counts. -/
theorem State.holdingTick_map (k : Fin 40) : ((s.holdingTick h).smu.map.get k).tag = (s.smu.map.get k).tag ∧
    ((s.holdingTick h).smu.map.get k).age = (s.smu.map.get k).age ∧ (s.holdingTick h).smu.running = s.smu.running ∧
    (s.holdingTick h).smu.collected = s.smu.collected ∧ (s.holdingTick h).smu.results = s.smu.results ∧
    (s.holdingTick h).smu.locator = s.smu.locator := by
  rw [State.holdingTick_eq]
  split
  · rw [State.leaveHeld_smu]
    simp only [disown, Table.get_map, and_true]
    split <;> exact ⟨rfl, rfl⟩
  · exact ⟨rfl, rfl, rfl, rfl, rfl, rfl⟩

/-! ### The unit's tick (R25, R29) -/

/-- The holdings' part of the tick. -/
def State.holdingsTicked (s : State) : State := (indices 11).foldl (fun s h => s.holdingTick h) s

theorem State.holdingsTicked_eq : s.holdingsTicked = (indices 11).foldl (fun s h => s.holdingTick h) s := rfl

/-- What every holding's tick keeps, the holdings' ticks keep. -/
theorem State.holdingsTicked_keeps {I : State → Prop} (hI : ∀ t g, I t → I (t.holdingTick g)) (hs : I s) : I s.holdingsTicked := by
  rw [State.holdingsTicked_eq]
  exact foldl_keeps hI (indices 11) hs

/-- What the tick of one holding speaks of. -/
def State.holdingView (s : State) (h : Fin 11) : Holding × Bool × (Fin 40 → Bool) :=
  (s.holding h, s.wants h, fun k => decide ((s.smu.map.get k).own = some h))

theorem State.holdingTick_view (g h : Fin 11) (hg : g ≠ h) : (s.holdingTick h).holdingView g = s.holdingView g := by
  unfold State.holdingView
  rw [State.holdingTick_holding_other h s hg, State.holdingTick_wants]
  have hown : ∀ k, ((s.holdingTick h).smu.map.get k).own = some g ↔ (s.smu.map.get k).own = some g := fun k => by
    rw [State.holdingTick_own]
    split
    · next hand => simp [hand.2, Ne.symm hg]
    · rfl
  simp only [hown]

theorem State.holdingsTicked_view : s.holdingsTicked.holding h = (s.holding h).ticked (s.wants h) ∧
    ∀ k, (s.holdingsTicked.smu.map.get k).own = some h ↔
      (s.smu.map.get k).own = some h ∧ ¬((s.holding h).state = .held ∧ s.wants h = false) := by
  obtain ⟨u, hu, hend⟩ := (foldl_at (V := State.holdingView) (fun t a b hb => State.holdingTick_view t b a hb) (indices_nodup 11) s h).2
    (mem_indices h)
  rw [← State.holdingsTicked_eq] at hend
  simp only [State.holdingView, Prod.mk.injEq, funext_iff, decide_eq_decide] at hu hend
  obtain ⟨hholding, hwants, hown⟩ := hu
  obtain ⟨hholding', hwants', hown'⟩ := hend
  refine ⟨?_, fun k => ?_⟩
  · exact hholding'.trans (by rw [State.holdingTick_holding, hholding, hwants])
  · refine (hown' k).trans ?_
    rw [State.holdingTick_own, hholding, hwants, ← hown k]
    by_cases hleave : (s.holding h).state = .held ∧ s.wants h = false
    · by_cases hk : (u.smu.map.get k).own = some h <;> simp [hleave, hk]
    · simp [hleave]

theorem State.holdingsTicked_wants : s.holdingsTicked.wants h = s.wants h :=
  s.holdingsTicked_keeps (I := fun t => t.wants h = s.wants h) (fun t g ht => (t.holdingTick_wants g h).trans ht) rfl

theorem State.holdingsTicked_map (k : Fin 40) : (s.holdingsTicked.smu.map.get k).tag = (s.smu.map.get k).tag ∧
    (s.holdingsTicked.smu.map.get k).age = (s.smu.map.get k).age ∧ s.holdingsTicked.smu.running = s.smu.running ∧
    s.holdingsTicked.smu.collected = s.smu.collected ∧ s.holdingsTicked.smu.results = s.smu.results ∧
    s.holdingsTicked.smu.locator = s.smu.locator := by
  refine s.holdingsTicked_keeps (I := fun t => (t.smu.map.get k).tag = (s.smu.map.get k).tag ∧
    (t.smu.map.get k).age = (s.smu.map.get k).age ∧ t.smu.running = s.smu.running ∧ t.smu.collected = s.smu.collected ∧
    t.smu.results = s.smu.results ∧ t.smu.locator = s.smu.locator) (fun t g ht => ?_) ⟨rfl, rfl, rfl, rfl, rfl, rfl⟩
  obtain ⟨h1, h2, h3, h4, h5, h6⟩ := t.holdingTick_map g k
  obtain ⟨k1, k2, k3, k4, k5, k6⟩ := ht
  exact ⟨h1.trans k1, h2.trans k2, h3.trans k3, h4.trans k4, h5.trans k5, h6.trans k6⟩

theorem State.holdingsTicked_cmu : s.holdingsTicked.cmu.prescaler = s.cmu.prescaler ∧
    s.holdingsTicked.cmu.queue.isEmpty = s.cmu.queue.isEmpty := by
  refine s.holdingsTicked_keeps (I := fun t => t.cmu.prescaler = s.cmu.prescaler ∧ t.cmu.queue.isEmpty = s.cmu.queue.isEmpty)
    (fun t g ht => ?_) ⟨rfl, rfl⟩
  obtain heq | heq := t.holdingTick_cmu g
  · rw [heq]
    exact ht
  · rw [heq]
    exact ⟨ht.1, (t.cmu.restart_isEmpty).trans ht.2⟩

theorem State.smuTick_eq : s.smuTick = { s.holdingsTicked with smu := { s.holdingsTicked.smu with
    map := s.holdingsTicked.smu.map.mapIdx fun k e => { e with parityErrors := s.holdingsTicked.smu.running.get k }
    running := Table.replicate 40 0 } } := by
  unfold State.smuTick
  rw [State.holdingsTicked_eq]

theorem State.smuTick_wants : s.smuTick.wants h = s.wants h := by
  have hmap : ∀ (u : State) (x : Smu), ({ u with smu := x } : State).wants h = u.wants h := fun u x =>
    State.wants_congr rfl (fun _ => rfl) fun _ => rfl
  rw [State.smuTick_eq, hmap, State.holdingsTicked_wants]

theorem State.smuTick_holding : s.smuTick.holding h = (s.holding h).ticked (s.wants h) := by
  rw [State.smuTick_eq, ← (s.holdingsTicked_view h).1]
  generalize s.holdingsTicked = u
  rfl

theorem State.smuTick_own (k : Fin 40) : (s.smuTick.smu.map.get k).own = some h ↔
    (s.smu.map.get k).own = some h ∧ ¬((s.holding h).state = .held ∧ s.wants h = false) := by
  rw [State.smuTick_eq]
  simpa using (s.holdingsTicked_view h).2 k

/-- What the tick leaves of the unit. -/
theorem State.smuTick_only : s.smuTick.smu = { s.smu with
    map := s.smuTick.smu.map, running := s.smuTick.smu.running, holdings := s.smuTick.smu.holdings } := by
  obtain ⟨-, -, -, hcollected, hresults, hlocator⟩ := s.holdingsTicked_map 0
  rw [State.smuTick_eq]
  generalize s.holdingsTicked = u at hcollected hresults hlocator ⊢
  simp only [hcollected, hresults, hlocator]

theorem Holding.ticked_wantTaken (x : Holding) (wanted : Bool) :
    (wanted = true →
      (x.state = .inactive → x.ticked wanted = { x with state := .seeking, first := none }) ∧
      (x.state = .seeking ∨ x.state = .held → x.ticked wanted = x) ∧
      (x.state = .backoff → 2 ≤ x.backoff → x.ticked wanted = { x with backoff := x.backoff - 1 }) ∧
      (x.state = .backoff → x.backoff ≤ 1 → x.ticked wanted = { x with backoffDue := true })) ∧
    (wanted = false →
      (x.state = .inactive → x.ticked wanted = x) ∧
      (x.state = .seeking → x.ticked wanted = { x with state := .inactive, first := none, attempts := 0 }) ∧
      (x.state = .backoff → x.ticked wanted = { x with state := .inactive, attempts := 0, backoffDue := false }) ∧
      (x.state = .held → x.ticked wanted = { x with state := .inactive, first := none, attempts := 0 })) := by
  refine ⟨?_, ?_⟩
  · rintro rfl
    refine ⟨fun h => ?_, fun h => ?_, fun h hb => ?_, fun h hb => ?_⟩
    · simp [Holding.ticked, h]
    · rcases h with h | h <;> simp [Holding.ticked, h]
    · have : ¬x.backoff ≤ 1 := by omega
      simp [Holding.ticked, h, this]
    · simp [Holding.ticked, h, hb]
  · rintro rfl
    refine ⟨fun h => ?_, fun h => ?_, fun h => ?_, fun h => ?_⟩ <;> simp [Holding.ticked, h]

end holdingTick

/-- A state in which the tables have ticked has its holdings and parity counts ticked. -/
theorem wantTaken_of_smuTick {s p t : State} {h : Fin 11} (hholding : p.holding h = s.holding h)
    (ht : t.smu = p.smuTick.smu) (hwants : t.wants h = p.wants h) : WantTaken s t h (t.wants h) := by
  have hown := fun k => p.smuTick_own h k
  obtain ⟨hyes, hno⟩ := (s.holding h).ticked_wantTaken (t.wants h)
  have hy : t.holding h = (s.holding h).ticked (t.wants h) := by
    rw [State.holding, ht, hwants, ← hholding]
    exact p.smuTick_holding h
  unfold WantTaken
  dsimp only
  rw [hy, ht]
  refine ⟨hyes, fun hw => ?_⟩
  obtain ⟨hi, hs, hb, hh⟩ := hno hw
  refine ⟨hi, hs, hb, fun hheld => ⟨hh hheld, fun k hk => ?_⟩⟩
  exact ((hown k).1 hk).2 ⟨by rw [hholding]; exact hheld, by rw [← hwants]; exact hw⟩

theorem parityCopied_of_smuTick {s p t : State} (hmap : p.smu.map = s.smu.map) (hrunning : p.smu.running = s.smu.running)
    (ht : t.smu = p.smuTick.smu) : ParityCopied s t := by
  intro k
  obtain ⟨htag, hage, hrun, -⟩ := p.holdingsTicked_map k
  rw [ht, State.smuTick_eq]
  simp [htag, hage, hrun, hmap, hrunning]

/-! ### The inputs that a tick samples (R51, R94, R125) -/

theorem Debouncer.sample_eq (d : Debouncer) (level : Bool) : d.sample level = d.sampledAt level := by
  unfold Debouncer.sample Debouncer.sampledAt
  split <;> rfl

theorem Debouncer.sample_active (d : Debouncer) (level : Bool) : (d.sample level).active = d.active := by
  rw [Debouncer.sample_eq]
  rfl

theorem State.drivesAlrt_congr {s t : State} (hcfl : t.cfl = s.cfl)
    (htalk : ∀ c, (t.asp.talk.get c).deb.active = (s.asp.talk.get c).deb.active) : t.drivesAlrt = s.drivesAlrt := by
  have hcfg : t.cfg = s.cfg := by rw [State.cfg, hcfl]; rfl
  unfold State.drivesAlrt
  rw [hcfg]
  simp only [htalk]

section cycleTick
variable (fs : FrameStart) (s : State)

theorem State.sampleTalk_active (high : Table 4 Bool) (c : Fin 4) :
    ((s.sampleTalk high).asp.talk.get c).deb.active = (s.asp.talk.get c).deb.active := by
  simp only [State.sampleTalk, Table.get_mapIdx]
  split
  · exact Debouncer.sample_active _ _
  · rfl

/-- The cycle tick, its alert sample apart. -/
theorem State.cycleTick_fields : (s.cycleTick fs).asp = (s.sampleTalk fs.pins.talkHigh).asp ∧
    (s.cycleTick fs).bcu = (s.bcuTick fs.pins).bcu ∧ (s.cycleTick fs).mix = s.mix.map MixBerth.tick ∧
    (s.cycleTick fs).wku = s.wku.map (fun w => { w with hold := holdTick w.hold }) ∧
    (s.cycleTick fs).sfu = s.sfuTick.sfu ∧ (s.cycleTick fs).svl = s.svlTick.svl ∧
    (s.cycleTick fs).cmu = { s.cmu with prescaler := s.cmu.prescaler - 1 } ∧
    (s.cycleTick fs).anu = if fs.order.alrtLate = true then s.anu
      else { s.anu with alert := s.anu.alert.sample (fs.pins.alrtPeer || s.drivesAlrt) } := by
  have hdrives : ((({ s with tlu := s.tlu.tick } : State).bcuTick fs.pins).sampleTalk fs.pins.talkHigh).drivesAlrt = s.drivesAlrt :=
    State.drivesAlrt_congr (by simp) fun c => State.sampleTalk_active _ _ c
  unfold State.cycleTick
  dsimp only
  cases fs.order.alrtLate with
  | true =>
    refine ⟨?_, ?_, ?_, ?_, ?_, ?_, ?_, ?_⟩
    · simp; rfl
    · simp; rfl
    · simp [State.mixTick]
    · simp [State.wkuTick]
    · simp [State.sfuTick]
    · simp [State.svlTick]
    · simp
    · simp
  | false =>
    refine ⟨?_, ?_, ?_, ?_, ?_, ?_, ?_, ?_⟩
    · simp; rfl
    · simp; rfl
    · simp [State.mixTick]
    · simp [State.wkuTick]
    · simp [State.sfuTick]
    · simp [State.svlTick]
    · simp
    · simp [State.sampleAlrt, hdrives]

theorem State.cycleTick_talkActive (c : Fin 4) :
    ((s.cycleTick fs).asp.talk.get c).deb.active = (s.asp.talk.get c).deb.active := by
  obtain ⟨hasp, -⟩ := s.cycleTick_fields fs
  rw [hasp]
  exact s.sampleTalk_active _ c

/-- The samples of a tick, in a state that has the tick's talk inputs, panel inputs and alert line. -/
theorem inputsSampled_of {t : State} (htalk : t.asp.talk = (s.cycleTick fs).asp.talk)
    (halert : t.anu.alert = s.anu.alert.sample (fs.pins.alrtPeer || s.drivesAlrt))
    (hbcu : ∀ b, (t.bcu.get b).inputs = ((s.cycleTick fs).bcu.get b).inputs) : InputsSampled fs s t := by
  obtain ⟨hasp, hbcu', -⟩ := s.cycleTick_fields fs
  refine ⟨fun c => ?_, by rw [halert, Debouncer.sample_eq], fun b i => ?_⟩
  · rw [htalk, hasp]
    simp only [State.sampleTalk, Table.get_mapIdx, Debouncer.sample_eq]
    rfl
  · rw [hbcu, hbcu']
    simp only [State.bcuTick, Table.get_mapIdx]
    split
    · next hconf =>
      have hlevel : ((fs.pins.panelHigh.get b).get i == (s.berthCfg b).polarityHigh) =
          decide ((fs.pins.panelHigh.get b).get i = (s.berthCfg b).polarityHigh) := rfl
      simp only [Berth.tick, Berth.sample, Table.get_mapIdx, Debouncer.sample_eq, hlevel]
    · rfl

/-- The timers of a tick, in a state that has the tick's berths, levels, wake contexts, feeds, gap timer and prescaler. -/
theorem timersCounted_of {t : State} (hbcu : t.bcu = (s.cycleTick fs).bcu)
    (hmix : ∀ b, t.mix.get b = { (s.cycleTick fs).mix.get b with pair := (t.mix.get b).pair })
    (hwku : t.wku = (s.cycleTick fs).wku) (hsfu : t.sfu.feeds = (s.cycleTick fs).sfu.feeds)
    (hsvl : t.svl = (s.cycleTick fs).svl) (hhold : ∀ b p q, (s.wku.get b).hold = some (p, q) → q ≠ 0) (hprescaler : t.cmu.prescaler = (s.cycleTick fs).cmu.prescaler) :
    TimersCounted s t := by
  obtain ⟨-, hbcu', hmix', hwku', hsfu', hsvl', hcmu', -⟩ := s.cycleTick_fields fs
  refine ⟨fun b hconf => ?_, fun b => ?_, fun b => ?_, fun b => ?_, ?_, ?_⟩
  · rw [hbcu, hbcu']
    simp only [State.bcuTick, Table.get_mapIdx, hconf, if_true]
    rfl
  · dsimp only
    rw [hmix b, hmix']
    simp only [Table.get_map]
    refine ⟨fun l => ?_, rfl, rfl, rfl⟩
    cases l <;> rfl
  · rw [hwku, hwku']
    simp only [Table.get_map]
    refine ⟨fun hnone => ?_, fun p q hsome => ?_⟩
    · rw [hnone]
      simp [holdTick, ← hnone]
    · rw [hsome]
      have hq : q ≠ 0 := hhold b p q hsome
      by_cases hp : p ≤ 1 <;> simp [holdTick, hq, hp]
  · have hfeed : t.feed b = { s.feed b with
        waitKey := countDown (s.feed b).waitKey, overlay := (s.feed b).overlay.map Overlay.tick } := by
      rw [State.feed, hsfu, hsfu', State.sfuTick]
      simp [State.feed]
    dsimp only
    rw [hfeed]
    refine ⟨rfl, fun hnone => by simp [hnone], fun o ho => ?_⟩
    simp only [ho, Option.map_some, Option.some.injEq]
    refine ⟨fun hp => ?_, fun hp hs => ?_, fun hp hs => ?_⟩
    · simp [Overlay.tick, hp]
    · simp [Overlay.tick, hp, hs]
    · simp [Overlay.tick, hp, hs]
  · rw [hsvl, hsvl']
    rfl
  · rw [hprescaler, hcmu']

end cycleTick
end Sys2Proof.Machine
end

section
/-!
PROOFS. The start of a frame 0 on the trunk, and of a data frame: what reaches each block.
-/

namespace Sys2Proof.Machine

theorem Cmu.frameEnd_prescaler (held abandoned : Bool) (frame : Nat) (c : Cmu) :
    (c.frameEnd held abandoned frame).prescaler = c.prescaler := by
  unfold Cmu.frameEnd
  repeat' split
  all_goals rfl

section frameStart
variable {fs : FrameStart} {e : FrameEnd} {u : State}

/-! ### Before the tables -/

theorem State.lcuFrameEnd_whole (h : e.abandoned = false) (s : State) :
    s.lcuFrameEnd e.abandoned e.done = { s with lcu := { s.lcu with lanes := s.lcu.lanes.map Lane.frameEnd } } := by
  rw [h]
  rfl

/-- No record in progress is lost at the end of a frame that no mark cut. -/
theorem State.startLanes_sfu (h : e.isData = false ∨ e.abandoned = false) (s : State) :
    (s.startLanes e).sfu = s.sfu ∧ (s.startLanes e).counters = s.counters := by
  unfold State.startLanes
  split
  · next hdata =>
    rw [State.lcuFrameEnd_whole (h.resolve_left (by simp [hdata]))]
    exact ⟨rfl, rfl⟩
  · exact ⟨rfl, rfl⟩

theorem State.startEnded_mix (s : State) (b : Fin 4) :
    (s.startEnded fs e).mix.get b = { s.mix.get b with pair := ((s.startEnded fs e).mix.get b).pair } := by
  have hend : ∀ t : State, t.mixFrameEnd.mix.get b = { t.mix.get b with pair := (t.mixFrameEnd.mix.get b).pair } := fun t => by
    simp only [State.mixFrameEnd, Table.get_mapIdx]
    split <;> rfl
  have hmix : (s.dataFrameEnd e fs.order).mix = s.mixFrameEnd.mix := by
    unfold State.dataFrameEnd
    dsimp only
    split <;> simp
  unfold State.startEnded
  split
  · rw [hmix]
    exact hend s
  · rfl

theorem State.startEnded_prescaler (s : State) : (s.startEnded fs e).cmu.prescaler = s.cmu.prescaler := by
  unfold State.startEnded State.dataFrameEnd
  dsimp only
  split
  · split
    · simp
    · simp [State.cmuFrameEnd, Cmu.frameEnd_prescaler]
  · rfl

/-- R132: on the trunk a tick completes nothing. -/
theorem State.startPrepared_trunk (tick : Bool) (hlink : u.tlu.link ≠ .listen) (hwas : e.wasListen = false) :
    u.startPrepared fs e tick =
      (((u.discardCollected.startCounted fs tick).startLanes e).startAlert fs tick).startEnded fs e := by
  have hlisten : (u.discardCollected.startCounted fs tick).listens e fs.order.bcuOld = false := by
    cases tick <;> simp [State.listens, hwas, Tlu.tick, hlink]
  unfold State.startPrepared
  rw [State.startCompleted, hlisten, Bool.and_false]
  rfl

/-! ### The feeds of a frame 0 -/

theorem State.feedFrame_zero (o : FrameOrder) {s : State} (h : s.tlu.frame = 0) : s.feedFrame e o =
    if e.isData && o.cmuStartFirst then
      ({ s with asp := { s.asp with afs := false }, bfs := false } : State).cmuFrameEnd e.ended e.abandoned
    else { s with asp := { s.asp with afs := false }, bfs := false } := by
  have hasp : s.aspFrameStart = { s with asp := { s.asp with afs := false } } := if_pos h
  have hmix : ({ s with asp := { s.asp with afs := false } } : State).mixFrameStart =
      { s with asp := { s.asp with afs := false }, bfs := false } := if_pos h
  unfold State.feedFrame
  dsimp only
  rw [hasp, hmix]
  dsimp only
  rw [if_pos h]

/-- What the feeds of a frame 0 leave. -/
theorem State.feedFrame_zero_keeps (o : FrameOrder) {s : State} (h : s.tlu.frame = 0) :
    (s.feedFrame e o).counters = s.counters ∧ (s.feedFrame e o).mix = s.mix ∧
      (s.feedFrame e o).cmu.prescaler = s.cmu.prescaler ∧ (s.feedFrame e o).asp = { s.asp with afs := false } ∧
      (s.feedFrame e o).rsp = s.rsp ∧ ((e.isData = false ∨ o.cmuStartFirst = false) → (s.feedFrame e o).cmu = s.cmu) := by
  rw [State.feedFrame_zero o h]
  split
  · next hlate =>
    obtain ⟨hdata, hfirst⟩ := Bool.and_eq_true_iff.1 hlate
    refine ⟨rfl, rfl, Cmu.frameEnd_prescaler _ _ _ _, rfl, rfl, fun hor => ?_⟩
    rcases hor with hor | hor <;> simp [hor] at hdata hfirst
  · exact ⟨rfl, rfl, rfl, rfl, rfl, fun _ => rfl⟩

/-! ### A cycle tick on the trunk -/

/-- The stages of a plain start of frame 0 on the trunk. -/
theorem State.startFrame_tick (hplain : fs.plain) (hframe : u.tlu.frame = 0) (hlink : u.tlu.link ≠ .listen)
    (hwas : e.wasListen = false) :
    u.startFrame fs e = (u.startPrepared fs e true).smuTick.feedFrame e fs.order ∧
      u.startPrepared fs e true =
        (((u.discardCollected.cycleTick fs).startLanes e).startAlert fs true).startEnded fs e := by
  have hprepared := State.startPrepared_trunk (fs := fs) true hlink hwas
  refine ⟨?_, hprepared⟩
  have htlu : (u.startPrepared fs e true).tlu = u.tlu.tick := by
    rw [hprepared]
    simp
  have hlisten : (u.startPrepared fs e true).listens e fs.order.anuOld = false := by
    simp [State.listens, htlu, hwas, Tlu.tick, hlink]
  rw [State.startFrame_plain fs e u hplain, decide_eq_true hframe]
  have htabled : (u.startPrepared fs e true).startTabled fs e true = (u.startPrepared fs e true).smuTick := by
    rw [State.startTabled, hlisten]
    rfl
  rw [htabled, State.startGranted, if_neg]
  simp [htlu, Tlu.tick, hframe]

section tick
variable (hplain : fs.plain) (hframe : u.tlu.frame = 0) (hlink : u.tlu.link ≠ .listen) (hwas : e.wasListen = false)
include hplain hframe hlink hwas

theorem State.startFrame_tick_smu : (u.startFrame fs e).smu = (u.startPrepared fs e true).smuTick.smu ∧
    (u.startPrepared fs e true).smu = u.discardCollected.smu := by
  obtain ⟨hstart, hprepared⟩ := State.startFrame_tick hplain hframe hlink hwas
  refine ⟨?_, ?_⟩
  · rw [hstart]
    simp
  · rw [hprepared]
    simp

theorem State.startFrame_tick_frameNumber : (u.startPrepared fs e true).smuTick.tlu.frame = 0 := by
  rw [(State.startFrame_tick hplain hframe hlink hwas).2]
  simpa [Tlu.tick] using hframe

/-- The wants that the tick took, but for the control stream's where a message leaves its queue after them. -/
theorem State.startFrame_tick_wants {h : Fin 11} (hcmu : h ≠ cmuHolding ∨ e.isData = false ∨ fs.order.cmuStartFirst = false) :
    (u.startFrame fs e).wants h = (u.startPrepared fs e true).wants h := by
  obtain ⟨-, -, -, hasp, -, hkeep⟩ := State.feedFrame_zero_keeps (e := e) fs.order
    (State.startFrame_tick_frameNumber hplain hframe hlink hwas)
  rw [(State.startFrame_tick hplain hframe hlink hwas).1, ← State.smuTick_wants h (u.startPrepared fs e true)]
  refine State.wants_congr (by simp) (fun c => by rw [hasp]) fun heq => ?_
  rw [hkeep (hcmu.resolve_left fun hne => hne heq)]

/-- R29, R39: the holdings at the tick. -/
theorem State.startFrame_tick_wantTaken {h : Fin 11} (hcmu : h ≠ cmuHolding ∨ e.isData = false ∨ fs.order.cmuStartFirst = false) :
    WantTaken u (u.startFrame fs e) h ((u.startFrame fs e).wants h) := by
  obtain ⟨hsmu, hprepared⟩ := State.startFrame_tick_smu hplain hframe hlink hwas
  exact wantTaken_of_smuTick (by rw [State.holding, hprepared]; rfl) hsmu
    (State.startFrame_tick_wants hplain hframe hlink hwas hcmu)

theorem State.startFrame_tick_parity : ParityCopied u (u.startFrame fs e) := by
  obtain ⟨hsmu, hprepared⟩ := State.startFrame_tick_smu hplain hframe hlink hwas
  exact parityCopied_of_smuTick (by rw [hprepared]; rfl) (by rw [hprepared]; rfl) hsmu

/-- R51, R94, R125: the samples of the tick; ALRT early or late. -/
theorem State.startFrame_tick_inputs : InputsSampled fs u (u.startFrame fs e) := by
  obtain ⟨-, -, -, hasp, -⟩ := State.feedFrame_zero_keeps (e := e) fs.order
    (State.startFrame_tick_frameNumber hplain hframe hlink hwas)
  obtain ⟨hstart, hprepared⟩ := State.startFrame_tick hplain hframe hlink hwas
  have hdrives : ((u.discardCollected.cycleTick fs).startLanes e).drivesAlrt = u.drivesAlrt :=
    State.drivesAlrt_congr (by simp) fun c => by
      simp only [State.startLanes_frame]
      exact State.cycleTick_talkActive _ _ _
  obtain ⟨-, -, -, -, -, -, -, hanu⟩ := u.discardCollected.cycleTick_fields fs
  refine inputsSampled_of fs u.discardCollected ?_ ?_ fun b => ?_
  · rw [hstart, hasp]
    simp [hprepared]
  · have halert : ((u.discardCollected.cycleTick fs).startLanes e |>.startAlert fs true).anu.alert =
        u.anu.alert.sample (fs.pins.alrtPeer || u.drivesAlrt) := by
      cases horder : fs.order.alrtLate with
      | true =>
        simp only [State.startAlert, horder, Bool.and_self, if_true, State.sampleAlrt, hdrives, State.startLanes_frame, hanu]
        rfl
      | false =>
        simp only [State.startAlert, horder, Bool.and_false, Bool.false_eq_true, if_false, State.startLanes_frame, hanu]
        rfl
    rw [hstart]
    simp only [State.feedFrame_frame, State.smuTick_frame, hprepared, State.startEnded_frame, halert]
    rfl
  · rw [hstart]
    simp [hprepared]

/-- The timers that the tick counts, where no mark cut a data frame. -/
theorem State.startFrame_tick_timers (hwhole : e.isData = false ∨ e.abandoned = false)
    (hhold : ∀ b p q, (u.wku.get b).hold = some (p, q) → q ≠ 0) : TimersCounted u (u.startFrame fs e) := by
  obtain ⟨-, hmix, hprescaler, -⟩ := State.feedFrame_zero_keeps (e := e) fs.order
    (State.startFrame_tick_frameNumber hplain hframe hlink hwas)
  obtain ⟨hstart, hprepared⟩ := State.startFrame_tick hplain hframe hlink hwas
  refine timersCounted_of fs u.discardCollected ?_ (fun b => ?_) ?_ ?_ ?_ hhold ?_
  · rw [hstart]
    simp [hprepared]
  · rw [hstart, hmix]
    simp only [State.smuTick_frame, hprepared]
    rw [State.startEnded_mix]
    simp
  · rw [hstart]
    simp [hprepared]
  · rw [hstart]
    simp only [State.feedFrame_frame, State.smuTick_frame, hprepared, State.startEnded_frame, State.startAlert_frame,
      (State.startLanes_sfu hwhole _).1]
  · rw [hstart]
    simp [hprepared]
  · obtain ⟨htick, -⟩ := State.holdingsTicked_cmu (u.startPrepared fs e true)
    have hsmu : (u.startPrepared fs e true).smuTick.cmu = (u.startPrepared fs e true).holdingsTicked.cmu := by
      rw [State.smuTick_eq]
    rw [hstart, hprescaler, hsmu, htick, hprepared, State.startEnded_prescaler]
    simp

end tick

/-! ### The start of a data frame -/

/-- The stages of a plain start of a data frame. -/
theorem State.startFrame_noTick (hplain : fs.plain) (hframe : u.tlu.frame ≠ 0) :
    u.startFrame fs e = (((u.discardCollected.startLanes e).startEnded fs e).feedFrame e fs.order).startGranted := by
  rw [State.startFrame_plain fs e u hplain, decide_eq_false hframe]
  rfl

end frameStart

/-! ### What a command that starts a frame leaves before it -/

/-- With nothing due no hold timer has run out. -/
theorem State.hold_ne_zero {s : State} (h : s.nothingDue) (b : Fin 4) (p q : Nat) (hhold : (s.wku.get b).hold = some (p, q)) :
    q ≠ 0 := by
  rintro rfl
  have hmem : Event.holdTimer b ∈ s.dueEvents := by
    have hover : (s.wku.get b).holdOver = true := by simp [Wake.holdOver, hhold]
    simp only [State.dueEvents, State.dueBerths, List.mem_append, List.mem_flatMap]
    exact .inl (.inr (.inl (.inr ⟨b, mem_indices b, by simp [dueIf, hover]⟩)))
  rw [h] at hmem
  exact nomatch hmem

end Sys2Proof.Machine
end

section
/-!
PROOFS. The commands that start a frame, the state in which it begins, and what the start leaves of the trunk (O9, O10).
-/

namespace Sys2Proof.Machine

/-! ### The state in which a frame begins -/

/-- A frame begins: the TLU has its number, and the trunk's counters have counted its mark. -/
structure FrameBegun (s u : State) (n : Nat) : Prop where
  rest : u = { s with tlu := u.tlu, counters := u.counters }
  frame : u.tlu.frame = n
  ticked : u.tlu.silenced = s.tlu.silenced ∧ u.tlu.cyc = s.tlu.cyc ∧ u.tlu.cycleCount = s.tlu.cycleCount
  trunk : s.tlu.link = .locked ∨ s.tlu.link = .leading → u.tlu.link = .locked ∨ u.tlu.link = .leading
  listen : s.tlu.link = .listen → u.tlu.link = .listen ∨ u.tlu.link = .locked
  counters : ∀ c, c ≠ .earlyMarks → c ≠ .cycleSlips → u.counter c = s.counter c

section begun
variable {s u : State} {n : Nat}

theorem FrameBegun.fields (h : FrameBegun s u n) : u.pending = s.pending ∧ u.cfl = s.cfl ∧ u.svl = s.svl ∧ u.smu = s.smu ∧
    u.asp = s.asp ∧ u.rsp = s.rsp ∧ u.cmu = s.cmu ∧ u.anu = s.anu ∧ u.lcu = s.lcu ∧ u.bcu = s.bcu ∧ u.bfs = s.bfs ∧
    u.mix = s.mix ∧ u.wku = s.wku ∧ u.sfu = s.sfu := by
  rw [h.rest]
  exact ⟨rfl, rfl, rfl, rfl, rfl, rfl, rfl, rfl, rfl, rfl, rfl, rfl, rfl, rfl⟩

/-- What is said of the state before the tick is said of the state before the command. -/
theorem FrameBegun.ticks (h : FrameBegun s u n) {fs : FrameStart} {t : State} :
    (ParityCopied u t → ParityCopied s t) ∧ (∀ g w, WantTaken u t g w → WantTaken s t g w) ∧
      (InputsSampled fs u t → InputsSampled fs s t) ∧ (TimersCounted u t → TimersCounted s t) := by
  rw [h.rest]
  exact ⟨id, fun _ _ => id, id, id⟩

theorem flywheelBegun_begun (bitTime : Nat) (s : State) : FrameBegun s (s.flywheelBegun bitTime) ((s.tlu.frame + 1) % 25) := by
  have hlink := s.tlu.flywheel_link bitTime
  refine ⟨rfl, ?_, ?_, fun h => ?_, fun h => ?_, fun _ _ _ => rfl⟩
  · show (s.tlu.flywheel bitTime).frame = _
    unfold Tlu.flywheel
    dsimp only
    split <;> rfl
  · show (s.tlu.flywheel bitTime).silenced = _ ∧ (s.tlu.flywheel bitTime).cyc = _ ∧ (s.tlu.flywheel bitTime).cycleCount = _
    unfold Tlu.flywheel
    dsimp only
    split <;> exact ⟨rfl, rfl, rfl⟩
  · rw [← hlink] at h
    exact h
  · rw [← hlink] at h
    exact .inl h

theorem Tlu.followMark_ticked (form : MarkForm) (mid foreign : Bool) (t : Tlu) :
    (t.followMark form mid foreign).silenced = t.silenced ∧ (t.followMark form mid foreign).cyc = t.cyc ∧
      (t.followMark form mid foreign).cycleCount = t.cycleCount ∧ (t.followMark form mid foreign).frame = t.frame := by
  unfold Tlu.followMark
  dsimp only
  repeat' split
  all_goals exact ⟨rfl, rfl, rfl, rfl⟩

theorem State.markBegun_rest (form : MarkForm) (start : Nat) (s : State) : s.markBegun form start =
    { s with tlu := (s.markBegun form start).tlu, counters := (s.markBegun form start).counters } := by
  ext1 <;> simp [State.markBegun]

theorem State.markBegun_counter (form : MarkForm) (start : Nat) (s : State) {c : Counter} (h1 : c ≠ .earlyMarks)
    (h2 : c ≠ .cycleSlips) : (s.markBegun form start).counter c = s.counter c := by
  have hcount : (s.markBegun form start).counter c = (s.countMark form (isMidFrame start)).counter c := rfl
  rw [hcount]
  cases htrunk : s.onTrunk with
  | true =>
    rw [State.countMark_counter form s htrunk, if_neg]
    rintro (⟨h, -⟩ | ⟨h, -⟩)
    · exact h1 h
    · exact h2 h
  | false => simp [State.countMark, htrunk]

theorem markBegun_begun (form : MarkForm) (start : Nat) (s : State) :
    FrameBegun s (s.markBegun form start) (frameAfter form s.tlu.frame) := by
  obtain ⟨hsilenced, hcyc, hcount, -⟩ := s.tlu.followMark_ticked form (isMidFrame start) (!s.isOwnMark start)
  have hlink := s.tlu.followMark_link_cases form (isMidFrame start) (!s.isOwnMark start)
  refine ⟨State.markBegun_rest form start s, ?_, ?_, fun h => ?_, fun h => ?_, fun _ => s.markBegun_counter form start⟩
  · rw [State.markBegun_tlu]
    rfl
  · rw [State.markBegun_tlu]
    exact ⟨hsilenced, hcyc, hcount⟩
  · rw [State.markBegun_tlu]
    obtain heq | ⟨-, heq⟩ := hlink
    · exact h.imp heq.trans heq.trans
    · exact .inl heq
  · rw [State.markBegun_tlu]
    obtain heq | ⟨-, heq⟩ := hlink
    · exact .inl (heq.trans h)
    · exact .inr heq

/-- A command that starts frame `n` after a frame that no mark cut begins it in such a state. -/
theorem startsFrame_begins {c : Instr} {fs : FrameStart} (hdue : s.nothingDue) (h : StartsFrame s fs n c) :
    ∃ u, exec c s = .next (u.startFrame fs (s.frameEnd false)) ∧ FrameBegun s u n := by
  rcases h with ⟨rfl, rfl, hlate, hlink⟩ | ⟨run, start, rfl, hrun, rfl, hstart⟩
  · refine ⟨s.flywheelBegun 16, ?_, flywheelBegun_begun 16 s⟩
    have hflywheels : s.flywheels = true := by
      have hne : s.tlu.link ≠ .loading := by rcases hlink with h | ⟨h, -⟩ <;> simp [h]
      simp [State.flywheels, State.mayMark_eq_false hlink, hne]
    rw [exec_flywheel hdue]
    simp only [State.flywheelOutcome, hflywheels, if_true, hlate]
    rfl
  · refine ⟨s.markBegun (runForm run) start, ?_, ?_⟩
    · have hbound : start ≤ 495 := by rcases hstart with ⟨-, h, -⟩ | ⟨rfl, -⟩ <;> omega
      have hmid : isMidFrame start = false := by
        rcases hstart with ⟨h, -, -⟩ | ⟨rfl, -⟩
        · exact decide_eq_false (by omega)
        · rfl
      rw [exec_markRecognised hdue hbound, State.markOutcome_starts hrun ?_ ?_ (by simp [hmid]), hmid]
      · rcases hstart with ⟨-, -, h⟩ | ⟨-, -, h⟩
        · exact h
        · rcases h with h | h <;> simp [h]
      · rcases hstart with ⟨h, -, -⟩ | ⟨rfl, hown, -⟩
        · exact State.isOpeningMark_late (by omega)
        · simp [State.isOpeningMark, hown]
    · rw [← frameAfter_run]
      exact markBegun_begun _ _ _

end begun

/-! ### Frames that a tick opens, and frames that none opens -/

section starts
variable {s u : State} {fs : FrameStart} {e : FrameEnd}

/-- R17, R19: what a plain start of frame 0 leaves of the cycle's own state. -/
theorem FrameBegun.tick_tlu (h : FrameBegun s u 0) (hplain : fs.plain) :
    (u.startFrame fs e).tlu.frame = 0 ∧ (u.startFrame fs e).tlu.cyc = (!s.tlu.cyc) ∧
      (u.startFrame fs e).tlu.cycleCount = s.tlu.cycleCount + 1 ∧
      ∀ g, (u.startFrame fs e).tlu.silenced.get g = false := by
  obtain ⟨-, hcyc, hcount⟩ := h.ticked
  rw [State.startFrame_tlu fs e u hplain, if_pos h.frame]
  refine ⟨h.frame, ?_, ?_, fun g => by simp [Tlu.tick]⟩
  · rw [← hcyc]; rfl
  · rw [← hcount]; rfl

/-- R25, R29, R39, R51, R94, R125: what a plain start of frame 0 takes on the trunk. -/
theorem FrameBegun.tick_takes (h : FrameBegun s u 0) (hplain : fs.plain) (hlink : s.tlu.link = .locked ∨ s.tlu.link = .leading)
    (hwas : e.wasListen = false) : ParityCopied s (u.startFrame fs e) ∧ InputsSampled fs s (u.startFrame fs e) ∧
      ∀ g, g ≠ cmuHolding ∨ e.isData = false ∨ fs.order.cmuStartFirst = false →
        WantTaken s (u.startFrame fs e) g ((u.startFrame fs e).wants g) := by
  have hne : u.tlu.link ≠ .listen := by rcases h.trunk hlink with h | h <;> simp [h]
  obtain ⟨hparity, hwant, hinputs, -⟩ := h.ticks (fs := fs) (t := u.startFrame fs e)
  exact ⟨hparity (State.startFrame_tick_parity hplain h.frame hne hwas),
    hinputs (State.startFrame_tick_inputs hplain h.frame hne hwas),
    fun g hg => hwant g _ (State.startFrame_tick_wantTaken hplain h.frame hne hwas hg)⟩

theorem FrameBegun.tick_timers (h : FrameBegun s u 0) (hplain : fs.plain) (hdue : s.nothingDue)
    (hlink : s.tlu.link = .locked ∨ s.tlu.link = .leading) (hwas : e.wasListen = false)
    (hwhole : e.isData = false ∨ e.abandoned = false) : TimersCounted s (u.startFrame fs e) := by
  have hne : u.tlu.link ≠ .listen := by rcases h.trunk hlink with h | h <;> simp [h]
  obtain ⟨-, -, -, htimers⟩ := h.ticks (fs := fs) (t := u.startFrame fs e)
  obtain ⟨-, -, -, -, -, -, -, -, -, -, -, -, hwku, -⟩ := h.fields
  exact htimers (State.startFrame_tick_timers hplain h.frame hne hwas hwhole (by rw [hwku]; exact State.hold_ne_zero hdue))

/-- What a plain start of a data frame leaves as it was. -/
theorem FrameBegun.noTick_keeps {n : Nat} (h : FrameBegun s u n) (hplain : fs.plain) (hn : n ≠ 0) :
    (u.startFrame fs e).tlu = u.tlu ∧ (u.startFrame fs e).bcu = s.bcu ∧ (u.startFrame fs e).wku = s.wku ∧
      (u.startFrame fs e).anu = s.anu ∧ (u.startFrame fs e).svl = s.svl ∧ (u.startFrame fs e).asp.talk = s.asp.talk ∧
      (u.startFrame fs e).smu = { s.smu with collected := Table.replicate 40 none, results := [] } ∧
      (e.isData = false ∨ e.abandoned = false → (u.startFrame fs e).sfu = s.sfu) := by
  obtain ⟨-, -, hsvl, hsmu, hasp, -, -, hanu, -, hbcu, -, -, hwku, hsfu⟩ := h.fields
  have hne : u.tlu.frame ≠ 0 := by rw [h.frame]; exact hn
  have htalk : ∀ t : State, (t.feedFrame e fs.order).asp.talk = t.asp.talk := fun t => by
    rw [State.feedFrame_asp, State.aspFrameStart]
    have hfed : ((indices 8).foldl (fun s c => s.channelFeed c) t).asp.talk = t.asp.talk :=
      foldl_keeps (I := fun x : State => x.asp.talk = t.asp.talk) (fun x c hx => by
        unfold State.channelFeed
        dsimp only
        split <;> exact hx) (indices 8) rfl
    generalize (indices 8).foldl (fun s c => s.channelFeed c) t = fed at hfed ⊢
    dsimp only
    split
    · rfl
    · split
      · exact hfed
      · exact hfed
  rw [State.startFrame_noTick hplain hne]
  refine ⟨?_, ?_, ?_, ?_, ?_, ?_, ?_, fun hwhole => ?_⟩
  · simp
  · simp [hbcu]
  · simp [hwku]
  · simp [hanu]
  · simp [hsvl]
  · simp only [State.startGranted_frame, htalk, State.startEnded_frame, State.startLanes_frame, State.discardCollected_frame, hasp]
  · simp only [State.startGranted_frame, State.feedFrame_frame, State.startEnded_frame, State.startLanes_frame,
      State.discardCollected, hsmu]
  · simp only [State.startGranted_frame, State.feedFrame_frame, State.startEnded_frame, (State.startLanes_sfu hwhole _).1,
      State.discardCollected_frame, hsfu]

end starts

/-! ### Flywheels (R7) -/

theorem Tlu.flywheel_eq (bitTime : Nat) (t : Tlu) : t.flywheel bitTime =
    { t with
      candidate := none, inListen := if t.link = .listen then t.inListen + 1 else t.inListen
      sinceForeign := if t.link = .listen then t.sinceForeign else min (t.sinceForeign + 1) 25
      frame := (t.frame + 1) % 25, bitTime := bitTime, ownMark := none, guard := .recessive, mismatch := Table.replicate 40 none
      slotsDone := 0, expired := false, lateRun := false, marked := true } := by
  unfold Tlu.flywheel
  by_cases h : t.link = .listen <;> simp [h, Tlu.newFrame, nextFrame, countForeign]

section flywheel
variable {s : State} {fs : FrameStart}

/-- R7: the bit time that a flywheel start dates its frame from. -/
def lateBitTime : LateRun → Nat
  | .ended n => 17 + n.val
  | _ => 16

theorem exec_flywheel_starts (hdue : s.nothingDue) {late : LateRun} (hflywheels : s.flywheels = true)
    (hstanding : late ≠ .standing) (hclear : late = .clear → s.tlu.lateRun = false) :
    exec (.flywheel ⟨late, fs⟩) s = .next ((s.flywheelBegun (lateBitTime late)).startFrame fs (s.frameEnd false)) := by
  rw [exec_flywheel hdue]
  cases late with
  | clear =>
    simp only [State.flywheelOutcome, hflywheels, if_true, hclear rfl]
    rfl
  | standing => exact absurd rfl hstanding
  | ended n =>
    simp only [State.flywheelOutcome, hflywheels, if_true]
    rfl

/-- What a plain flywheel start leaves of the TLU. -/
theorem State.flywheelStart_tlu (hplain : fs.plain) (bitTime : Nat) (e : FrameEnd) :
    ((s.flywheelBegun bitTime).startFrame fs e).tlu =
      if (s.tlu.frame + 1) % 25 = 0 then (s.tlu.flywheel bitTime).tick else s.tlu.flywheel bitTime := by
  rw [State.startFrame_tlu _ _ _ hplain, (flywheelBegun_begun bitTime s).frame]
  rfl

end flywheel

theorem State.flywheels_of {s : State} (h : s.tlu.link = .listen ∨ (s.tlu.link = .locked ∧ s.cfg.eligible = false)) :
    s.flywheels = true := by
  have hne : s.tlu.link ≠ .loading := by rcases h with h | ⟨h, -⟩ <;> simp [h]
  simp [State.flywheels, State.mayMark_eq_false h, hne]

/-- Settles O9. -/
theorem flywheelStartsTheNextFrame : Obligations.FlywheelStartsTheNextFrame := by
  refine ⟨fun c fs s hdue hplain hstarts hlink => ?tick, fun late fs s hdue hlink => ⟨?standing, ?found, ?starts⟩⟩
  case tick =>
    obtain ⟨u, hexec, hbegun⟩ := startsFrame_begins hdue hstarts
    have hwas : (s.frameEnd false).wasListen = false := by rcases hlink with h | h <;> simp [State.frameEnd, h]
    obtain ⟨hframe, hcyc, hcount, hsilenced⟩ := hbegun.tick_tlu (e := s.frameEnd false) hplain
    obtain ⟨hparity, hinputs, hwants⟩ := hbegun.tick_takes (e := s.frameEnd false) hplain hlink hwas
    exact ⟨_, hexec, hframe, hcyc, hcount, hsilenced, hparity, hinputs,
      hbegun.tick_timers hplain hdue hlink hwas (.inr rfl), fun h hh => hwants h (hh.imp id .inr)⟩
  case standing =>
    rintro rfl
    rw [exec_flywheel hdue]
    simp only [State.flywheelOutcome, State.flywheels_of hlink, if_true]
    rfl
  case found =>
    rintro rfl hlate
    rw [exec_flywheel hdue]
    simp [State.flywheelOutcome, hlate]
  case starts =>
    intro hstanding hclear hplain hle
    have hbegun := flywheelBegun_begun (lateBitTime late) s
    have htlu := State.flywheelStart_tlu (s := s) hplain (lateBitTime late) (s.frameEnd false)
    refine ⟨_, exec_flywheel_starts hdue (State.flywheels_of hlink) hstanding hclear, by simp; rfl, by simp; rfl, ?_⟩
    have hfield : ∀ {β : Type} (f : Tlu → β), (∀ t : Tlu, f t.tick = f t) →
        f ((s.flywheelBegun (lateBitTime late)).startFrame fs (s.frameEnd false)).tlu = f (s.tlu.flywheel (lateBitTime late)) := by
      intro β f hf
      rw [htlu]
      split
      · exact hf _
      · rfl
    rw [hfield Tlu.link fun _ => rfl, hfield Tlu.frame fun _ => rfl, hfield Tlu.slotsDone fun _ => rfl,
      hfield Tlu.bitTime fun _ => rfl, hfield Tlu.ownMark fun _ => rfl, hfield Tlu.candidate fun _ => rfl,
      hfield Tlu.expired fun _ => rfl, hfield Tlu.lateRun fun _ => rfl, hfield Tlu.inListen fun _ => rfl,
      hfield Tlu.sinceForeign fun _ => rfl, Tlu.flywheel_eq]
    refine ⟨rfl, rfl, rfl, ?_, ?_, rfl, rfl, rfl, rfl, fun h => ?_, fun h => ?_, fun h24 => ?_, fun hlt => ?_, fun hlocked h24 => ?_⟩
    · rintro rfl
      rfl
    · rintro n rfl
      rfl
    · simp [h]
    · simp [h]
    · have hzero : (s.tlu.frame + 1) % 25 = 0 := by rw [h24]
      obtain ⟨-, hcyc, hcount, hsilenced⟩ := (hzero ▸ hbegun).tick_tlu (e := s.frameEnd false) hplain
      exact ⟨hcyc, hcount, hsilenced⟩
    · have hne : (s.tlu.frame + 1) % 25 ≠ 0 := by omega
      obtain ⟨hsilenced, hcyc, hcount⟩ := hbegun.ticked
      obtain ⟨htlu', hbcu, hwku, hanu, hsvl, htalk, -, hsfu⟩ := hbegun.noTick_keeps (e := s.frameEnd false) hplain hne
      rw [htlu', hbcu, hwku, hanu, hsvl, htalk, hsfu (.inr rfl)]
      exact ⟨hcyc, hcount, hsilenced, rfl, rfl, rfl, rfl, rfl, rfl⟩
    · have hzero : (s.tlu.frame + 1) % 25 = 0 := by rw [h24]
      have hbegun' := hzero ▸ hbegun
      have hwas : (s.frameEnd false).wasListen = false := by simp [State.frameEnd, hlocked]
      obtain ⟨hparity, hinputs, hwants⟩ := hbegun'.tick_takes (e := s.frameEnd false) hplain (.inl hlocked) hwas
      exact ⟨hparity, hinputs, hbegun'.tick_timers hplain hdue (.inl hlocked) hwas (.inr rfl),
        fun h hh => hwants h (hh.imp id .inr)⟩

end Sys2Proof.Machine
end

section
/-!
PROOFS. A foreign mark on the trunk (O10).
-/

namespace Sys2Proof.Machine

/-! ### The counters of a data frame start -/

theorem State.channelFeed_counter (ch : Fin 8) (s : State) {c : Counter} (h : c ≠ .sourceUnderruns) :
    (s.channelFeed ch).counter c = s.counter c := by
  unfold State.channelFeed
  dsimp only
  split
  · rw [State.counter_bump, if_neg (Ne.symm h)]
    rfl
  · rfl

/-- R50: a frame start counts source underruns, and nothing else. -/
theorem State.aspFrameStart_counter (s : State) {c : Counter} (h : c ≠ .sourceUnderruns) :
    s.aspFrameStart.counter c = s.counter c := by
  have hfed : ((indices 8).foldl (fun s c => s.channelFeed c) s).counter c = s.counter c :=
    foldl_keeps (I := fun t : State => t.counter c = s.counter c)
      (fun t ch ht => (t.channelFeed_counter ch h).trans ht) (indices 8) rfl
  unfold State.aspFrameStart
  generalize (indices 8).foldl (fun s c => s.channelFeed c) s = fed at hfed ⊢
  dsimp only
  split
  · rfl
  · split
    · exact hfed
    · exact hfed

theorem State.feedFrame_counters (e : FrameEnd) (o : FrameOrder) (s : State) :
    (s.feedFrame e o).counters = s.aspFrameStart.counters := by
  unfold State.feedFrame
  dsimp only
  repeat' split
  all_goals simp

/-- A plain start after a frame 0 counts source underruns at most. -/
theorem State.startFrame_counter_afterZero {fs : FrameStart} {e : FrameEnd} {u : State} (hplain : fs.plain)
    (hdata : e.isData = false) (hframe : u.tlu.frame ≤ 1) (hlink : u.tlu.link ≠ .listen) (hwas : e.wasListen = false)
    {c : Counter} (hc : c ≠ .sourceUnderruns) : (u.startFrame fs e).counter c = u.counter c := by
  by_cases hzero : u.tlu.frame = 0
  · obtain ⟨hstart, hprepared⟩ := State.startFrame_tick (fs := fs) hplain hzero hlink hwas
    obtain ⟨hcounters, -⟩ := State.feedFrame_zero_keeps (e := e) fs.order
      (State.startFrame_tick_frameNumber hplain hzero hlink hwas)
    rw [State.counter, hstart, hcounters]
    simp only [State.counter, State.smuTick_frame, hprepared, State.startEnded_frame, State.startAlert_frame,
      (State.startLanes_sfu (.inl hdata) _).2, State.cycleTick_frame, State.discardCollected_frame]
  · have hgranted : ∀ t : State, t.tlu.frame = u.tlu.frame → t.startGranted = t := fun t ht => by
      rw [State.startGranted, if_neg]
      rintro ⟨h13, -⟩
      omega
    rw [State.startFrame_noTick hplain hzero, hgranted _ (by simp)]
    have hfeed := State.aspFrameStart_counter ((u.discardCollected.startLanes e).startEnded fs e) hc
    rw [State.counter, State.feedFrame_counters]
    refine hfeed.trans ?_
    simp only [State.counter, State.startEnded_frame, (State.startLanes_sfu (.inl hdata) _).2, State.discardCollected_frame]

/-! ### A foreign mark -/

/-- R14: a foreign mark on the trunk locks the node to it. -/
theorem Tlu.followMark_foreign {t : Tlu} (h : t.link = .locked ∨ t.link = .leading) (form : MarkForm) (mid : Bool) :
    t.followMark form mid true = { t with link := .locked, sinceForeign := 0 } := by
  unfold Tlu.followMark
  rcases h with h | h
  · rw [h]
    simp [countForeign, ← h]
  · rw [h]
    rfl

/-- Settles O10. -/
theorem foreignMarkIsFollowedOnTheTrunk : Obligations.ForeignMarkIsFollowedOnTheTrunk := by
  intro run start fs s hdue hstart
  refine ⟨fun hshort => ?short, fun hrun hplain hpos hlink hfollow => ?_⟩
  case short =>
    rw [exec_markRecognised hdue hstart, State.markOutcome, markForm, if_pos hshort]
  have htrunk : s.onTrunk = true := State.onTrunk_iff.2 hlink
  have hne : s.tlu.link ≠ .loading := by rcases hlink with h | h <;> simp [h]
  have hmid : isMidFrame start = true ↔ start ≤ 415 := isMidFrame_iff.trans (and_iff_right hpos)
  have hexec := (exec_markRecognised hdue hstart (run := run) (fs := fs)).trans (congrArg _ (State.markOutcome_starts hrun hne
    (State.isOpeningMark_late hpos) (fun ⟨hm, _, hignore⟩ => nomatch (hfollow (hmid.1 hm)).symm.trans hignore)))
  have hbegun : FrameBegun s (s.markBegun (runForm run) start) (if run = 12 then (s.tlu.frame + 1) % 25 else 0) := by
    rw [← frameAfter_run]
    exact markBegun_begun _ _ _
  have hwas : (s.frameEnd (isMidFrame start)).wasListen = false := by rcases hlink with h | h <;> simp [State.frameEnd, h]
  refine ⟨_, hexec, by simp [State.markBegun], by simp, ?_⟩
  obtain ⟨hearly, hignored, hslips, hdrops⟩ :=
    (s.markBegun (runForm run) start).startFrame_counter hplain (s.frameEnd (isMidFrame start))
  have hcount := fun c => State.countMark_counter (runForm run) s htrunk (isMidFrame start) c
  have hbegunCount : ∀ c, (s.markBegun (runForm run) start).counter c = (s.countMark (runForm run) (isMidFrame start)).counter c :=
    fun _ => rfl
  have hbegunTlu : (s.markBegun (runForm run) start).tlu =
      { s.tlu with link := .locked, sinceForeign := 0 }.newFrame (frameAfter (runForm run) s.tlu.frame) 13 true := by
    have hforeign : s.isOwnMark start = false := by
      have : start ≠ 0 := by omega
      simp [State.isOwnMark, this]
    rw [State.markBegun_tlu, hforeign]
    exact congrArg (fun t => Tlu.newFrame _ _ _ t) (Tlu.followMark_foreign hlink _ _)
  have hfield : ∀ {β : Type} (f : Tlu → β), (∀ t : Tlu, f t.tick = f t) →
      f ((s.markBegun (runForm run) start).startFrame fs (s.frameEnd (isMidFrame start))).tlu =
        f (s.markBegun (runForm run) start).tlu := by
    intro β f hf
    rw [State.startFrame_tlu _ _ _ hplain]
    split
    · exact hf _
    · rfl
  have htick : (run = 12 ∧ s.tlu.frame = 24 ∨ 13 ≤ run) → FrameBegun s (s.markBegun (runForm run) start) 0 := by
    rintro (⟨rfl, h⟩ | h)
    · simpa [h] using hbegun
    · rwa [if_neg (by omega)] at hbegun
  rw [hearly, hignored, hslips, hdrops, hbegunCount, hbegunCount, hbegunCount, hbegunCount, hcount, hcount, hcount, hcount,
    hfield Tlu.link fun _ => rfl, hfield Tlu.sinceForeign fun _ => rfl, hfield Tlu.bitTime fun _ => rfl,
    hfield Tlu.slotsDone fun _ => rfl, hfield Tlu.ownMark fun _ => rfl, hfield Tlu.expired fun _ => rfl,
    hfield Tlu.frame fun _ => rfl, hbegun.frame, hbegunTlu]
  refine ⟨rfl, rfl, rfl, rfl, rfl, rfl, fun h => ?_, fun h => if_pos h, fun h => ?_, fun h => ?_, fun h hlt => ?_, fun h => ?_,
    by simp, by simp, fun h h24 => ?_, fun h hlt => ?_, fun h415 h0 => ?_⟩
  · obtain ⟨-, hcyc, hcycles, -⟩ := (htick (.inr h)).tick_tlu (e := s.frameEnd (isMidFrame start)) hplain
    exact ⟨if_neg (by omega), hcyc, hcycles⟩
  · simp [hmid.2 h]
  · have : isMidFrame start = false := Bool.eq_false_iff.2 fun hm => by have := hmid.1 hm; omega
    simp [this]
  · simp [isSlip_run h hlt]
  · simp [not_isSlip_run h]
  · obtain ⟨-, hcyc, hcycles, -⟩ := (htick (.inl ⟨h, h24⟩)).tick_tlu (e := s.frameEnd (isMidFrame start)) hplain
    exact ⟨hcyc, hcycles⟩
  · have hnum : (if run = 12 then (s.tlu.frame + 1) % 25 else 0) ≠ 0 := by rw [if_pos h]; omega
    obtain ⟨-, hbcu, hwku, hanu, hsvl, -⟩ := hbegun.noTick_keeps (e := s.frameEnd (isMidFrame start)) hplain hnum
    exact ⟨hbcu, hwku, hanu, hsvl⟩
  · have hdata : (s.frameEnd (isMidFrame start)).isData = false := by simp [FrameEnd.isData, State.frameEnd, h0]
    have hlisten : (s.markBegun (runForm run) start).tlu.link ≠ .listen := by
      rcases hbegun.trunk hlink with h | h <;> exact fun hl => nomatch h.symm.trans hl
    have hle : (s.markBegun (runForm run) start).tlu.frame ≤ 1 := by
      rw [hbegun.frame, h0]
      split <;> omega
    have hsame : ∀ {c : Counter}, c ≠ .sourceUnderruns → c ≠ .earlyMarks → c ≠ .cycleSlips →
        ((s.markBegun (runForm run) start).startFrame fs (s.frameEnd (isMidFrame start))).counter c = s.counter c :=
      fun h1 h2 h3 => (State.startFrame_counter_afterZero hplain hdata hle hlisten hwas h1).trans (hbegun.counters _ h2 h3)
    refine ⟨?_, fun h => ?_, fun h => ?_, hsame nofun nofun nofun, hsame nofun nofun nofun⟩
    · obtain h12 | h13 := eq_or_lt_of_le hrun
      · have hnum : (if run = 12 then (s.tlu.frame + 1) % 25 else 0) ≠ 0 := by rw [if_pos h12.symm, h0]; omega
        obtain ⟨-, -, -, -, -, -, hsmu, -⟩ := hbegun.noTick_keeps (e := s.frameEnd (isMidFrame start)) hplain hnum
        rw [hsmu]
      · have hb := htick (.inr h13)
        obtain ⟨-, -, -, hbsmu, -⟩ := hb.fields
        obtain ⟨hsmu, hprepared⟩ := State.startFrame_tick_smu (e := s.frameEnd (isMidFrame start)) hplain hb.frame hlisten hwas
        rw [hsmu, State.smuTick_only, hprepared, State.discardCollected, hbsmu]
    · have hnum : (if run = 12 then (s.tlu.frame + 1) % 25 else 0) ≠ 0 := by rw [if_pos h, h0]; omega
      obtain ⟨htlu, -, -, -, -, -, hsmu, -⟩ := hbegun.noTick_keeps (e := s.frameEnd (isMidFrame start)) hplain hnum
      rw [hsmu, htlu]
      exact ⟨rfl, rfl, rfl, hbegun.ticked.1⟩
    · have hb := htick (.inr h)
      obtain ⟨-, -, -, hbsmu, -⟩ := hb.fields
      obtain ⟨hparity, -, hwants⟩ := hb.tick_takes (e := s.frameEnd (isMidFrame start)) hplain hlink hwas
      obtain ⟨hsmu, hprepared⟩ := State.startFrame_tick_smu (e := s.frameEnd (isMidFrame start)) hplain hb.frame hlisten hwas
      refine ⟨hparity, fun g => hwants g (.inr (.inl hdata)), fun k g hwant hown => ?_⟩
      rw [State.startFrame_tick_wants hplain hb.frame hlisten hwas (.inr (.inl hdata))] at hwant
      rw [hsmu, State.smuTick_own, hprepared, State.discardCollected, hbsmu]
      exact ⟨hown, fun ⟨_, hno⟩ => by rw [hwant] at hno; exact Bool.noConfusion hno⟩

end Sys2Proof.Machine
end

section
/-!
PROOFS. The source ports: port frames, the feeding of the channels and the record runs (O21).
-/

namespace Sys2Proof.Machine

/-! ### Folds that count -/

/-- A fold over indices that adds 1 to a counter for each index that satisfies a condition on its own view. -/
theorem foldl_counts {α β : Type} {f : State → α → State} {V : State → α → β} {P : β → Bool} {k : Counter}
    (hother : ∀ s a b, b ≠ a → V (f s a) b = V s b)
    (hbump : ∀ s a, P (V s a) = true → (f s a).counter k = satInc (s.counter k))
    (hkeep : ∀ s a, P (V s a) = false → (f s a).counter k = s.counter k)
    {l : List α} (hl : l.Nodup) (s : State) :
    (l.foldl f s).counter k = satInc^[(l.filter fun a => P (V s a)).length] (s.counter k) := by
  induction l generalizing s with
  | nil => rfl
  | cons a l ih =>
    obtain ⟨ha, hl⟩ := List.nodup_cons.1 hl
    have hsame : (l.filter fun b => P (V (f s a) b)) = l.filter fun b => P (V s b) :=
      List.filter_congr fun b hb => by rw [hother s a b fun h => ha (h ▸ hb)]
    rw [List.foldl_cons, ih hl, hsame]
    cases hP : P (V s a) with
    | true =>
      rw [hbump s a hP, List.filter_cons_of_pos (p := fun a => P (V s a)) hP, List.length_cons, Function.iterate_succ_apply]
    | false => rw [hkeep s a hP, List.filter_cons_of_neg (p := fun a => P (V s a)) (by simp [hP])]

theorem State.counter_bumpN (c : Counter) (n : Nat) (s : State) (d : Counter) :
    (s.bumpN c n).counter d = if c = d then satInc^[n] (s.counter d) else s.counter d := by
  induction n with
  | zero => simp
  | succ n ih =>
    rw [State.bumpN, State.counter_bump, ih]
    split
    · rw [Function.iterate_succ_apply']
    · rfl

/-! ### The words of a port frame (R44) -/

theorem msbFirst_append_singleton (l : List Bool) (b : Bool) : msbFirst (l ++ [b]) = 2 * msbFirst l + b.toNat := by
  simp [msbFirst, List.foldl_append]

/-- The bits that arrive first are the most significant. -/
theorem testBit_msbFirst (l : List Bool) {i : Nat} (hi : i < l.length) :
    some ((msbFirst l).testBit (l.length - 1 - i)) = l[i]? := by
  induction l using List.reverseRecOn with
  | nil => exact absurd hi (by simp)
  | append_singleton l b ih =>
    rw [msbFirst_append_singleton, List.length_append, List.length_singleton, Nat.add_sub_cancel]
    rw [List.length_append, List.length_singleton] at hi
    obtain hlt | heq := Nat.lt_succ_iff_lt_or_eq.1 hi
    · have hsub : l.length - i = (l.length - 1 - i) + 1 := by omega
      have hhalf : (2 * msbFirst l + b.toNat) / 2 = msbFirst l := by cases b <;> simp only [Bool.toNat_true, Bool.toNat_false] <;> omega
      rw [hsub, Nat.testBit_succ, hhalf, ih hlt, List.getElem?_append_left hlt]
    · rw [heq, Nat.sub_self, Nat.testBit_zero, List.getElem?_append_right le_rfl, Nat.sub_self]
      cases b <;> simp [Nat.add_mod]

theorem portWord_bit (bits : List Bool) (c : Fin 8) {i : Nat} (hbits : 128 ≤ bits.length) (hi : i < 16) :
    some ((portWord bits c).getMsbD i) = bits[16 * c.val + i]? := by
  have hlen : ((bits.drop (16 * c.val)).take 16).length = 16 := by
    have := c.isLt
    rw [List.length_take, List.length_drop]
    omega
  have hbit := testBit_msbFirst _ (hlen.symm ▸ hi)
  rw [hlen] at hbit
  have hword : (portWord bits c).getMsbD i = (msbFirst ((bits.drop (16 * c.val)).take 16)).testBit (16 - 1 - i) := by
    have hlt : 16 - 1 - i < 16 := by omega
    simp only [portWord, BitVec.getMsbD, BitVec.getLsbD_ofNat, hi, hlt, decide_true, Bool.true_and]
  rw [hword, hbit, List.getElem?_take, if_pos hi, List.getElem?_drop]

/-! ### Port frames (R45, R46) -/

section port
variable {s : State}

/-- What the completion of a port frame speaks of for one channel. -/
def State.portView (s : State) (c : Fin 8) : AspChannel × Bool := (s.asp.ch.get c, (s.cfg.asp.get c).enabled)

theorem State.channelWord_other (bits : List Bool) (s : State) (a b : Fin 8) (h : b ≠ a) :
    (s.channelWord bits a).portView b = s.portView b := by
  unfold State.channelWord
  dsimp only
  repeat' split
  all_goals simp [State.portView, State.cfg, Ne.symm h]

theorem State.channelWord_self (bits : List Bool) (s : State) (c : Fin 8) : (s.channelWord bits c).asp.ch.get c =
    if (s.cfg.asp.get c).enabled = true ∧ (s.asp.ch.get c).fifo.length < 4 then
      { s.asp.ch.get c with fifo := (s.asp.ch.get c).fifo ++ [logEncode (portWord bits c)] }
    else s.asp.ch.get c := by
  unfold State.channelWord AspChannel.push
  by_cases henabled : (s.cfg.asp.get c).enabled = true
  · by_cases hfull : 4 ≤ (s.asp.ch.get c).fifo.length
    · simp [henabled, hfull, Nat.not_lt.2 hfull]
    · simp [henabled, hfull, Nat.not_le.1 hfull]
  · simp [henabled]

theorem State.channelWord_counter (bits : List Bool) (s : State) (c : Fin 8) (k : Counter) :
    (s.channelWord bits c).counter k =
      if k = .sourceOverruns ∧ (s.cfg.asp.get c).enabled = true ∧ 4 ≤ (s.asp.ch.get c).fifo.length then satInc (s.counter k)
      else s.counter k := by
  unfold State.channelWord AspChannel.push
  by_cases henabled : (s.cfg.asp.get c).enabled = true
  · by_cases hfull : 4 ≤ (s.asp.ch.get c).fifo.length
    · simp only [henabled, hfull, if_true, State.counter_bump, and_true, eq_comm]
      rfl
    · simp only [henabled, hfull, if_true, if_false, and_false, Bool.false_eq_true]
      rfl
  · simp [henabled]

/-- One channel's word, beside its FIFO. -/
theorem State.channelWord_keeps (bits : List Bool) (s : State) (c : Fin 8) : (s.channelWord bits c).asp =
    { s.asp with ch := (s.channelWord bits c).asp.ch } := by
  unfold State.channelWord
  dsimp only
  repeat' split
  all_goals rfl

theorem State.channelWord_only (s : State) (bits : List Bool) (c : Fin 8) : s.channelWord bits c =
    { s with asp := (s.channelWord bits c).asp, counters := (s.channelWord bits c).counters } := by
  unfold State.channelWord
  dsimp only
  repeat' split
  all_goals rfl

/-- The state in which every channel has taken its word. -/
def State.channelWords (bits : List Bool) (s : State) : State := (indices 8).foldl (fun s c => s.channelWord bits c) s

theorem State.channelWords_eq (bits : List Bool) (s : State) :
    s.channelWords bits = (indices 8).foldl (fun s c => s.channelWord bits c) s := rfl

theorem State.channelWords_keeps (bits : List Bool) (s : State) :
    (s.channelWords bits).asp = { s.asp with ch := (s.channelWords bits).asp.ch } := by
  rw [State.channelWords_eq]
  refine foldl_keeps (I := fun t : State => t.asp = { s.asp with ch := t.asp.ch }) (fun t c ht => ?_) (indices 8) rfl
  rw [State.channelWord_keeps, ht]

theorem State.channelWords_only (bits : List Bool) (s : State) : s.channelWords bits =
    { s with asp := (s.channelWords bits).asp, counters := (s.channelWords bits).counters } := by
  rw [State.channelWords_eq]
  refine foldl_keeps (I := fun t : State => t = { s with asp := t.asp, counters := t.counters }) (fun t c ht => ?_) (indices 8) rfl
  exact (t.channelWord_only bits c).trans (congrArg
    (fun r : State => { r with asp := (t.channelWord bits c).asp, counters := (t.channelWord bits c).counters }) ht)

theorem State.channelWords_channel (bits : List Bool) (s : State) (c : Fin 8) : (s.channelWords bits).asp.ch.get c =
    if (s.cfg.asp.get c).enabled = true ∧ (s.asp.ch.get c).fifo.length < 4 then
      { s.asp.ch.get c with fifo := (s.asp.ch.get c).fifo ++ [logEncode (portWord bits c)] }
    else s.asp.ch.get c := by
  obtain ⟨u, hu, hend⟩ := (foldl_at (V := State.portView) (State.channelWord_other bits) (indices_nodup 8) s c).2 (mem_indices c)
  rw [← State.channelWords_eq] at hend
  obtain ⟨hch, henabled⟩ := Prod.mk.injEq _ _ _ _ ▸ hu
  have := congrArg Prod.fst hend
  refine this.trans ((State.channelWord_self bits u c).trans ?_)
  rw [hch, henabled]

theorem State.channelWords_overruns (bits : List Bool) (s : State) : (s.channelWords bits).counter .sourceOverruns =
    satInc^[((List.finRange 8).filter fun c =>
      decide ((s.cfg.asp.get c).enabled = true ∧ 4 ≤ (s.asp.ch.get c).fifo.length)).length] (s.counter .sourceOverruns) :=
  foldl_counts (V := State.portView) (P := fun v => decide (v.2 = true ∧ 4 ≤ v.1.fifo.length))
    (State.channelWord_other bits)
    (fun s c h => by rw [State.channelWord_counter, if_pos ⟨rfl, of_decide_eq_true h⟩])
    (fun s c h => by rw [State.channelWord_counter, if_neg fun hand => of_decide_eq_false h hand.2]) (indices_nodup 8) s

theorem State.channelWords_counter (bits : List Bool) (s : State) {k : Counter} (h : k ≠ .sourceOverruns) :
    (s.channelWords bits).counter k = s.counter k :=
  foldl_keeps (I := fun t : State => t.counter k = s.counter k) (fun t c ht => by
    rw [State.channelWord_counter, if_neg fun hand => h hand.1]
    exact ht) (indices 8) rfl

theorem exec_portFrameComplete (h : s.cfl.node = .running) (bits : List Bool) :
    exec (.portFrameComplete bits) s = .next (s.portBits bits) := by
  have hrun : s.running = true := decide_eq_true h
  simp [exec, execPortFrameComplete, hrun]

theorem State.portBits_completes (hopen : s.asp.portOpen = true) {bits : List Bool} (hlen : 128 ≤ (s.asp.bits ++ bits).length) :
    s.portBits bits = { s.channelWords (s.asp.bits ++ bits) with asp := (s.channelWords (s.asp.bits ++ bits)).asp.closed } := by
  unfold State.portBits
  dsimp only
  rw [if_pos hopen, if_neg (Nat.not_lt.2 hlen), State.channelWords_eq]

end port

/-! ### The feeding of a channel (R48 to R50) -/

section feeding
variable {s : State}

/-- What a channel's feeding speaks of. -/
def State.feedView (s : State) (c : Fin 8) : AspChannel × Bool × Bool :=
  (s.asp.ch.get c, s.held (aspHolding c), (s.cfg.asp.get c).enabled)

theorem State.cfg_congr {s t : State} (h : t.cfl = s.cfl) : t.cfg = s.cfg := by
  rw [State.cfg, h]
  rfl

theorem State.held_congr {t : State} (h : t.smu = s.smu) (g : Fin 11) : t.held g = s.held g := by
  rw [State.held, State.holding, h]
  rfl

theorem State.channelFeed_other (s : State) (a b : Fin 8) (h : b ≠ a) : (s.channelFeed a).feedView b = s.feedView b := by
  have hheld : (s.channelFeed a).held (aspHolding b) = s.held (aspHolding b) := State.held_congr (by simp) _
  have hcfg : (s.channelFeed a).cfg = s.cfg := State.cfg_congr (by simp)
  have hch : (s.channelFeed a).asp.ch.get b = s.asp.ch.get b := by
    unfold State.channelFeed
    dsimp only
    split <;> simp [Ne.symm h]
  rw [State.feedView, hheld, hcfg, hch]
  rfl

theorem State.channelFeed_self (s : State) (c : Fin 8) : (s.channelFeed c).asp.ch.get c =
    ((s.asp.ch.get c).feed (s.held (aspHolding c)) (s.cfg.asp.get c).enabled).1 := by
  unfold State.channelFeed
  dsimp only
  split <;> simp

theorem AspChannel.feed_underran (held enabled : Bool) (c : AspChannel) :
    (c.feed held enabled).2 = true ↔ held = true ∧ c.fifo = [] := by
  unfold AspChannel.feed
  cases held with
  | true =>
    cases hfifo : c.fifo with
    | nil =>
      dsimp only
      rw [if_pos rfl]
      split <;> simp
    | cons code rest => simp
  | false => cases enabled <;> simp

theorem State.channelFeed_underruns (s : State) (c : Fin 8) :
    (s.held (aspHolding c) = true ∧ (s.asp.ch.get c).fifo = [] →
      (s.channelFeed c).counter .sourceUnderruns = satInc (s.counter .sourceUnderruns)) ∧
    (¬(s.held (aspHolding c) = true ∧ (s.asp.ch.get c).fifo = []) →
      (s.channelFeed c).counter .sourceUnderruns = s.counter .sourceUnderruns) := by
  rw [← AspChannel.feed_underran (s.held (aspHolding c)) (s.cfg.asp.get c).enabled]
  unfold State.channelFeed
  dsimp only
  constructor
  · intro h
    rw [if_pos h, State.counter_bump, if_pos rfl]
    rfl
  · intro h
    rw [if_neg h]
    rfl

/-- The state in which every channel has been fed. -/
def State.channelsFed (s : State) : State := (indices 8).foldl (fun s c => s.channelFeed c) s

theorem State.channelsFed_eq (s : State) : s.channelsFed = (indices 8).foldl (fun s c => s.channelFeed c) s := rfl

theorem State.channelsFed_channel (s : State) (c : Fin 8) : s.channelsFed.asp.ch.get c =
    ((s.asp.ch.get c).feed (s.held (aspHolding c)) (s.cfg.asp.get c).enabled).1 := by
  obtain ⟨u, hu, hend⟩ := (foldl_at (V := State.feedView) State.channelFeed_other (indices_nodup 8) s c).2 (mem_indices c)
  rw [← State.channelsFed_eq] at hend
  simp only [State.feedView, Prod.mk.injEq] at hu hend
  obtain ⟨hch, hheld, henabled⟩ := hu
  rw [hend.1, State.channelFeed_self, hch, hheld, henabled]

theorem State.channelsFed_underruns (s : State) : s.channelsFed.counter .sourceUnderruns =
    satInc^[((List.finRange 8).filter fun c =>
      decide (s.held (aspHolding c) = true ∧ (s.asp.ch.get c).fifo = [])).length] (s.counter .sourceUnderruns) :=
  foldl_counts (V := State.feedView) (P := fun v => decide (v.2.1 = true ∧ v.1.fifo = [])) State.channelFeed_other
    (fun s c h => (s.channelFeed_underruns c).1 (of_decide_eq_true h))
    (fun s c h => (s.channelFeed_underruns c).2 (of_decide_eq_false h)) (indices_nodup 8) s

theorem State.channelsFed_keeps (s : State) : s.channelsFed.asp = { s.asp with ch := s.channelsFed.asp.ch } ∧
    s.channelsFed.cfl = s.cfl := by
  rw [State.channelsFed_eq]
  refine foldl_keeps (I := fun t : State => t.asp = { s.asp with ch := t.asp.ch } ∧ t.cfl = s.cfl) (fun t c ht => ?_)
    (indices 8) ⟨rfl, rfl⟩
  obtain ⟨hasp, hcfl⟩ := ht
  refine ⟨?_, by simpa using hcfl⟩
  unfold State.channelFeed
  dsimp only
  split
  · rw [State.bump_asp, hasp]
  · rw [hasp]

/-- R44, R48: a data frame start at the port. -/
theorem State.aspFrameStart_data (h : s.tlu.frame ≠ 0) : s.aspFrameStart =
    if s.cfg.aspTiming = .node then { s.channelsFed with asp := { s.channelsFed.asp.openWith [] with afs := true } }
    else s.channelsFed := by
  have hcfg : s.channelsFed.cfg = s.cfg := by rw [State.cfg, s.channelsFed_keeps.2]; rfl
  unfold State.aspFrameStart
  dsimp only
  rw [if_neg h, ← State.channelsFed_eq, hcfg]

theorem State.aspFrameStart_channel (h : s.tlu.frame ≠ 0) (c : Fin 8) : s.aspFrameStart.asp.ch.get c =
    ((s.asp.ch.get c).feed (s.held (aspHolding c)) (s.cfg.asp.get c).enabled).1 := by
  rw [State.aspFrameStart_data h, ← State.channelsFed_channel]
  generalize s.channelsFed = fed
  split <;> rfl

theorem AspChannel.feed_eq (c : AspChannel) (enabled : Bool) :
    (∀ code rest, c.fifo = code :: rest → (c.feed true enabled).1 = ⟨rest, code, 0, code⟩) ∧
    (c.fifo = [] → c.repeats < 24 → (c.feed true enabled).1 = { c with repeats := c.repeats + 1, fixed := c.lastCode }) ∧
    (c.fifo = [] → 24 ≤ c.repeats → (c.feed true enabled).1 = { c with repeats := 25, fixed := 0x00, lastCode := 0x00 }) ∧
    (enabled = true → (c.feed false enabled).1 = { c with fifo := [], lastCode := 0x00, repeats := 0 }) := by
  refine ⟨fun code rest h => ?_, fun h hlt => ?_, fun h hle => ?_, ?_⟩
  · simp [AspChannel.feed, h]
  · have hmin : min (c.repeats + 1) 25 = c.repeats + 1 := by omega
    have hle : c.repeats + 1 ≤ 24 := hlt
    simp only [AspChannel.feed, h, if_true, hmin, hle]
  · have hmin : min (c.repeats + 1) 25 = 25 := by omega
    simp [AspChannel.feed, h, hmin]
  · rintro rfl
    rfl

end feeding

/-! ### The bytes of a run (R60) -/

theorem takeRecordByte_spent {frame : Nat} {recs : List SourceRecord} (h : ∀ x ∈ recs, x.bytes.length ≤ x.taken) :
    takeRecordByte frame recs = ((0x00, false), recs) := by
  induction recs with
  | nil => rfl
  | cons x recs ih =>
    have hx : ¬x.taken < x.bytes.length := Nat.not_lt.2 (h x List.mem_cons_self)
    rw [takeRecordByte, if_neg hx, ih fun y hy => h y (List.mem_cons_of_mem _ hy)]

theorem takeRecordByte_next {frame : Nat} {before after : List SourceRecord} {x : SourceRecord}
    (h : ∀ y ∈ before, y.bytes.length ≤ y.taken) (hx : x.taken < x.bytes.length) :
    takeRecordByte frame (before ++ x :: after) = ((x.bytes.getD x.taken 0, decide (x.taken = 0)),
      before ++ { x with
        taken := x.taken + 1, checkIn := if x.taken + 1 = x.bytes.length then some frame else none } :: after) := by
  induction before with
  | nil =>
    rw [List.nil_append, takeRecordByte, if_pos hx]
    simp
  | cons y before ih =>
    have hy : ¬y.taken < y.bytes.length := Nat.not_lt.2 (h y List.mem_cons_self)
    rw [List.cons_append, takeRecordByte, if_neg hy, ih fun z hz => h z (List.mem_cons_of_mem _ hz)]
    rfl

theorem runBytesFollowRecords : RunBytesFollowRecords := by
  intro frame recs
  refine ⟨rfl, fun n h => ?_, fun n before x after hrecs h hx => ?_⟩
  · rw [takeRun, takeRecordByte_spent h]
  · subst hrecs
    rw [takeRun, takeRecordByte_next h hx]

/-! ### A data frame start at the source ports -/

section start
variable {s u : State} {fs : FrameStart} {e : FrameEnd} {n : Nat}

theorem State.startEnded_rsp (s : State) (r : Fin 2) : (s.startEnded fs e).rsp.get r =
    if e.isData = true ∧ s.held (rspHolding r) = true then (s.rsp.get r).frameEnd e.ended else s.rsp.get r := by
  have hrsp : (s.dataFrameEnd e fs.order).rsp = (s.mixFrameEnd.rspFrameEnd e.ended).rsp := by
    unfold State.dataFrameEnd
    dsimp only
    split <;> simp
  unfold State.startEnded
  cases hdata : e.isData with
  | true =>
    have hheld : s.mixFrameEnd.held (rspHolding r) = s.held (rspHolding r) := State.held_congr (by simp) _
    rw [if_pos rfl, hrsp]
    simp [State.rspFrameEnd, hheld]
  | false => simp

theorem State.holdingRun_congr {s t : State} (h : t.cfl = s.cfl) (g : Fin 11) : t.holdingRun g = s.holdingRun g := by
  have hcfg : t.cfg = s.cfg := by rw [State.cfg, h]; rfl
  unfold State.holdingRun
  rw [hcfg]

theorem State.feedFrame_rsp (o : FrameOrder) (s : State) (h : s.tlu.frame ≠ 0) (r : Fin 2) : (s.feedFrame e o).rsp.get r =
    (s.rsp.get r).feed (s.held (rspHolding r) && !(s.tlu.silenced.get (rspHolding r))) (s.holdingRun (rspHolding r))
      s.tlu.frame := by
  have hrsp : (s.feedFrame e o).rsp = s.aspFrameStart.mixFrameStart.rspFeed.rsp := by
    have hframe : ¬s.aspFrameStart.mixFrameStart.tlu.frame = 0 := by simpa using h
    unfold State.feedFrame
    dsimp only
    rw [if_neg hframe]
    split <;> simp
  have hheld : s.aspFrameStart.mixFrameStart.held (rspHolding r) = s.held (rspHolding r) := State.held_congr (by simp) _
  have hrun : s.aspFrameStart.mixFrameStart.holdingRun (rspHolding r) = s.holdingRun (rspHolding r) :=
    State.holdingRun_congr (by simp) _
  rw [hrsp]
  simp [State.rspFeed, hheld, hrun]

theorem State.startGranted_counter (s : State) {c : Counter} (h : c ≠ .laneDenials) : s.startGranted.counter c = s.counter c := by
  unfold State.startGranted
  split
  · unfold State.grantPoint
    rw [State.counter_bumpN, if_neg (Ne.symm h)]
    rfl
  · rfl

/-- R60, R61: a record channel at a data frame start: what is left of its records, and the bytes of its run. -/
theorem FrameBegun.start_rsp (h : FrameBegun s u n) (hplain : fs.plain) (hn : n ≠ 0) (r : Fin 2) :
    let held := s.held (rspHolding r)
    let x := if e.isData = true ∧ held = true then (s.rsp.get r).frameEnd e.ended else s.rsp.get r
    (u.startFrame fs e).rsp.get r =
      x.feed (held && !(s.tlu.silenced.get (rspHolding r))) (s.holdingRun (rspHolding r)) n := by
  obtain ⟨-, hcfl, -, hsmu, -, hrsp, -⟩ := h.fields
  have hne : u.tlu.frame ≠ 0 := by rw [h.frame]; exact hn
  have hheld' : ∀ t : State, t.smu = u.discardCollected.smu → t.held (rspHolding r) = s.held (rspHolding r) := fun t ht => by
    rw [State.held, State.holding, ht, State.discardCollected, hsmu]
    rfl
  have hlanes : (u.discardCollected.startLanes e).held (rspHolding r) = s.held (rspHolding r) := hheld' _ (by simp)
  have hended : ((u.discardCollected.startLanes e).startEnded fs e).held (rspHolding r) = s.held (rspHolding r) :=
    hheld' _ (by simp)
  have hrun : ((u.discardCollected.startLanes e).startEnded fs e).holdingRun (rspHolding r) = s.holdingRun (rspHolding r) :=
    State.holdingRun_congr (by simp [hcfl]) _
  rw [State.startFrame_noTick hplain hne]
  simp only [State.startGranted_frame]
  rw [State.feedFrame_rsp _ _ (by simpa using hne), hended, State.startEnded_rsp, hlanes, hrun]
  simp [h.frame, h.ticked.1, hrsp]

/-- R44, R48: the channels at a data frame start. -/
theorem FrameBegun.start_asp (h : FrameBegun s u n) (hplain : fs.plain) (hn : n ≠ 0) :
    ∃ p : State, p.asp = s.asp ∧ p.cfg = s.cfg ∧ (∀ g, p.held g = s.held g) ∧ p.tlu.frame ≠ 0 ∧
      (u.startFrame fs e).asp = p.aspFrameStart.asp ∧
      (e.isData = false ∨ e.abandoned = false → p.counters = u.counters ∧
        (u.startFrame fs e).counter .sourceUnderruns = p.aspFrameStart.counter .sourceUnderruns) := by
  obtain ⟨-, hcfl, -, hsmu, hasp, -⟩ := h.fields
  have hne : u.tlu.frame ≠ 0 := by rw [h.frame]; exact hn
  refine ⟨(u.discardCollected.startLanes e).startEnded fs e, by simp [hasp], State.cfg_congr (by simp [hcfl]), fun g => ?_,
    by simpa using hne, ?_, fun hwhole => ⟨?_, ?_⟩⟩
  · have hp : ((u.discardCollected.startLanes e).startEnded fs e).smu = u.discardCollected.smu := by simp
    rw [State.held, State.holding, hp, State.discardCollected, hsmu]
    rfl
  · rw [State.startFrame_noTick hplain hne]
    simp only [State.startGranted_frame, State.feedFrame_asp]
  · simp [(State.startLanes_sfu hwhole _).2]
  · rw [State.startFrame_noTick hplain hne, State.startGranted_counter (c := .sourceUnderruns) _ (by decide), State.counter, State.feedFrame_counters]
    rfl

end start

/-- Settles O21. -/
theorem sourceChannelsFillAndFeed : Obligations.SourceChannelsFillAndFeed := by
  refine ⟨fun bits c i hbits hi => portWord_bit bits c hbits hi, fun bits s hrun => ⟨fun hopen hlen => ?full, fun hopen hlen => ?part,
    fun hopen => ?closed⟩, fun s hrun => ⟨fun htiming hopen => ?early, fun htiming hopen => ?pulse, fun htiming => ?node⟩,
    runBytesFollowRecords, fun c n fs s hdue hplain hstarts hn => ?start⟩
  case full =>
    have hkeep := State.channelWords_keeps (s.asp.bits ++ bits) s
    refine ⟨s.portBits bits, exec_portFrameComplete hrun bits, ?_⟩
    rw [State.portBits_completes hopen hlen]
    have hchannel := State.channelWords_channel (s.asp.bits ++ bits) s
    have hoverruns := State.channelWords_overruns (s.asp.bits ++ bits) s
    have hother := fun k hk => State.channelWords_counter (s.asp.bits ++ bits) s (k := k) hk
    have honly := State.channelWords_only (s.asp.bits ++ bits) s
    generalize s.channelWords (s.asp.bits ++ bits) = w at hkeep hchannel hoverruns hother honly ⊢
    have hafs : w.asp.afs = s.asp.afs := by rw [hkeep]
    have htalk : w.asp.talk = s.asp.talk := by rw [hkeep]
    exact ⟨congrArg (fun r : State => { r with asp := w.asp.closed, counters := w.counters }) honly, rfl, rfl, hafs, htalk,
      hchannel, hoverruns, hother⟩
  case part =>
    rw [exec_portFrameComplete hrun]
    unfold State.portBits
    dsimp only
    rw [if_pos hopen, if_pos hlen, Asp.openWith, ← hopen]
  case closed => rw [exec_portFrameComplete hrun, State.portBits_closed hopen]
  case early =>
    have hexec : exec .afsPulse s = .next s.afsPulse := by
      have hrunning : s.running = true := decide_eq_true hrun
      simp [exec, execAfsPulse, hrunning, htiming]
    rw [hexec]
    unfold State.afsPulse
    rw [if_pos hopen]
    dsimp only
    have hpolicy : (s.bump .portMarkErrors).cfg.portPolicy = s.cfg.portPolicy := rfl
    rw [hpolicy]
    cases hp : s.cfg.portPolicy with
    | follow => simp [Asp.openWith, ← hopen, State.bump, Table.modify, Counter.idx]
    | ignore => simp [State.bump, Table.modify, Counter.idx]
  case pulse =>
    have hrunning : s.running = true := decide_eq_true hrun
    simp [exec, execAfsPulse, hrunning, htiming, State.afsPulse, hopen, Asp.openWith]
  case node => simp [exec, execAfsPulse, htiming]
  case start =>
    obtain ⟨u, hexec, hbegun⟩ := startsFrame_begins hdue hstarts
    obtain ⟨p, hpasp, hpcfg, hpheld, hpframe, hasp, hcounters⟩ :=
      hbegun.start_asp (fs := fs) (e := s.frameEnd false) hplain hn
    obtain ⟨hpcounters, hunderruns⟩ := hcounters (.inr rfl)
    have hkeep := p.channelsFed_keeps.1
    refine ⟨_, hexec, fun htiming => ?_, fun htiming => ?_, fun c => ?_, ?_, fun r => ?_⟩
    · rw [hasp, State.aspFrameStart_data hpframe, hpcfg, if_pos htiming]
      exact ⟨rfl, rfl, rfl⟩
    · rw [hasp, State.aspFrameStart_data hpframe, hpcfg, if_neg (by simp [htiming]), hkeep, hpasp]
      exact ⟨rfl, rfl⟩
    · dsimp only
      rw [hasp, State.aspFrameStart_channel hpframe, hpasp, hpcfg, hpheld]
      obtain ⟨hcode, hrepeat, hsilent, hrest⟩ := (s.asp.ch.get c).feed_eq (s.cfg.asp.get c).enabled
      refine ⟨fun hheld => ?_, fun hheld => ?_, fun hheld => ?_, fun hheld => ?_⟩ <;> rw [hheld]
      · exact hcode
      · exact hrepeat
      · exact hsilent
      · exact hrest
    · have hfed := p.channelsFed_underruns
      have hstart : p.aspFrameStart.counter .sourceUnderruns = p.channelsFed.counter .sourceUnderruns := by
        rw [State.aspFrameStart_data hpframe]
        generalize p.channelsFed = fed
        split <;> rfl
      have hbefore : p.counter .sourceUnderruns = s.counter .sourceUnderruns := by
        rw [State.counter, hpcounters]
        exact hbegun.counters _ nofun nofun
      rw [hunderruns, hstart, hfed, hbefore]
      simp only [hpheld, hpasp]
    · dsimp only
      rw [hbegun.start_rsp hplain hn r]
      have hdata : (s.frameEnd false).isData = true ↔ 1 ≤ s.tlu.frame := decide_eq_true_iff
      have hended : (s.frameEnd false).ended = s.tlu.frame := rfl
      simp only [hdata, hended]
      refine ⟨fun hheld hsilenced => ?_, fun hnone => ?_⟩
      · rw [hheld, hsilenced]
        by_cases h1 : 1 ≤ s.tlu.frame <;> simp [h1, RspChannel.feed, RspChannel.frameEnd]
      · have hdrives : (s.held (rspHolding r) && !(s.tlu.silenced.get (rspHolding r))) = false := by
          rcases hnone with h | h <;> simp [h]
        rw [hdrives]
        by_cases h1 : 1 ≤ s.tlu.frame ∧ s.held (rspHolding r) = true <;> simp [h1, RspChannel.feed, RspChannel.frameEnd]

end Sys2Proof.Machine
end

section
/-!
PROOFS. The stream locator (R26): the runs that it walks and the items that it builds of them (O19).
-/

namespace Sys2Proof.Machine

/-- The runs `rs` tile the tags from position `m` on: each is as long as its tag stands, and the next begins where it ends. -/
def RunsTile (tagAt : Nat → Option Byte) : Nat → List (Byte × Nat × Nat) → Prop
  | m, [] => tagAt m = none
  | m, (t, f, n) :: rest => f = m ∧ 1 ≤ n ∧ (∀ k, m ≤ k → k < m + n → tagAt k = some t) ∧ tagAt (m + n) ≠ some t ∧
      RunsTile tagAt (m + n) rest

theorem runsTile_runsFrom {tagAt : Nat → Option Byte} : ∀ (tags : List Byte) (m : Nat), (∀ j, tagAt (m + j) = tags[j]?) →
    RunsTile tagAt m (runsFrom m tags) := by
  intro tags
  induction tags with
  | nil => intro m hat; simpa [runsFrom, RunsTile] using hat 0
  | cons t ts ih =>
    intro m hat
    have hhere : tagAt m = some t := by simpa using hat 0
    have hrest := ih (m + 1) (fun j => by rw [Nat.add_assoc, Nat.add_comm 1 j]; exact hat (j + 1))
    have single : ∀ k, m ≤ k → k < m + 1 → tagAt k = some t := fun k hl hh => by
      obtain rfl : k = m := by omega
      exact hhere
    unfold runsFrom
    cases hruns : runsFrom (m + 1) ts with
    | nil =>
      rw [hruns] at hrest
      exact ⟨rfl, Nat.le_refl 1, single, by rw [show tagAt (m + 1) = none from hrest]; nofun, hrest⟩
    | cons r rest =>
      obtain ⟨t', f, n⟩ := r
      rw [hruns] at hrest
      obtain ⟨rfl, hn, hstands, hends, htile⟩ := hrest
      dsimp only
      split
      case isTrue heq =>
        subst heq
        have hsum : m + (n + 1) = m + 1 + n := by omega
        refine ⟨rfl, by omega, fun k hl hh => ?_, hsum ▸ hends, hsum ▸ htile⟩
        rcases Nat.eq_or_lt_of_le hl with rfl | hlt
        · exact hhere
        · exact hstands k hlt (by omega)
      case isFalse hne =>
        refine ⟨rfl, Nat.le_refl 1, single, ?_, rfl, hn, hstands, hends, htile⟩
        rw [hstands (m + 1) (Nat.le_refl _) (by omega)]
        exact fun h => hne (Option.some.inj h)

/-! ### Adding a run -/

abbrev LocatorSorted (loc : List LocItem) : Prop := loc.Pairwise fun a b => a.tag.toNat < b.tag.toNat

theorem tag_of_mem_addRun {t : Byte} {f n : Nat} {i : LocItem} : ∀ {loc : List LocItem}, i ∈ addRun t f n loc →
    i.tag = t ∨ ∃ j ∈ loc, j.tag = i.tag := by
  intro loc
  induction loc with
  | nil => intro h; simp [addRun] at h; simp [h]
  | cons j rest ih =>
    unfold addRun
    intro h
    split at h
    · rcases List.mem_cons.1 h with rfl | h
      · exact .inl rfl
      · exact .inr ⟨i, h, rfl⟩
    split at h
    · rcases List.mem_cons.1 h with rfl | h
      · exact .inr ⟨j, by simp, rfl⟩
      · exact .inr ⟨i, by simp [h], rfl⟩
    · rcases List.mem_cons.1 h with rfl | h
      · exact .inr ⟨i, by simp, rfl⟩
      · rcases ih h with h | ⟨g, hg, htag⟩
        · exact .inl h
        · exact .inr ⟨g, by simp [hg], htag⟩

theorem addRun_sorted (t : Byte) (f n : Nat) : ∀ {loc : List LocItem}, LocatorSorted loc → LocatorSorted (addRun t f n loc) := by
  intro loc
  induction loc with
  | nil => intro _; simp [addRun]
  | cons j rest ih =>
    intro h
    obtain ⟨hhead, hrest⟩ := List.pairwise_cons.1 h
    unfold addRun
    split
    case isTrue hlt =>
      refine List.pairwise_cons.2 ⟨fun g hg => ?_, h⟩
      rcases List.mem_cons.1 hg with rfl | hg
      · exact hlt
      · exact Nat.lt_trans hlt (hhead g hg)
    case isFalse hge =>
      split
      · exact List.pairwise_cons.2 ⟨hhead, hrest⟩
      case isFalse hne =>
        refine List.pairwise_cons.2 ⟨fun g hg => ?_, ih hrest⟩
        rcases tag_of_mem_addRun hg with htag | ⟨k, hk, htag⟩
        · have hval : t.toNat ≠ j.tag.toNat := fun he => hne (BitVec.eq_of_toNat_eq he)
          rw [htag]
          omega
        · rw [← htag]
          exact hhead k hk

/-- The items of a sorted locator to which a run is added: the run itself where its tag is new, the others as they were, and the
item of its tag marked as a duplicate. -/
theorem mem_addRun {t : Byte} {f n : Nat} {i : LocItem} : ∀ {loc : List LocItem}, LocatorSorted loc →
    (i ∈ addRun t f n loc ↔ ((∀ j ∈ loc, j.tag ≠ t) ∧ i = ⟨t, f, n, false⟩) ∨ (i ∈ loc ∧ i.tag ≠ t) ∨
      ∃ j ∈ loc, j.tag = t ∧ i = { j with dup := true }) := by
  intro loc
  induction loc with
  | nil => intro _; simp [addRun]
  | cons j rest ih =>
    intro h
    obtain ⟨hhead, hrest⟩ := List.pairwise_cons.1 h
    unfold addRun
    split
    case isTrue hlt =>
      have hnone : ∀ g ∈ j :: rest, g.tag ≠ t := by
        intro g hg he
        rcases List.mem_cons.1 hg with rfl | hg
        · rw [he] at hlt; exact Nat.lt_irrefl _ hlt
        · have := hhead g hg
          rw [he] at this
          omega
      constructor
      · intro hi
        rcases List.mem_cons.1 hi with rfl | hi
        · exact .inl ⟨hnone, rfl⟩
        · exact .inr (.inl ⟨hi, hnone i hi⟩)
      · rintro (⟨-, rfl⟩ | ⟨hi, -⟩ | ⟨g, hg, he, -⟩)
        · simp
        · exact List.mem_cons_of_mem _ hi
        · exact absurd he (hnone g hg)
    case isFalse hge =>
      split
      case isTrue heq =>
        have hothers : ∀ g ∈ rest, g.tag ≠ t := fun g hg he => by
          have := hhead g hg
          rw [he, heq] at this
          exact Nat.lt_irrefl _ this
        constructor
        · intro hi
          rcases List.mem_cons.1 hi with rfl | hi
          · exact .inr (.inr ⟨j, by simp, heq.symm, rfl⟩)
          · exact .inr (.inl ⟨List.mem_cons_of_mem _ hi, hothers i hi⟩)
        · rintro (⟨hnone, -⟩ | ⟨hi, hne⟩ | ⟨g, hg, he, rfl⟩)
          · exact absurd heq.symm (hnone j (by simp))
          · rcases List.mem_cons.1 hi with rfl | hi
            · exact absurd heq.symm hne
            · simp [hi]
          · rcases List.mem_cons.1 hg with rfl | hg
            · simp
            · exact absurd he (hothers g hg)
      case isFalse hne =>
        have hj : j.tag ≠ t := fun he => hne he.symm
        simp only [List.mem_cons, ih hrest]
        grind

/-! ### The items so far -/

/-- The locator `loc` lists the tags below position `m`, at which a run ends. -/
structure LocatorLists (tagAt : Nat → Option Byte) (m : Nat) (loc : List LocItem) : Prop where
  sorted : LocatorSorted loc
  lists : ∀ t, (∃ i ∈ loc, i.tag = t) ↔ locatable t = true ∧ ∃ k, k < m ∧ tagAt k = some t
  starts : ∀ i ∈ loc, ∀ k, k < i.first → tagAt k ≠ some i.tag
  long : ∀ i ∈ loc, 1 ≤ i.run ∧ i.first + i.run ≤ m
  stands : ∀ i ∈ loc, ∀ k, i.first ≤ k → k < i.first + i.run → tagAt k = some i.tag
  ends : ∀ i ∈ loc, tagAt (i.first + i.run) ≠ some i.tag
  dups : ∀ i ∈ loc, (i.dup = true ↔ ∃ k, i.first + i.run ≤ k ∧ k < m ∧ tagAt k = some i.tag)

theorem locatorLists_empty (tagAt : Nat → Option Byte) : LocatorLists tagAt 0 [] :=
  ⟨List.Pairwise.nil, by simp, by simp, by simp, by simp, by simp, by simp⟩

section addRun
variable {tagAt : Nat → Option Byte} {m n : Nat} {loc : List LocItem} {t : Byte}

/-- Below `m + n` a tag appears where it appeared below `m`, or it is the tag of the run. -/
theorem appears_add_iff (hrun : ∀ k, m ≤ k → k < m + n → tagAt k = some t) (hn : 1 ≤ n) (a : Byte) (p : Nat) (hp : p ≤ m) :
    (∃ k, p ≤ k ∧ k < m + n ∧ tagAt k = some a) ↔ (∃ k, p ≤ k ∧ k < m ∧ tagAt k = some a) ∨ a = t := by
  constructor
  · rintro ⟨k, hpk, hk, hat⟩
    by_cases hkm : k < m
    · exact .inl ⟨k, hpk, hkm, hat⟩
    · rw [hrun k (by omega) hk] at hat
      exact .inr (Option.some.inj hat).symm
  · rintro (⟨k, hpk, hk, hat⟩ | rfl)
    · exact ⟨k, hpk, by omega, hat⟩
    · exact ⟨m, hp, by omega, hrun m (Nat.le_refl m) (by omega)⟩

theorem LocatorLists.skip (h : LocatorLists tagAt m loc) (hrun : ∀ k, m ≤ k → k < m + n → tagAt k = some t) (hn : 1 ≤ n)
    (ht : locatable t = false) : LocatorLists tagAt (m + n) loc := by
  have hother : ∀ i ∈ loc, i.tag ≠ t := fun i hi he => by
    have := ((h.lists t).1 ⟨i, hi, he⟩).1
    simp [ht] at this
  refine ⟨h.sorted, fun a => ?_, h.starts, fun i hi => ⟨(h.long i hi).1, by have := (h.long i hi).2; omega⟩, h.stands, h.ends,
    fun i hi => ?_⟩
  · have happears := appears_add_iff hrun hn a 0 (Nat.zero_le m)
    simp only [Nat.zero_le, true_and] at happears
    rw [h.lists, happears]
    refine and_congr_right fun ha => ⟨.inl, fun hor => hor.resolve_right ?_⟩
    rintro rfl
    simp [ht] at ha
  · rw [h.dups i hi, appears_add_iff hrun hn i.tag _ (h.long i hi).2]
    simp [hother i hi]

theorem LocatorLists.add (h : LocatorLists tagAt m loc) (hrun : ∀ k, m ≤ k → k < m + n → tagAt k = some t) (hn : 1 ≤ n)
    (hend : tagAt (m + n) ≠ some t) (ht : locatable t = true) : LocatorLists tagAt (m + n) (addRun t m n loc) := by
  have hmem : ∀ i, i ∈ addRun t m n loc ↔ _ := fun i => mem_addRun h.sorted
  have hnew : (∀ j ∈ loc, j.tag ≠ t) → ∀ k, k < m → tagAt k ≠ some t := fun hnone k hk hat => by
    obtain ⟨j, hj, htag⟩ := (h.lists t).2 ⟨ht, k, hk, hat⟩
    exact hnone j hj htag
  refine ⟨addRun_sorted t m n h.sorted, fun a => ?lists, fun i hi => ?starts, fun i hi => ?long, fun i hi => ?stands,
    fun i hi => ?ends, fun i hi => ?dups⟩
  case lists =>
    have happears := appears_add_iff hrun hn a 0 (Nat.zero_le m)
    simp only [Nat.zero_le, true_and] at happears
    rw [happears, and_or_left, ← h.lists a]
    constructor
    · rintro ⟨i, hi, rfl⟩
      rcases (hmem i).1 hi with ⟨-, rfl⟩ | ⟨hi, -⟩ | ⟨j, hj, htag, rfl⟩
      · exact .inr ⟨ht, rfl⟩
      · exact .inl ⟨i, hi, rfl⟩
      · exact .inl ⟨j, hj, rfl⟩
    · rintro (⟨i, hi, rfl⟩ | ⟨-, rfl⟩)
      · by_cases hit : i.tag = t
        · exact ⟨_, (hmem _).2 (.inr (.inr ⟨i, hi, hit, rfl⟩)), rfl⟩
        · exact ⟨i, (hmem i).2 (.inr (.inl ⟨hi, hit⟩)), rfl⟩
      · by_cases hnone : ∀ j ∈ loc, j.tag ≠ a
        · exact ⟨_, (hmem _).2 (.inl ⟨hnone, rfl⟩), rfl⟩
        · push Not at hnone
          obtain ⟨j, hj, htag⟩ := hnone
          exact ⟨_, (hmem _).2 (.inr (.inr ⟨j, hj, htag, rfl⟩)), htag⟩
  case starts =>
    rcases (hmem i).1 hi with ⟨hnone, rfl⟩ | ⟨hi, -⟩ | ⟨j, hj, -, rfl⟩
    · exact hnew hnone
    · exact h.starts i hi
    · exact h.starts j hj
  case long =>
    rcases (hmem i).1 hi with ⟨-, rfl⟩ | ⟨hi, -⟩ | ⟨j, hj, -, rfl⟩
    · exact ⟨hn, Nat.le_refl _⟩
    · exact ⟨(h.long i hi).1, Nat.le_trans (h.long i hi).2 (Nat.le_add_right m n)⟩
    · exact ⟨(h.long j hj).1, Nat.le_trans (h.long j hj).2 (Nat.le_add_right m n)⟩
  case stands =>
    rcases (hmem i).1 hi with ⟨-, rfl⟩ | ⟨hi, -⟩ | ⟨j, hj, -, rfl⟩
    · exact hrun
    · exact h.stands i hi
    · exact h.stands j hj
  case ends =>
    rcases (hmem i).1 hi with ⟨-, rfl⟩ | ⟨hi, -⟩ | ⟨j, hj, -, rfl⟩
    · exact hend
    · exact h.ends i hi
    · exact h.ends j hj
  case dups =>
    rcases (hmem i).1 hi with ⟨-, rfl⟩ | ⟨hi, hne⟩ | ⟨j, hj, htag, rfl⟩
    · refine ⟨nofun, ?_⟩
      rintro ⟨k, hl, hh, -⟩
      exact absurd hh (by simpa using hl)
    · rw [h.dups i hi, appears_add_iff hrun hn i.tag _ (h.long i hi).2]
      simp [hne]
    · exact iff_of_true rfl ((appears_add_iff hrun hn j.tag _ (h.long j hj).2).2 (.inr htag))

theorem locatorLists_foldl : ∀ (rs : List (Byte × Nat × Nat)) {m : Nat} {loc : List LocItem}, LocatorLists tagAt m loc →
    RunsTile tagAt m rs → ∃ m', tagAt m' = none ∧
      LocatorLists tagAt m' (rs.foldl (fun loc r => if locatable r.1 then addRun r.1 r.2.1 r.2.2 loc else loc) loc) := by
  intro rs
  induction rs with
  | nil => exact fun h htile => ⟨_, htile, h⟩
  | cons r rest ih =>
    obtain ⟨t, f, n⟩ := r
    rintro m loc h ⟨rfl, hn, hrun, hend, htile⟩
    rw [List.foldl_cons]
    refine ih ?_ htile
    cases ht : locatable t with
    | true => exact h.add hrun hn hend ht
    | false => exact h.skip hrun hn ht

end addRun

theorem buildLocator_lists (tags : List Byte) : ∃ m, tags.length ≤ m ∧ LocatorLists (fun k => tags[k]?) m (buildLocator tags) := by
  obtain ⟨m, hend, hlists⟩ := locatorLists_foldl (runsFrom 0 tags) (locatorLists_empty fun k => tags[k]?)
    (runsTile_runsFrom tags 0 fun j => by simp)
  exact ⟨m, List.getElem?_eq_none_iff.1 hend, hlists⟩

/-- Settles O19: the runs tile the tags, and each run that is added keeps what the items say of the tags before it. -/
theorem locatorListsTheLowestRuns : Obligations.LocatorListsTheLowestRuns := by
  intro tags
  obtain ⟨m, hm, h⟩ := buildLocator_lists tags
  have hbelow : ∀ {k t}, tags[k]? = some t → k < m := fun hat => by
    have := (List.getElem?_eq_some_iff.1 hat).1
    omega
  refine ⟨h.sorted, fun t => ?_, fun i hi => ?_⟩
  · rw [h.lists, List.mem_iff_getElem?]
    exact and_congr_right fun _ => exists_congr fun k => ⟨And.right, fun hat => ⟨hbelow hat, hat⟩⟩
  · obtain ⟨hrun, -⟩ := h.long i hi
    refine ⟨h.stands i hi _ (Nat.le_refl _) (by omega), h.starts i hi, hrun, h.stands i hi, h.ends i hi, ?_⟩
    rw [h.dups i hi]
    exact exists_congr fun k => and_congr_right fun _ => ⟨And.right, fun hat => ⟨hbelow hat, hat⟩⟩

end Sys2Proof.Machine
end

section
/-!
PROOFS. What a node drives in a slot (R15, R35, R36): the holding named for it, its bits, and the slots that wait on a run (O15).
-/

namespace Sys2Proof.Machine

/-! ### The holding of a source -/

theorem sourceOf_aspHolding (c : Fin 8) : sourceOf (aspHolding c) = .asp c := by
  revert c
  decide

theorem sourceOf_rspHolding (r : Fin 2) : sourceOf (rspHolding r) = .rsp r := by
  revert r
  decide

theorem sourceOf_cmuHolding : sourceOf cmuHolding = .cmu := by decide

/-! ### The holding named for a slot -/

section drives
variable {s : State} {k : Fin 40} {h : Fin 11}

theorem Holding.covers_iff {x : Holding} {run slot : Nat} :
    x.covers run slot = true ↔ ∃ f, x.first = some f ∧ f ≤ slot ∧ slot < f + run := by
  unfold Holding.covers
  cases x.first <;> simp

/-- R35, R36: the test by which `State.driver` picks a holding. -/
theorem namedFor_iff : NamedFor s k h ↔
    ((if s.tlu.frame = 0 then decide ((s.holding h).state = .seeking ∨ (s.holding h).state = .held)
      else decide ((s.holding h).state = .held)) && (s.holding h).covers (s.holdingRun h) k.val) = true := by
  rw [Bool.and_eq_true, Holding.covers_iff, NamedFor]
  refine and_congr_left fun _ => ?_
  by_cases hframe : s.tlu.frame = 0
  · simp [hframe, or_comm]
  · simp [hframe]

theorem State.driver_eq_some_iff : s.driver k = some h ↔ NamedFor s k h ∧ ∀ g, g < h → ¬NamedFor s k g := by
  unfold State.driver
  dsimp only
  rw [find?_eq_some_iff_lowest (indices_ascending 11)]
  simp only [mem_indices, true_and, forall_true_left, namedFor_iff, Bool.not_eq_true]

/-- R15: a slot is driven on the trunk, by the holding that is named for it, unless it is quiet there. -/
theorem State.drivesUnless_eq_some_iff {quiet : Fin 11 → Bool} {x : Byte × Bool} :
    s.drivesUnless quiet k = some (h, x) ↔ s.onTrunk = true ∧ s.driver k = some h ∧ quiet h = false ∧ s.bitsFor h k = some x := by
  unfold State.drivesUnless
  by_cases htrunk : s.onTrunk = true
  · rw [if_pos htrunk]
    cases hdriver : s.driver k with
    | none => simp
    | some g =>
      cases hquiet : quiet g with
      | true =>
        simp only [hquiet, if_true, reduceCtorEq, Option.some.injEq, false_iff]
        rintro ⟨-, rfl, hloud, -⟩
        rw [hquiet] at hloud
        cases hloud
      | false =>
        simp only [hquiet, Bool.false_eq_true, if_false, Option.map_eq_some_iff, Prod.mk.injEq, Option.some.injEq]
        constructor
        · rintro ⟨y, hy, rfl, rfl⟩
          exact ⟨htrunk, rfl, hquiet, hy⟩
        · rintro ⟨-, rfl, -, hy⟩
          exact ⟨x, hy, rfl, rfl⟩
  · rw [if_neg htrunk]
    simp [htrunk]

theorem State.drives_eq (htrunk : s.onTrunk = true) (hdriver : s.driver k = some h) (hloud : s.tlu.silenced.get h = false) :
    s.drives k = (s.bitsFor h k).map fun x => (h, x) := by
  unfold State.drives State.drivesUnless
  rw [if_pos htrunk, hdriver]
  simp [hloud]

theorem State.drivesUnless_offTrunk (quiet : Fin 11 → Bool) (hoff : s.onTrunk = false) : s.drivesUnless quiet k = none := by
  unfold State.drivesUnless
  simp [hoff]

theorem State.silencedAfter_iff : s.silencedAfter k h = true ↔ ∃ j, k < j ∧ s.tlu.mismatch.get j = some h := by
  unfold State.silencedAfter
  simp [mem_indices]

/-! ### The bits of a slot -/

theorem State.bitsFor_tag (hframe : s.tlu.frame = 0) : s.bitsFor h k = some (s.holdingTag h, true) := by
  simp [State.bitsFor, hframe]

theorem State.bitsFor_channel (hframe : s.tlu.frame ≠ 0) (c : Fin 8) : s.bitsFor (aspHolding c) k =
    some ((s.asp.ch.get c).fixed, parityBit (s.asp.ch.get c).fixed) := by
  simp [State.bitsFor, hframe, sourceOf_aspHolding]

theorem State.bitsFor_record (hframe : s.tlu.frame ≠ 0) {r : Fin 2} {f : Nat} (hfirst : (s.holding (rspHolding r)).first = some f) :
    s.bitsFor (rspHolding r) k = (s.rsp.get r).fixed[k.val - f]? := by
  simp [State.bitsFor, hframe, sourceOf_rspHolding, hfirst]

theorem State.bitsFor_message (hframe : s.tlu.frame ≠ 0) : s.bitsFor cmuHolding k = s.cmu.fixed := by
  simp [State.bitsFor, hframe, sourceOf_cmuHolding]

theorem oddParity_parityBit (b : Byte) : oddParity b (parityBit b) = true := by
  unfold oddParity parityBit
  rcases Nat.mod_two_eq_zero_or_one (ones b) with hb | hb <;> simp [hb, Nat.add_mod]

theorem toNat_eq_ite (b : Bool) : b.toNat = if b = true then 1 else 0 := by cases b <;> rfl

end drives

/-- Settles O15. -/
theorem drivesOnlyOnTheTrunk : Obligations.DrivesOnlyOnTheTrunk := by
  intro s k
  refine ⟨fun hoff => ?off, fun h byte ninth hdrives => ?drives, fun x hdrives => ?drove, fun htrunk h hnamed hfirst hloud => ?named,
    fun b ninth => ?parity, fun h x hdrove => ?waits⟩
  case off =>
    have hoff : s.onTrunk = false := by
      rw [← Bool.not_eq_true, State.onTrunk_iff]
      rcases hoff with hoff | hoff <;> simp [hoff]
    exact ⟨State.drivesUnless_offTrunk _ hoff, State.drivesUnless_offTrunk _ hoff⟩
  case drives =>
    obtain ⟨-, hdriver, hloud, hbits⟩ := State.drivesUnless_eq_some_iff.1 hdrives
    obtain ⟨⟨hstate, -⟩, -⟩ := State.driver_eq_some_iff.1 hdriver
    refine ⟨hloud, fun hframe => ?_, fun hframe => hstate.resolve_right fun h => hframe h.1⟩
    rw [State.bitsFor_tag hframe] at hbits
    obtain ⟨rfl, rfl⟩ := Prod.mk.inj (Option.some.inj hbits)
    exact ⟨rfl, rfl, hstate.symm.imp_left And.right⟩
  case drove =>
    obtain ⟨h, x⟩ := x
    obtain ⟨htrunk, hdriver, hloud, hbits⟩ := State.drivesUnless_eq_some_iff.1 hdrives
    exact State.drivesUnless_eq_some_iff.2 ⟨htrunk, hdriver, by simp [hloud], hbits⟩
  case named =>
    have hdrives := State.drives_eq (State.onTrunk_iff.2 htrunk) (State.driver_eq_some_iff.2 ⟨hnamed, hfirst⟩) hloud
    refine ⟨fun hframe => ?_, fun hframe c hc => ?_, fun hframe r f hr hslot => ?_, fun hframe hc => ?_⟩
    · rw [hdrives, State.bitsFor_tag hframe, Option.map_some]
    · subst hc
      refine ⟨parityBit (s.asp.ch.get c).fixed, ?_, oddParity_parityBit _⟩
      rw [hdrives, State.bitsFor_channel hframe, Option.map_some]
    · subst hr
      rw [hdrives, State.bitsFor_record hframe hslot]
    · subst hc
      rw [hdrives, State.bitsFor_message hframe]
  case parity =>
    rw [← toNat_eq_ite]
    exact decide_eq_true_iff
  case waits =>
    obtain ⟨htrunk, hdriver, hquiet, hbits⟩ := State.drivesUnless_eq_some_iff.1 hdrove
    cases hloud : s.tlu.silenced.get h with
    | false => exact .inl (State.drivesUnless_eq_some_iff.2 ⟨htrunk, hdriver, hloud, hbits⟩)
    | true =>
      rw [hloud, Bool.true_and, Bool.not_eq_false'] at hquiet
      exact .inr ⟨rfl, State.silencedAfter_iff.1 hquiet⟩

end Sys2Proof.Machine
end

section
/-!
PROOFS. The end of a slot (R9, R16, R17, R22): what is read back, and what a slot of the tag frame leaves (O16).
-/

namespace Sys2Proof.Machine

section slot
variable {s : State} {k : Fin 40} {line : SlotBits} {wait : Fin 13}

theorem exec_slotCompletion (hdue : s.nothingDue) (k : Fin 40) (line : SlotBits) (wait : Fin 13) :
    exec (.slotCompletion k line wait) s = .next (s.slotOutcome k line wait) := by
  rw [show exec (.slotCompletion k line wait) s = execSlotCompletion k line wait s from rfl, execSlotCompletion_eq,
    State.settle_of_nothingDue hdue]

theorem State.slotOutcome_tag (htrunk : s.tlu.link = .locked ∨ s.tlu.link = .leading) (hframe : s.tlu.frame = 0)
    (hdone : s.tlu.slotsDone ≤ k.val) : s.slotOutcome k line wait = (s.withReadBack k line).tagSlot k line.byte wait := by
  unfold State.slotOutcome
  rw [if_pos ⟨State.onTrunk_iff.2 htrunk, hdone⟩, if_pos hframe]

theorem State.slotOutcome_data (htrunk : s.tlu.link = .locked ∨ s.tlu.link = .leading) (hframe : s.tlu.frame ≠ 0)
    (hdone : s.tlu.slotsDone ≤ k.val) :
    s.slotOutcome k line wait = (s.withReadBack k line).dataSlot k line.byte line.ninth wait := by
  unfold State.slotOutcome
  rw [if_pos ⟨State.onTrunk_iff.2 htrunk, hdone⟩, if_neg hframe]

/-! ### The read-back -/

theorem State.readBack_driven {h : Fin 11} {x : Byte × Bool} (hdrove : s.drove k = some (h, x)) (hdone : s.tlu.slotsDone ≤ k.val) :
    s.readBack k = s.silence k h := by
  unfold State.readBack
  simp [hdrove, hdone]

theorem State.readBack_undriven (hdrove : s.drove k = none) : s.readBack k = s := by
  unfold State.readBack
  simp [hdrove]

theorem State.withReadBack_undriven (hdrove : s.drove k = none) (line : SlotBits) : s.withReadBack k line = s := by
  unfold State.withReadBack
  rw [State.readBack_undriven hdrove, ite_self]

/-- R16: in frame 0 the eight bits of the tag are compared. -/
theorem State.withReadBack_tag {h : Fin 11} {tag : Byte} {n : Bool} (hdrove : s.drove k = some (h, tag, n))
    (hframe : s.tlu.frame = 0) (hdone : s.tlu.slotsDone ≤ k.val) (line : SlotBits) :
    s.withReadBack k line = if tag = line.byte then s else s.silence k h := by
  unfold State.withReadBack State.readsDifferent
  rw [State.readBack_driven hdrove hdone]
  by_cases htag : tag = line.byte <;> simp [hdrove, hframe, htag]

theorem State.silence_lost (k : Fin 40) (h : Fin 11) (s : State) : (s.silence k h).resultOf k = some ⟨k.val, h, true⟩ := by
  simp [State.resultOf, State.loserOf, State.silence]

theorem State.resultOf_lost {h : Fin 11} (hlost : s.tlu.mismatch.get k = some h) : s.resultOf k = some ⟨k.val, h, true⟩ := by
  simp [State.resultOf, State.loserOf, hlost]

theorem State.resultOf_matched (hmatch : s.tlu.mismatch.get k = none) :
    s.resultOf k = (s.drove k).map fun d => ⟨k.val, d.1, false⟩ := by
  simp [State.resultOf, State.loserOf, hmatch]

/-- R22: a slot of the tag frame before slot 39 collects its byte and its result. -/
theorem State.tagSlot_collects (hk : k.val < 39) (byte : Byte) (s : State) :
    s.tagSlot k byte wait = (s.collect k byte (s.resultOf k)).slotOver k wait := by
  unfold State.tagSlot
  dsimp only
  rw [if_neg (Nat.ne_of_lt hk)]

end slot

/-- Settles O16. -/
theorem tagSlotsAreCollectedAndReadBack : Obligations.TagSlotsAreCollectedAndReadBack := by
  intro k byte ninth wait s hdue hdone
  have hread : exec (.readBackMismatch k) s = .next (s.readBack k) := by
    rw [show exec (.readBackMismatch k) s = .next (s.settle.readBack k) from rfl, State.settle_of_nothingDue hdue]
  refine ⟨fun h d hdrove => ?_, fun hdrove => ?_, fun htrunk hframe hk => ⟨fun hdrove hmatch => ?undriven,
    fun h hdrove hlost => ?lost, fun h tag n hdrove hmatch => ?driven⟩⟩
  · rw [hread, State.readBack_driven hdrove hdone]
    rfl
  · rw [hread, State.readBack_undriven hdrove]
  all_goals
    rw [exec_slotCompletion hdue, State.slotOutcome_tag htrunk hframe hdone, State.tagSlot_collects hk]
  case undriven =>
    rw [State.withReadBack_undriven hdrove, State.resultOf_matched hmatch, hdrove]
    rfl
  case lost =>
    rw [State.withReadBack_undriven hdrove, State.resultOf_lost hlost]
    rfl
  case driven =>
    rw [State.withReadBack_tag hdrove hframe hdone]
    by_cases htag : tag = byte
    · rw [if_pos htag, State.resultOf_matched hmatch, hdrove]
      simp [htag, State.collect, State.slotOver, slotEnd]
    · rw [if_neg htag, State.silence_lost]
      simp [htag, State.collect, State.slotOver, State.silence, slotEnd, table_set_set]

end Sys2Proof.Machine
end

section
/-!
PROOFS. A slot of a data frame (R25, R38, R74, R113): the order in which the blocks take it, and what a data collision does (O20).
-/

namespace Sys2Proof.Machine

/-! ### A holding that leaves HELD (R37, R38, R61, R72) -/

theorem sourceOf_eq_rsp_iff {h : Fin 11} {r : Fin 2} : sourceOf h = .rsp r ↔ h = rspHolding r := by
  revert h r
  decide

theorem sourceOf_eq_cmu_iff {h : Fin 11} : sourceOf h = .cmu ↔ h = cmuHolding := by
  revert h
  decide

theorem rspHolding_injective {r q : Fin 2} : rspHolding r = rspHolding q ↔ r = q := by
  revert r q
  decide

/-- R61: the records of the channel whose holding leaves HELD wait again from their first bytes. -/
theorem State.sourceReleased_rsp (h : Fin 11) (s : State) (r : Fin 2) :
    (s.sourceReleased h).rsp.get r = if h = rspHolding r then (s.rsp.get r).restart else s.rsp.get r := by
  unfold State.sourceReleased
  cases hsource : sourceOf h with
  | asp c =>
    have hne : h ≠ rspHolding r := fun heq => by rw [sourceOf_eq_rsp_iff.2 heq] at hsource; cases hsource
    rw [if_neg hne]
  | rsp q =>
    obtain rfl := sourceOf_eq_rsp_iff.1 hsource
    simp only [State.rspRestart, State.setRsp, Table.get_set, rspHolding_injective]
    split
    · next heq => subst heq; rfl
    · rfl
  | cmu =>
    have hne : h ≠ rspHolding r := fun heq => by rw [sourceOf_eq_rsp_iff.2 heq] at hsource; cases hsource
    rw [if_neg hne]
    dsimp only
    split <;> rfl

theorem State.sourceReleased_cmu_other {h : Fin 11} (hne : h ≠ cmuHolding) (s : State) : (s.sourceReleased h).cmu = s.cmu := by
  unfold State.sourceReleased
  cases hsource : sourceOf h with
  | asp c => rfl
  | rsp q => rfl
  | cmu => exact absurd (sourceOf_eq_cmu_iff.1 hsource) hne

/-- R72: the message that was being sent is sent again from its first byte. -/
theorem State.sourceReleased_cmu_own (s : State) : let c := (s.sourceReleased cmuHolding).cmu
    c.pos = none ∧ c.queue.map (·.bytes) = s.cmu.queue.map (·.bytes) ∧ ∀ q, c.queue.head? = some q → q.sentIn = none := by
  unfold State.sourceReleased
  rw [sourceOf_cmuHolding]
  dsimp only
  split
  case isTrue hbusy =>
    refine ⟨rfl, by simp [State.cmuRestart, Cmu.restart, Function.comp_def], fun q hq => ?_⟩
    obtain ⟨x, -, rfl⟩ := List.mem_map.1 (List.mem_of_mem_head? hq)
    rfl
  case isFalse hbusy =>
    rw [Bool.not_eq_true, Cmu.busy, Bool.or_eq_false_iff] at hbusy
    obtain ⟨hpos, hhead⟩ := hbusy
    refine ⟨Option.not_isSome_iff_eq_none.1 (by simp [hpos]), rfl, fun q hq => ?_⟩
    cases hqueue : s.cmu.queue with
    | nil => simp [hqueue] at hq
    | cons i rest =>
      rw [hqueue] at hhead hq
      obtain rfl := Option.some.inj hq
      exact Option.not_isSome_iff_eq_none.1 (by simp [hhead])

section leaveHeld
variable (h : Fin 11) (x : Holding) (s : State)

theorem State.leaveHeld_rsp (r : Fin 2) :
    (s.leaveHeld h x).rsp.get r = if h = rspHolding r then (s.rsp.get r).restart else s.rsp.get r :=
  State.sourceReleased_rsp h _ r

theorem State.leaveHeld_cmu_other (hne : h ≠ cmuHolding) : (s.leaveHeld h x).cmu = s.cmu := State.sourceReleased_cmu_other hne _

theorem State.leaveHeld_cmu_own : let c := (s.leaveHeld cmuHolding x).cmu
    c.pos = none ∧ c.queue.map (·.bytes) = s.cmu.queue.map (·.bytes) ∧ ∀ q, c.queue.head? = some q → q.sentIn = none :=
  State.sourceReleased_cmu_own
    { s with smu := { s.smu with holdings := s.smu.holdings.set cmuHolding x, map := disown s.smu.map cmuHolding } }

end leaveHeld

theorem disown_own (map : Table 40 SlotEntry) (h : Fin 11) (k : Fin 40) : ((disown map h).get k).own ≠ some h := by
  unfold disown
  rw [Table.get_map]
  split
  · simp
  · assumption

/-! ### The blocks in turn -/

/-- R38: what the SMU makes of the slot, before the lanes and the receivers take it. -/
def State.slotSettled (k : Fin 40) (byte : Byte) (ninth : Bool) (wait : Fin 13) (s : State) : State :=
  let u := (s.slotOver k wait).countParity k byte ninth
  match s.loserOf k with
  | some h => u.collide h
  | none => u

theorem State.dataSlot_eq (k : Fin 40) (byte : Byte) (ninth : Bool) (wait : Fin 13) (s : State) :
    s.dataSlot k byte ninth wait = ((s.slotSettled k byte ninth wait).lcuTake k.val byte ninth).receiversTake k.val byte ninth := rfl

section slot
variable (k : Fin 40) (byte : Byte) (ninth : Bool) (wait : Fin 13) (slot : Nat) (s : State)

theorem State.laneTake_counter {c : Counter} (h : c ≠ .parityErrors) (i : Fin 24) :
    (s.laneTake slot byte ninth i).counter c = s.counter c := by
  unfold State.laneTake
  dsimp only
  split
  · split
    · rw [State.counter_bump, if_neg (Ne.symm h)]
      rfl
    · rfl
  · rfl

/-- R119 to R121: the counter of an assembler's output. -/
def AsmOut.counter : AsmOut → Option Counter
  | .short => some .shortRecords
  | .overlong => some .overlongRecords
  | .checkError => some .recordCheckErrors
  | .nothing | .good _ => none

theorem State.counter_lossReport (tag : Byte) (c : Counter) : (s.lossReport tag).counter c = s.counter c := rfl

theorem State.asmOut_counter (tag : Byte) (o : AsmOut) (c : Counter) : (s.asmOut tag o).counter c =
    if o.counter = some c then satInc (s.counter c) else s.counter c := by
  cases o <;> simp only [State.asmOut, AsmOut.counter, reduceCtorEq, if_false, State.counter_lossReport, State.counter_bump,
    Option.some.injEq]
  rfl

theorem State.asmTake_counter {c : Counter} (hshort : c ≠ .shortRecords) (hlong : c ≠ .overlongRecords)
    (hcheck : c ≠ .recordCheckErrors) (i : Fin 8) : (s.asmTake slot byte ninth i).counter c = s.counter c := by
  unfold State.asmTake
  dsimp only
  split
  · rfl
  · split
    · rw [State.asmOut_counter, if_neg]
      · rfl
      · generalize (Assembler.take _ byte ninth).2 = o
        cases o <;> simp [AsmOut.counter, Ne.symm hshort, Ne.symm hlong, Ne.symm hcheck]
    · rfl

/-- R113: the lanes of a slot, and then the assemblers. -/
def State.lanesTaken : State := (indices 24).foldl (fun s i => s.laneTake slot byte ninth i) s

theorem State.lanesTaken_eq : s.lanesTaken byte ninth slot = (indices 24).foldl (fun s i => s.laneTake slot byte ninth i) s := rfl

def State.assemblersTaken : State := (indices 8).foldl (fun s i => s.asmTake slot byte ninth i) s

theorem State.assemblersTaken_eq :
    s.assemblersTaken byte ninth slot = (indices 8).foldl (fun s i => s.asmTake slot byte ninth i) s := rfl

theorem State.lcuTake_eq : s.lcuTake slot byte ninth = (s.lanesTaken byte ninth slot).assemblersTaken byte ninth slot := rfl

theorem State.lanesTaken_counter {c : Counter} (h : c ≠ .parityErrors) : (s.lanesTaken byte ninth slot).counter c = s.counter c := by
  rw [State.lanesTaken_eq]
  exact foldl_keeps (I := fun t : State => t.counter c = s.counter c) (fun t i ht => (t.laneTake_counter byte ninth slot h i).trans ht)
    (indices 24) rfl

theorem State.assemblersTaken_counter {c : Counter} (hshort : c ≠ .shortRecords) (hlong : c ≠ .overlongRecords)
    (hcheck : c ≠ .recordCheckErrors) : (s.assemblersTaken byte ninth slot).counter c = s.counter c := by
  rw [State.assemblersTaken_eq]
  exact foldl_keeps (I := fun t : State => t.counter c = s.counter c)
    (fun t i ht => (t.asmTake_counter byte ninth slot hshort hlong hcheck i).trans ht) (indices 8) rfl

theorem State.receiverTake_counter {c : Counter} (h : c ≠ .badMessages) (i : Fin 4) :
    (s.receiverTake slot byte ninth i).counter c = s.counter c := by
  unfold State.receiverTake
  dsimp only
  split
  · rw [State.counter_bumpN, if_neg (Ne.symm h)]
    rfl
  · rfl

/-- R74: every receiver that follows the slot has taken it. -/
theorem State.receiversTake_eq : s.receiversTake slot byte ninth = (indices 4).foldl (fun s i => s.receiverTake slot byte ninth i) s :=
  rfl

theorem State.receiversTake_counter {c : Counter} (h : c ≠ .badMessages) : (s.receiversTake slot byte ninth).counter c = s.counter c := by
  rw [State.receiversTake_eq]
  exact foldl_keeps (I := fun t : State => t.counter c = s.counter c) (fun t i ht => (t.receiverTake_counter byte ninth slot h i).trans ht)
    (indices 4) rfl

theorem State.receiverTake_cmu (i : Fin 4) : (s.receiverTake slot byte ninth i).cmu =
    { s.cmu with
      rx := (s.receiverTake slot byte ninth i).cmu.rx, dispatch := (s.receiverTake slot byte ninth i).cmu.dispatch } := by
  unfold State.receiverTake
  dsimp only
  split
  · rw [State.bumpN_eq]
  · rfl

/-- R74: the receivers and the messages that they complete are all that a slot changes of the CMU. -/
theorem State.receiversTake_cmu : (s.receiversTake slot byte ninth).cmu = { s.cmu with
    rx := (s.receiversTake slot byte ninth).cmu.rx, dispatch := (s.receiversTake slot byte ninth).cmu.dispatch } := by
  rw [State.receiversTake_eq]
  refine foldl_keeps (I := fun t : State => t.cmu = { s.cmu with rx := t.cmu.rx, dispatch := t.cmu.dispatch }) (fun t i ht => ?_)
    (indices 4) rfl
  rw [State.receiverTake_cmu, ht]

/-- What the lanes, the assemblers and the receivers leave of a data slot as the SMU settled it. -/
theorem State.dataSlot_keeps : let t := s.dataSlot k byte ninth wait; let u := s.slotSettled k byte ninth wait
    t.tlu = u.tlu ∧ t.smu = u.smu ∧ t.rsp = u.rsp ∧ t.cmu.queue = u.cmu.queue ∧ t.cmu.pos = u.cmu.pos ∧
      t.counter .dataCollisions = u.counter .dataCollisions := by
  dsimp only
  rw [State.dataSlot_eq]
  refine ⟨by simp, by simp, by simp, ?_, ?_, ?_⟩
  · rw [State.receiversTake_cmu]
    simp
  · rw [State.receiversTake_cmu]
    simp
  · rw [State.receiversTake_counter _ _ _ _ (by decide), State.lcuTake_eq,
      State.assemblersTaken_counter _ _ _ _ (by decide) (by decide) (by decide), State.lanesTaken_counter _ _ _ _ (by decide)]

end slot

/-! ### The collision (R38) -/

/-- R25: the parity count of a slot is all that the SMU adds before a collision. -/
theorem State.countParity_smu (k : Fin 40) (byte : Byte) (ninth : Bool) (s : State) :
    (s.countParity k byte ninth).smu = { s.smu with running := (s.countParity k byte ninth).smu.running } := by
  unfold State.countParity
  split <;> rfl

theorem State.collide_held {h : Fin 11} {s : State} (hheld : (s.holding h).state = .held) : s.collide h =
    (s.leaveHeld h { s.holding h with
      state := .backoff, first := none, backoff := s.cfl.address % 8 + 1, backoffDue := false }).bump .dataCollisions := by
  unfold State.collide
  dsimp only
  rw [if_pos hheld]

theorem State.takeBackoff_due {h : Fin 11} {s : State} (hdue : (s.holding h).backoffDue = true) (hstate : (s.holding h).state = .backoff) :
    s.takeBackoff h = s.setHolding h { s.holding h with state := .seeking, first := none, backoffDue := false } := by
  unfold State.takeBackoff
  dsimp only
  rw [if_pos ⟨hdue, hstate⟩]

/-- Settles O20. -/
theorem dataCollisionStartsABackoff : Obligations.DataCollisionStartsABackoff := by
  refine fun h s => ⟨fun k byte ninth wait hdue htrunk hframe hdone hlost hdrove hheld => ?collision, fun hstate hbackoff => ?expiry⟩
  case collision =>
    refine ⟨_, exec_slotCompletion hdue _ _ _, ?_⟩
    rw [State.slotOutcome_data htrunk hframe hdone, State.withReadBack_undriven hdrove]
    obtain ⟨htlu, hsmu, hrsp, hqueue, hpos, hcounter⟩ := s.dataSlot_keeps k byte ninth wait
    generalize s.dataSlot k byte ninth wait = t at htlu hsmu hrsp hqueue hpos hcounter ⊢
    have hparity := (s.slotOver k wait).countParity_smu k byte ninth
    have hholding : ∀ g, ((s.slotOver k wait).countParity k byte ninth).holding g = s.holding g := fun g => by
      rw [State.holding, hparity]
      rfl
    have hsettled : s.slotSettled k byte ninth wait = ((s.slotOver k wait).countParity k byte ninth).collide h := by
      unfold State.slotSettled
      rw [show s.loserOf k = some h from hlost]
    rw [hsettled, State.collide_held (by rw [hholding]; exact hheld), hholding] at htlu hsmu hrsp hqueue hpos hcounter
    have hu : let u := (s.slotOver k wait).countParity k byte ninth
        u.tlu = (s.slotOver k wait).tlu ∧ u.rsp = s.rsp ∧ u.cmu = s.cmu ∧ u.cfl = s.cfl ∧ u.counters = s.counters := by simp
    generalize (s.slotOver k wait).countParity k byte ninth = u at hu hparity htlu hsmu hrsp hqueue hpos hcounter
    obtain ⟨hutlu, hursp, hucmu, hucfl, hucounters⟩ := hu
    simp only [State.bump_tlu, State.bump_smu, State.bump_rsp, State.bump_cmu, State.leaveHeld_frame, State.leaveHeld_smu, hutlu]
      at htlu hsmu hrsp hqueue hpos
    simp only [State.holding, hsmu, htlu, hucfl, Table.get_set_self]
    refine ⟨trivial, trivial, trivial, trivial, disown_own _ _, fun g hg => ?_, ?_, ?_, fun j hj => ?_, rfl, fun r => ?_,
      fun hc => ?_, fun hc => ?_⟩
    · rw [Table.get_set_of_ne _ _ (Ne.symm hg), hparity]
      rfl
    · rw [hcounter, State.counter_bump, if_pos rfl, State.counter, (State.leaveHeld_frame _ _ u).2.1, hucounters]
      rfl
    · exact Table.get_set_self _ _ _
    · exact Table.get_set_of_ne _ _ (Ne.symm hj)
    · rw [hrsp, State.leaveHeld_rsp, hursp]
      rfl
    · subst hc
      rw [hpos, hqueue, ← hucmu]
      exact State.leaveHeld_cmu_own _ _
    · rw [hpos, hqueue, State.leaveHeld_cmu_other _ _ _ hc, hucmu]
      exact ⟨rfl, rfl⟩
  case expiry =>
    rw [show exec (.backoffExpiry h) s = .next (s.takeBackoff h) from rfl, State.takeBackoff_due hbackoff hstate]

end Sys2Proof.Machine
end

section
/-!
PROOFS. What the lanes, the assemblers and the receivers make of a slot of a data frame (R74, R75, R115, R118 to R121).
-/

namespace Sys2Proof.Machine

/-! ### Folds that gather -/

/-- A fold over indices whose steps leave each other's views: what it gathers is gathered from the first views. -/
theorem foldl_gathers {σ α β γ : Type} {f : σ → α → σ} {V : σ → α → β} {A : σ → γ} {g : β → γ → γ}
    (hother : ∀ s a b, b ≠ a → V (f s a) b = V s b) (hgather : ∀ s a, A (f s a) = g (V s a) (A s)) {l : List α} (hl : l.Nodup)
    (s : σ) : A (l.foldl f s) = l.foldl (fun c a => g (V s a) c) (A s) := by
  induction l generalizing s with
  | nil => rfl
  | cons a l ih =>
    obtain ⟨ha, hl⟩ := List.nodup_cons.1 hl
    rw [List.foldl_cons, List.foldl_cons, ih hl, hgather]
    exact List.foldl_ext _ _ _ fun c b hb => by rw [hother s a b fun h => ha (h ▸ hb)]

theorem foldl_append_toList {α β : Type} (h : α → Option β) (l : List α) (d : List β) :
    l.foldl (fun d a => d ++ (h a).toList) d = d ++ l.filterMap h := by
  induction l generalizing d with
  | nil => simp
  | cons a l ih =>
    rw [List.foldl_cons, ih]
    cases ha : h a <;> simp [ha]

theorem foldl_satInc {α : Type} (h : α → Nat) (l : List α) (c : BitVec 16) :
    l.foldl (fun c a => satInc^[h a] c) c = satInc^[(l.map h).sum] c := by
  induction l generalizing c with
  | nil => rfl
  | cons a l ih => rw [List.foldl_cons, ih, List.map_cons, List.sum_cons, Nat.add_comm, Function.iterate_add_apply]

theorem table_toList {α : Type} {n : Nat} (t : Table n α) : t.toList = (List.finRange n).map t.get := by
  refine List.ext_getElem (by simp [t.size_eq]) fun i h1 h2 => ?_
  simp [Table.get]

/-! ### The lanes (R115) -/

section lanes
variable (slot : Nat) (byte : Byte) (ninth : Bool)

/-- R115: an audio lane of the slot captures it. -/
def Lane.captures (slot : Nat) (l : Lane) : Bool := decide (l.isAudio = true ∧ l.slot = some slot)

def Lane.taken (l : Lane) : Lane := if l.captures slot = true then (l.capture byte ninth).1 else l

variable (s : State) (i : Fin 24)

theorem State.laneTake_lane : (s.laneTake slot byte ninth i).lcu.lanes.get i = (s.lcu.lanes.get i).taken slot byte ninth := by
  unfold State.laneTake Lane.taken Lane.captures
  dsimp only
  simp only [decide_eq_true_eq]
  split
  · split <;> simp [State.setLane]
  · rfl

theorem State.laneTake_lane_other (j : Fin 24) (hj : j ≠ i) :
    (s.laneTake slot byte ninth i).lcu.lanes.get j = s.lcu.lanes.get j := by
  unfold State.laneTake
  dsimp only
  split
  · split <;> simp [State.setLane, Table.get_set_of_ne _ _ (Ne.symm hj)]
  · rfl

theorem Lane.capture_parity (l : Lane) : (l.capture byte ninth).2 = decide (oddParity byte ninth = false) := by
  unfold Lane.capture
  split
  · next h => simp [h]
  · next h => split <;> simp [h]

theorem Lane.capture_stays (l : Lane) : (l.capture byte ninth).1.tag = l.tag ∧ (l.capture byte ninth).1.slot = l.slot := by
  unfold Lane.capture
  repeat' split
  all_goals exact ⟨rfl, rfl⟩

theorem Lane.taken_stays (l : Lane) : (l.taken slot byte ninth).tag = l.tag ∧ (l.taken slot byte ninth).slot = l.slot := by
  unfold Lane.taken
  split
  · exact l.capture_stays byte ninth
  · exact ⟨rfl, rfl⟩

theorem State.laneTake_parity : (s.laneTake slot byte ninth i).counter .parityErrors =
    if (s.lcu.lanes.get i).captures slot = true ∧ oddParity byte ninth = false then satInc (s.counter .parityErrors)
    else s.counter .parityErrors := by
  unfold State.laneTake Lane.captures
  dsimp only
  simp only [decide_eq_true_eq, Lane.capture_parity]
  by_cases hlane : (s.lcu.lanes.get i).isAudio = true ∧ (s.lcu.lanes.get i).slot = some slot
  · by_cases hparity : oddParity byte ninth = false
    · simp only [hlane, hparity, and_self, if_true, State.counter_bump]
      rfl
    · simp only [hlane, hparity, and_self, if_true]
      rfl
  · rw [if_neg hlane, if_neg fun h => hlane h.1]

/-- R115: every lane takes the slot by itself. -/
theorem State.lanesTaken_lane : (s.lanesTaken byte ninth slot).lcu.lanes.get i = (s.lcu.lanes.get i).taken slot byte ninth := by
  rw [State.lanesTaken_eq]
  obtain ⟨u, hu, hend⟩ := (foldl_at (V := fun (t : State) j => t.lcu.lanes.get j)
    (fun t a b hb => t.laneTake_lane_other slot byte ninth a b hb) (indices_nodup 24) s i).2 (mem_indices i)
  rw [hend, State.laneTake_lane, hu]

theorem State.lanesTaken_parity : (s.lanesTaken byte ninth slot).counter .parityErrors =
    satInc^[((List.finRange 24).filter fun l =>
      decide ((s.lcu.lanes.get l).captures slot = true ∧ oddParity byte ninth = false)).length] (s.counter .parityErrors) := by
  rw [State.lanesTaken_eq]
  exact foldl_counts (V := fun (t : State) j => t.lcu.lanes.get j)
    (P := fun l => decide (l.captures slot = true ∧ oddParity byte ninth = false))
    (fun t a b hb => t.laneTake_lane_other slot byte ninth a b hb)
    (fun t a h => by rw [State.laneTake_parity, if_pos (of_decide_eq_true h)])
    (fun t a h => by rw [State.laneTake_parity, if_neg (of_decide_eq_false h)]) (indices_nodup 24) s

/-- R115: the lanes are all that an audio lane's byte changes, beside the counter. -/
theorem State.laneTake_only : s.laneTake slot byte ninth i = { s with
    lcu := { s.lcu with lanes := (s.laneTake slot byte ninth i).lcu.lanes }
    counters := (s.laneTake slot byte ninth i).counters } := by
  unfold State.laneTake
  dsimp only
  repeat' split
  all_goals rfl

theorem State.lanesTaken_only : s.lanesTaken byte ninth slot = { s with
    lcu := { s.lcu with lanes := (s.lanesTaken byte ninth slot).lcu.lanes }
    counters := (s.lanesTaken byte ninth slot).counters } := by
  rw [State.lanesTaken_eq]
  refine foldl_keeps (I := fun t : State => t = { s with lcu := { s.lcu with lanes := t.lcu.lanes }, counters := t.counters })
    (fun t a ht => ?_) (indices 24) rfl
  exact (t.laneTake_only slot byte ninth a).trans (congrArg (fun r : State => { r with
    lcu := { r.lcu with lanes := (t.laneTake slot byte ninth a).lcu.lanes }
    counters := (t.laneTake slot byte ninth a).counters }) ht)

end lanes

/-! ### A loss report (R181) -/

/-- R181: a feed whose video was lost waits for a KEY. -/
def Feed.awaitsKey (f : Feed) : Feed := { f with state := .waitKey, waitKey := some 3000 }

/-- R181: a feed after the loss of the video `tag`. -/
def Feed.afterLoss (configured : Bool) (tag : Byte) (f : Feed) : Feed :=
  if configured = true ∧ f.video = some tag ∧ f.state = .following then f.awaitsKey else f

theorem State.lossReport_feed (tag : Byte) (s : State) (b : Fin 4) :
    (s.lossReport tag).feed b = (s.feed b).afterLoss (s.configured b) tag := by
  unfold State.lossReport State.feed Feed.afterLoss
  dsimp only
  rw [Table.get_mapIdx]
  split <;> rfl

/-- A feed after one item of a list, that loses a video or none. -/
def Feed.afterItem (configured : Bool) (lost : Option Byte) (f : Feed) : Feed :=
  match lost with
  | some v => f.afterLoss configured v
  | none => f

/-- What a run of items makes of a feed: it waits for a KEY when one of them lost the video that it followed. -/
theorem foldl_afterItem {α : Type} (configured : Bool) (lost : α → Option Byte) (l : List α) (f : Feed) :
    let loses := configured = true ∧ f.state = .following ∧ ∃ v, f.video = some v ∧ ∃ a ∈ l, lost a = some v
    let g := l.foldl (fun f a => f.afterItem configured (lost a)) f
    (loses → g = f.awaitsKey) ∧ (¬loses → g = f) := by
  induction l generalizing f with
  | nil => simp
  | cons a l ih =>
    dsimp only at ih ⊢
    rw [List.foldl_cons]
    by_cases hhit : configured = true ∧ f.state = .following ∧ ∃ v, f.video = some v ∧ lost a = some v
    · obtain ⟨hconf, hstate, v, hvideo, ha⟩ := hhit
      have hfirst : f.afterItem configured (lost a) = f.awaitsKey := by
        rw [ha, Feed.afterItem, Feed.afterLoss, if_pos ⟨hconf, hvideo, hstate⟩]
      have hnot : ¬f.awaitsKey.state = .following := by simp [Feed.awaitsKey]
      rw [hfirst, (ih f.awaitsKey).2 fun h => hnot h.2.1]
      exact ⟨fun _ => rfl, fun h => absurd ⟨hconf, hstate, v, hvideo, a, by simp, ha⟩ h⟩
    · have hfirst : f.afterItem configured (lost a) = f := by
        unfold Feed.afterItem
        cases ha : lost a with
        | none => rfl
        | some v => exact if_neg fun h => hhit ⟨h.1, h.2.2, v, h.2.1, ha⟩
      have hsame : (configured = true ∧ f.state = .following ∧ ∃ v, f.video = some v ∧ ∃ b ∈ a :: l, lost b = some v) ↔
          configured = true ∧ f.state = .following ∧ ∃ v, f.video = some v ∧ ∃ b ∈ l, lost b = some v := by
        refine and_congr_right fun hconf => and_congr_right fun hstate => exists_congr fun v => and_congr_right fun hvideo => ?_
        have hne : lost a ≠ some v := fun ha => hhit ⟨hconf, hstate, v, hvideo, ha⟩
        simp [hne]
      rw [hfirst, hsame]
      exact ih f

theorem lossesReported_of {lost : Byte → Prop} {s t : State}
    (h : ∀ b, let loses := s.configured b = true ∧ (s.feed b).state = .following ∧ ∃ v, (s.feed b).video = some v ∧ lost v
      (loses → t.feed b = (s.feed b).awaitsKey) ∧ (¬loses → t.feed b = s.feed b)) : LossesReported lost s t := by
  intro b
  obtain ⟨hloses, hkeeps⟩ := h b
  exact ⟨fun hl => by rw [hloses hl]; exact ⟨rfl, rfl⟩, fun hl => by rw [hkeeps hl]⟩

end Sys2Proof.Machine
end

section
/-!
PROOFS. The assemblers and the receivers in a slot of a data frame (R74, R75, R118 to R121), and the slot as a whole.
-/

namespace Sys2Proof.Machine

/-! ### One assembler -/

/-- R118: a lane of the assembler's stream captures the slot. -/
def Assembler.captured (lanes : Table 24 Lane) (slot : Nat) (a : Assembler) : Bool :=
  a.tag.isSome && lanes.toList.any fun l => decide (l.tag = a.tag ∧ l.slot = some slot)

/-- R118: an assembler after a slot, with its output. -/
def Assembler.taken (lanes : Table 24 Lane) (slot : Nat) (byte : Byte) (ninth : Bool) (a : Assembler) : Assembler × AsmOut :=
  if a.captured lanes slot = true then a.take byte ninth else (a, .nothing)

/-- R119, R120: the output is a loss. -/
def AsmOut.loses : AsmOut → Bool
  | .short | .overlong | .checkError => true
  | .nothing | .good _ => false

/-- R119, R120: the video that an assembler's output loses. -/
def lostVideo (x : Assembler × AsmOut) : Option Byte := if x.2.loses = true then x.1.tag else none

/-- R121: the good record that an assembler's output delivers, with its tag. -/
def deliveredRecord (x : Assembler × AsmOut) : Option (Byte × List Byte) :=
  match x.1.tag, x.2 with
  | some v, .good r => some (v, r)
  | _, _ => none

theorem Assembler.take_tag (a : Assembler) (byte : Byte) (mark : Bool) : (a.take byte mark).1.tag = a.tag := by
  unfold Assembler.take
  dsimp only
  repeat' split
  all_goals rfl

theorem Assembler.captured_congr {lanes lanes' : Table 24 Lane}
    (h : ∀ l, (lanes'.get l).tag = (lanes.get l).tag ∧ (lanes'.get l).slot = (lanes.get l).slot) (slot : Nat) (a : Assembler) :
    a.captured lanes' slot = a.captured lanes slot := by
  unfold Assembler.captured
  rw [table_toList, table_toList, List.any_map, List.any_map]
  simp only [Function.comp_def, h]

theorem Assembler.taken_congr {lanes lanes' : Table 24 Lane}
    (h : ∀ l, (lanes'.get l).tag = (lanes.get l).tag ∧ (lanes'.get l).slot = (lanes.get l).slot) (slot : Nat) (byte : Byte)
    (ninth : Bool) (a : Assembler) : a.taken lanes' slot byte ninth = a.taken lanes slot byte ninth := by
  unfold Assembler.taken
  rw [Assembler.captured_congr h]

section output
variable (tag : Byte) (o : AsmOut) (s : State) (b : Fin 4)

theorem State.asmOut_lcu : (s.asmOut tag o).lcu = s.lcu := by
  cases o <;> rfl

theorem State.asmOut_inbox : (s.asmOut tag o).sfu.inbox =
    s.sfu.inbox ++ (match o with | .good r => some (tag, r) | _ => none).toList := by
  cases o <;> simp [State.asmOut, State.lossReport]

theorem State.asmOut_feed : (s.asmOut tag o).feed b =
    (s.feed b).afterItem (s.configured b) (if o.loses = true then some tag else none) := by
  have hlost : ∀ c, ((s.bump c).lossReport tag).feed b = (s.feed b).afterLoss (s.configured b) tag := fun c =>
    State.lossReport_feed tag (s.bump c) b
  cases o with
  | nothing => rfl
  | short => exact hlost _
  | overlong => exact hlost _
  | checkError => exact hlost _
  | good r => rfl

end output

section assembler
variable (slot : Nat) (byte : Byte) (ninth : Bool) (s : State) (i : Fin 8)

/-- R118: what one assembler makes of a slot. -/
theorem State.asmTake_eq : s.asmTake slot byte ninth i =
    let x := (s.lcu.asm.get i).taken s.lcu.lanes slot byte ninth
    (s.setAsm i x.1).asmOut (x.1.tag.getD 0) x.2 := by
  have hself : s.setAsm i (s.lcu.asm.get i) = s := by simp [State.setAsm]
  unfold State.asmTake Assembler.taken Assembler.captured
  dsimp only
  cases htag : (s.lcu.asm.get i).tag with
  | none => simp [hself, State.asmOut]
  | some t =>
    simp only [Option.isSome_some, Bool.true_and]
    split
    · rw [Assembler.take_tag, htag]
      rfl
    · exact hself.symm

theorem State.asmTake_lcu : (s.asmTake slot byte ninth i).lcu = { s.lcu with
    asm := s.lcu.asm.set i ((s.lcu.asm.get i).taken s.lcu.lanes slot byte ninth).1 } := by
  rw [State.asmTake_eq]
  dsimp only
  rw [State.asmOut_lcu]
  rfl

theorem State.asmTake_asm_other (j : Fin 8) (hj : j ≠ i) : (s.asmTake slot byte ninth i).lcu.asm.get j = s.lcu.asm.get j := by
  rw [State.asmTake_lcu]
  exact Table.get_set_of_ne _ _ (Ne.symm hj)

theorem State.asmTake_count (o : AsmOut) (c : Counter) (h : o.counter = some c) : (s.asmTake slot byte ninth i).counter c =
    if ((s.lcu.asm.get i).taken s.lcu.lanes slot byte ninth).2 = o then satInc (s.counter c) else s.counter c := by
  have hone : ∀ p : AsmOut, p.counter = some c ↔ p = o := fun p => by
    cases o <;> cases h <;> cases p <;> simp [AsmOut.counter]
  rw [State.asmTake_eq]
  dsimp only
  rw [State.asmOut_counter]
  simp only [hone]
  rfl

theorem State.asmTake_inbox : (s.asmTake slot byte ninth i).sfu.inbox =
    s.sfu.inbox ++ (deliveredRecord ((s.lcu.asm.get i).taken s.lcu.lanes slot byte ninth)).toList := by
  rw [State.asmTake_eq]
  dsimp only
  rw [State.asmOut_inbox]
  have hinbox : ∀ a, (s.setAsm i a).sfu.inbox = s.sfu.inbox := fun a => rfl
  rw [hinbox]
  by_cases hcaptured : (s.lcu.asm.get i).captured s.lcu.lanes slot = true
  · have hsome : ((s.lcu.asm.get i).take byte ninth).1.tag.isSome = true := by
      rw [Assembler.take_tag]
      exact (Bool.and_eq_true_iff.1 hcaptured).1
    obtain ⟨v, hv⟩ := Option.isSome_iff_exists.1 hsome
    unfold deliveredRecord Assembler.taken
    rw [if_pos hcaptured, hv]
    cases ((s.lcu.asm.get i).take byte ninth).2 <;> rfl
  · unfold deliveredRecord Assembler.taken
    rw [if_neg hcaptured]
    cases (s.lcu.asm.get i).tag <;> rfl

theorem State.asmTake_feed (b : Fin 4) : (s.asmTake slot byte ninth i).feed b =
    (s.feed b).afterItem (s.configured b) (lostVideo ((s.lcu.asm.get i).taken s.lcu.lanes slot byte ninth)) := by
  rw [State.asmTake_eq]
  dsimp only
  rw [State.asmOut_feed]
  have hsame : (s.setAsm i ((s.lcu.asm.get i).taken s.lcu.lanes slot byte ninth).1).feed b = s.feed b := rfl
  have hconf : (s.setAsm i ((s.lcu.asm.get i).taken s.lcu.lanes slot byte ninth).1).configured b = s.configured b := rfl
  rw [hsame, hconf, lostVideo]
  unfold Assembler.taken
  split
  case isTrue hcaptured =>
    have hsome : ((s.lcu.asm.get i).take byte ninth).1.tag.isSome = true := by
      rw [Assembler.take_tag]
      exact (Bool.and_eq_true_iff.1 hcaptured).1
    obtain ⟨v, hv⟩ := Option.isSome_iff_exists.1 hsome
    rw [hv]
    rfl
  case isFalse => rfl

end assembler

/-! ### All assemblers -/

section assemblers
variable (slot : Nat) (byte : Byte) (ninth : Bool) (s : State)

/-- R118: what the assemblers make of a slot, in order. -/
def State.asmOuts : List (Assembler × AsmOut) :=
  (List.finRange 8).map fun i => (s.lcu.asm.get i).taken s.lcu.lanes slot byte ninth

theorem State.asmTake_view (t : State) (i j : Fin 8) (hj : j ≠ i) :
    ((t.asmTake slot byte ninth i).lcu.asm.get j).taken (t.asmTake slot byte ninth i).lcu.lanes slot byte ninth =
      (t.lcu.asm.get j).taken t.lcu.lanes slot byte ninth := by
  rw [State.asmTake_asm_other _ _ _ _ _ _ hj, State.asmTake_lcu]

theorem State.assemblersTaken_lanes : (s.assemblersTaken byte ninth slot).lcu.lanes = s.lcu.lanes := by
  rw [State.assemblersTaken_eq]
  exact foldl_keeps (I := fun t : State => t.lcu.lanes = s.lcu.lanes) (fun t i ht => by rw [State.asmTake_lcu]; exact ht) (indices 8) rfl

theorem State.assemblersTaken_asm : (s.assemblersTaken byte ninth slot).lcu.asm.toList =
    (s.asmOuts slot byte ninth).map (·.1) := by
  rw [table_toList, State.asmOuts, List.map_map]
  refine List.map_congr_left fun i _ => ?_
  rw [State.assemblersTaken_eq]
  obtain ⟨u, hu, hend⟩ := (foldl_at (V := fun (t : State) j => (t.lcu.asm.get j, t.lcu.lanes))
    (f := fun (t : State) j => t.asmTake slot byte ninth j)
    (fun t a b hb => by rw [State.asmTake_asm_other _ _ _ _ _ _ hb, State.asmTake_lcu]) (indices_nodup 8) s i).2 (mem_indices i)
  obtain ⟨hasm, hlanes⟩ := Prod.mk.inj hu
  rw [(Prod.mk.inj hend).1, State.asmTake_lcu, hasm, hlanes]
  exact Table.get_set_self _ _ _

theorem State.assemblersTaken_count (o : AsmOut) (c : Counter) (h : o.counter = some c) :
    (s.assemblersTaken byte ninth slot).counter c =
      satInc^[((s.asmOuts slot byte ninth).filter fun x => decide (x.2 = o)).length] (s.counter c) := by
  rw [State.assemblersTaken_eq, State.asmOuts, List.filter_map, List.length_map]
  exact foldl_counts (V := fun (t : State) j => (t.lcu.asm.get j).taken t.lcu.lanes slot byte ninth) (P := fun x => decide (x.2 = o))
    (fun t i j hj => t.asmTake_view slot byte ninth i j hj)
    (fun t i hi => by rw [State.asmTake_count _ _ _ _ _ o c h, if_pos (of_decide_eq_true hi)])
    (fun t i hi => by rw [State.asmTake_count _ _ _ _ _ o c h, if_neg (of_decide_eq_false hi)]) (indices_nodup 8) s

theorem State.assemblersTaken_inbox : (s.assemblersTaken byte ninth slot).sfu.inbox =
    s.sfu.inbox ++ (s.asmOuts slot byte ninth).filterMap deliveredRecord := by
  rw [State.assemblersTaken_eq, State.asmOuts, List.filterMap_map, ← foldl_append_toList]
  exact foldl_gathers (V := fun (t : State) j => (t.lcu.asm.get j).taken t.lcu.lanes slot byte ninth)
    (A := fun t : State => t.sfu.inbox) (g := fun x d => d ++ (deliveredRecord x).toList)
    (fun t i j hj => t.asmTake_view slot byte ninth i j hj) (fun t i => t.asmTake_inbox slot byte ninth i) (indices_nodup 8) s

theorem State.assemblersTaken_feed (b : Fin 4) :
    let loses := s.configured b = true ∧ (s.feed b).state = .following ∧
      ∃ v, (s.feed b).video = some v ∧ ∃ x ∈ s.asmOuts slot byte ninth, lostVideo x = some v
    (loses → (s.assemblersTaken byte ninth slot).feed b = (s.feed b).awaitsKey) ∧
      (¬loses → (s.assemblersTaken byte ninth slot).feed b = s.feed b) := by
  have hfold : (s.assemblersTaken byte ninth slot).feed b = (indices 8).foldl (fun f i =>
      f.afterItem (s.configured b) (lostVideo ((s.lcu.asm.get i).taken s.lcu.lanes slot byte ninth))) (s.feed b) := by
    rw [State.assemblersTaken_eq]
    exact foldl_gathers
      (V := fun (t : State) j => ((t.lcu.asm.get j).taken t.lcu.lanes slot byte ninth, t.configured b)) (A := fun t : State => t.feed b)
      (g := fun x f => f.afterItem x.2 (lostVideo x.1))
      (fun t i j hj => by rw [State.asmTake_view _ _ _ _ _ _ hj, configured_of_cfl (s := t) (by simp)])
      (fun t i => t.asmTake_feed slot byte ninth i b) (indices_nodup 8) s
  have hafter := foldl_afterItem (s.configured b) (fun i => lostVideo ((s.lcu.asm.get i).taken s.lcu.lanes slot byte ninth))
    (indices 8) (s.feed b)
  dsimp only at hafter ⊢
  rw [hfold]
  simpa [State.asmOuts, mem_indices] using hafter

end assemblers

/-! ### The receivers -/

section receivers
variable (slot : Nat) (byte : Byte) (ninth : Bool) (s : State)

/-- R74: a receiver after a slot, with the bad messages it counts and the message it completes. -/
def Receiver.taken (slot : Nat) (byte : Byte) (ninth : Bool) (r : Receiver) : Receiver × Nat × Option Message :=
  if r.tag.isSome = true ∧ r.slot = slot then r.take byte ninth else (r, 0, none)

/-- R74: what one receiver makes of a slot. -/
theorem State.receiverTake_eq (i : Fin 4) : s.receiverTake slot byte ninth i =
    let x := (s.cmu.rx.get i).taken slot byte ninth
    ({ s with cmu := { s.cmu with
        rx := s.cmu.rx.set i x.1, dispatch := s.cmu.dispatch ++ x.2.2.toList } }).bumpN .badMessages x.2.1 := by
  unfold State.receiverTake Receiver.taken
  dsimp only
  split
  · rfl
  · simp [State.bumpN]

theorem State.receiverTake_rx (i : Fin 4) : (s.receiverTake slot byte ninth i).cmu.rx =
    s.cmu.rx.set i ((s.cmu.rx.get i).taken slot byte ninth).1 := by
  rw [State.receiverTake_eq]
  dsimp only
  rw [State.bumpN_eq]

theorem State.receiverTake_view (t : State) (i j : Fin 4) (hj : j ≠ i) :
    (t.receiverTake slot byte ninth i).cmu.rx.get j = t.cmu.rx.get j := by
  rw [State.receiverTake_rx]
  exact Table.get_set_of_ne _ _ (Ne.symm hj)

theorem State.receiversTake_rx (i : Fin 4) : (s.receiversTake slot byte ninth).cmu.rx.get i =
    ((s.cmu.rx.get i).taken slot byte ninth).1 := by
  rw [State.receiversTake_eq]
  obtain ⟨u, hu, hend⟩ := (foldl_at (V := fun (t : State) j => t.cmu.rx.get j)
    (f := fun (t : State) j => t.receiverTake slot byte ninth j)
    (fun t a b hb => t.receiverTake_view slot byte ninth a b hb) (indices_nodup 4) s i).2 (mem_indices i)
  rw [hend, State.receiverTake_rx, hu]
  exact Table.get_set_self _ _ _

theorem State.receiversTake_dispatch : (s.receiversTake slot byte ninth).cmu.dispatch =
    s.cmu.dispatch ++ ((List.finRange 4).filterMap fun i => ((s.cmu.rx.get i).taken slot byte ninth).2.2) := by
  rw [State.receiversTake_eq, ← foldl_append_toList]
  exact foldl_gathers (V := fun (t : State) j => t.cmu.rx.get j) (A := fun t : State => t.cmu.dispatch)
    (g := fun r d => d ++ (r.taken slot byte ninth).2.2.toList)
    (fun t i j hj => t.receiverTake_view slot byte ninth i j hj)
    (fun t i => by rw [State.receiverTake_eq]; dsimp only; rw [State.bumpN_eq]) (indices_nodup 4) s

theorem State.receiversTake_bad : (s.receiversTake slot byte ninth).counter .badMessages =
    satInc^[((List.finRange 4).map fun i => ((s.cmu.rx.get i).taken slot byte ninth).2.1).sum] (s.counter .badMessages) := by
  rw [State.receiversTake_eq, ← foldl_satInc]
  exact foldl_gathers (V := fun (t : State) j => t.cmu.rx.get j) (A := fun t : State => t.counter .badMessages)
    (g := fun r c => satInc^[(r.taken slot byte ninth).2.1] c)
    (fun t i j hj => t.receiverTake_view slot byte ninth i j hj)
    (fun t i => by rw [State.receiverTake_eq]; dsimp only; rw [State.counter_bumpN, if_pos rfl]; rfl) (indices_nodup 4) s

end receivers

end Sys2Proof.Machine
end

section
/-!
PROOFS. A slot of a data frame as every block takes it: the assemblers and the receivers by their tables (O25 and O36 in part),
the lanes and the parity counts (O34 in part).
-/

namespace Sys2Proof.Machine

/-! ### The SMU's part (R25, R38) -/

theorem State.collide_cases (h : Fin 11) (s : State) :
    s.collide h = s ∨ ∃ x, s.collide h = (s.leaveHeld h x).bump .dataCollisions := by
  unfold State.collide
  dsimp only
  split
  · exact .inr ⟨_, rfl⟩
  · exact .inl rfl

theorem State.leaveHeld_receivers (h : Fin 11) (x : Holding) (s : State) :
    (s.leaveHeld h x).cmu.rx = s.cmu.rx ∧ (s.leaveHeld h x).cmu.dispatch = s.cmu.dispatch := by
  have hcmu := State.sourceReleased_cmu h { s with smu := { s.smu with
    holdings := s.smu.holdings.set h x, map := disown s.smu.map h } }
  unfold State.leaveHeld
  rcases hcmu with hcmu | hcmu <;> rw [hcmu] <;> exact ⟨rfl, rfl⟩

/-- R38: what a collision leaves to the lanes and the receivers. -/
theorem State.collide_keeps (h : Fin 11) (s : State) : let t := s.collide h
    t.cmu.rx = s.cmu.rx ∧ t.cmu.dispatch = s.cmu.dispatch ∧ t.smu.running = s.smu.running ∧
      ∀ c, c ≠ .dataCollisions → t.counter c = s.counter c := by
  dsimp only
  rcases s.collide_cases h with heq | ⟨x, heq⟩
  · rw [heq]
    exact ⟨rfl, rfl, rfl, fun _ _ => rfl⟩
  · obtain ⟨hrx, hdispatch⟩ := s.leaveHeld_receivers h x
    rw [heq]
    refine ⟨hrx, hdispatch, ?_, fun c hc => ?_⟩
    · rw [State.bump_smu, State.leaveHeld_smu]
    · rw [State.counter_bump, if_neg (Ne.symm hc), State.counter, (State.leaveHeld_frame h x s).2.1]
      rfl

/-- R25: the parity count of a slot. -/
theorem State.countParity_running (k : Fin 40) (byte : Byte) (ninth : Bool) (s : State) (j : Fin 40) :
    (s.countParity k byte ninth).smu.running.get j = s.smu.running.get j +
      if j = k ∧ carriesParity (s.smu.map.get k).tag = true ∧ oddParity byte ninth = false then 1 else 0 := by
  unfold State.countParity
  by_cases hcount : carriesParity (s.smu.map.get k).tag = true ∧ oddParity byte ninth = false
  · rw [if_pos hcount]
    dsimp only
    rw [Table.get_modify]
    by_cases hjk : j = k
    · subst hjk
      simp [hcount]
    · simp [hjk, Ne.symm hjk]
  · rw [if_neg hcount, if_neg fun h => hcount h.2]
    rfl

section slot
variable (k : Fin 40) (byte : Byte) (ninth : Bool) (wait : Fin 13) (s : State)

/-- What a data slot leaves unchanged before the lanes take it. -/
@[simp] theorem State.slotSettled_frame : let u := s.slotSettled k byte ninth wait
    u.pending = s.pending ∧ u.cfl = s.cfl ∧ u.svl = s.svl ∧ u.asp = s.asp ∧ u.anu = s.anu ∧ u.bcu = s.bcu ∧ u.bfs = s.bfs ∧
      u.mix = s.mix ∧ u.wku = s.wku := by
  unfold State.slotSettled
  dsimp only
  split <;> simp

/-- What the SMU leaves of a data slot to the blocks that take it next. -/
theorem State.slotSettled_keeps : let u := s.slotSettled k byte ninth wait
    u.lcu = s.lcu ∧ u.sfu = s.sfu ∧ u.cfl = s.cfl ∧ u.cmu.rx = s.cmu.rx ∧ u.cmu.dispatch = s.cmu.dispatch ∧
      u.smu.running = ((s.slotOver k wait).countParity k byte ninth).smu.running ∧
      ∀ c, c ≠ .dataCollisions → u.counter c = s.counter c := by
  have hbefore : ∀ c, ((s.slotOver k wait).countParity k byte ninth).counter c = s.counter c := fun c => by
    simp [State.counter]
  unfold State.slotSettled
  dsimp only
  cases s.loserOf k with
  | none =>
    exact ⟨by simp, by simp, by simp, by simp, by simp, rfl, fun c _ => hbefore c⟩
  | some h =>
    obtain ⟨hrx, hdispatch, hrunning, hcounter⟩ := ((s.slotOver k wait).countParity k byte ninth).collide_keeps h
    exact ⟨by simp, by simp, by simp, by simpa using hrx, by simpa using hdispatch, hrunning,
      fun c hc => (hcounter c hc).trans (hbefore c)⟩

/-- What a data frame's slot leaves in the lanes, the assemblers, the receivers and the parity counts. -/
structure DataSlotTaken (k : Fin 40) (byte : Byte) (ninth : Bool) (s t : State) : Prop where
  lane : ∀ l, t.lcu.lanes.get l = (s.lcu.lanes.get l).taken k.val byte ninth
  parityErrors : t.counter .parityErrors = satInc^[((List.finRange 24).filter fun l =>
    decide ((s.lcu.lanes.get l).captures k.val = true ∧ oddParity byte ninth = false)).length] (s.counter .parityErrors)
  running : ∀ j, t.smu.running.get j = s.smu.running.get j +
    if j = k ∧ carriesParity (s.smu.map.get k).tag = true ∧ oddParity byte ninth = false then 1 else 0
  asm : t.lcu.asm.toList = (s.asmOuts k.val byte ninth).map (·.1)
  counted : ∀ o c, AsmOut.counter o = some c →
    t.counter c = satInc^[((s.asmOuts k.val byte ninth).filter fun x => decide (x.2 = o)).length] (s.counter c)
  inbox : t.sfu.inbox = s.sfu.inbox ++ (s.asmOuts k.val byte ninth).filterMap deliveredRecord
  feed : ∀ b, let loses := s.configured b = true ∧ (s.feed b).state = .following ∧
      ∃ v, (s.feed b).video = some v ∧ ∃ x ∈ s.asmOuts k.val byte ninth, lostVideo x = some v
    (loses → t.feed b = (s.feed b).awaitsKey) ∧ (¬loses → t.feed b = s.feed b)
  rx : ∀ i, t.cmu.rx.get i = ((s.cmu.rx.get i).taken k.val byte ninth).1
  dispatch : t.cmu.dispatch = s.cmu.dispatch ++ (List.finRange 4).filterMap fun i => ((s.cmu.rx.get i).taken k.val byte ninth).2.2
  badMessages : t.counter .badMessages =
    satInc^[((List.finRange 4).map fun i => ((s.cmu.rx.get i).taken k.val byte ninth).2.1).sum] (s.counter .badMessages)

theorem counter_ne_of_output {o : AsmOut} {c : Counter} (h : o.counter = some c) :
    c ≠ .dataCollisions ∧ c ≠ .parityErrors ∧ c ≠ .badMessages := by
  cases o <;> cases h <;> decide

theorem State.dataSlot_taken : DataSlotTaken k byte ninth s (s.dataSlot k byte ninth wait) := by
  obtain ⟨hlcu, hsfu, hcfl, hrx, hdispatch, hrunning, hcounter⟩ := s.slotSettled_keeps k byte ninth wait
  rw [State.dataSlot_eq, State.lcuTake_eq]
  generalize s.slotSettled k byte ninth wait = u at *
  have hlanes := u.lanesTaken_only k.val byte ninth
  have hlane := u.lanesTaken_lane k.val byte ninth
  have hparity := u.lanesTaken_parity k.val byte ninth
  have hlanesCounter := fun c hc => u.lanesTaken_counter byte ninth k.val (c := c) hc
  generalize u.lanesTaken byte ninth k.val = v at *
  have hvasm : v.lcu.asm = s.lcu.asm := by rw [hlanes, ← hlcu]
  have hvcmu : v.cmu = u.cmu := by rw [hlanes]
  have hvfeed : ∀ b, v.feed b = s.feed b := fun b => by rw [State.feed, hlanes, State.feed, ← hsfu]
  have hvinbox : v.sfu.inbox = s.sfu.inbox := by rw [hlanes, ← hsfu]
  have hvconf : ∀ b, v.configured b = s.configured b := fun b => configured_of_cfl (by rw [hlanes]; exact hcfl) b
  have houts : v.asmOuts k.val byte ninth = s.asmOuts k.val byte ninth := by
    unfold State.asmOuts
    refine List.map_congr_left fun i _ => ?_
    rw [hvasm]
    refine Assembler.taken_congr (fun l => ?_) _ _ _ _
    rw [hlane, hlcu]
    exact (s.lcu.lanes.get l).taken_stays k.val byte ninth
  have hasmKeeps : (v.assemblersTaken byte ninth k.val).cmu = v.cmu ∧ (v.assemblersTaken byte ninth k.val).smu = v.smu := by
    rw [State.assemblersTaken_eq]
    exact foldl_keeps (I := fun t : State => t.cmu = v.cmu ∧ t.smu = v.smu) (fun t i ht => by simpa using ht) (indices 8) ⟨rfl, rfl⟩
  obtain ⟨hacmu, hasmu⟩ := hasmKeeps
  refine ⟨fun l => ?_, ?_, fun j => ?_, ?_, fun o c ho => ?_, ?_, fun b => ?_, fun i => ?_, ?_, ?_⟩
  · rw [(State.receiversTake_frame _ _ _ _).2.2.2.2.2.2.2.2.1, State.assemblersTaken_lanes, hlane, hlcu]
  · rw [State.receiversTake_counter _ _ _ _ (by decide), State.assemblersTaken_counter _ _ _ _ (by decide) (by decide) (by decide),
      hparity, hlcu, hcounter _ (by decide)]
  · rw [(State.receiversTake_frame _ _ _ _).2.2.2.2.1, hasmu, hlanes]
    dsimp only
    rw [hrunning, State.countParity_running]
    rfl
  · rw [(State.receiversTake_frame _ _ _ _).2.2.2.2.2.2.2.2.1, State.assemblersTaken_asm, houts]
  · obtain ⟨hcollision, hnoParity, hbad⟩ := counter_ne_of_output ho
    rw [State.receiversTake_counter _ _ _ _ hbad, State.assemblersTaken_count _ _ _ _ o c ho, houts, hlanesCounter c hnoParity,
      hcounter c hcollision]
  · rw [(State.receiversTake_frame _ _ _ _).2.2.2.2.2.2.2.2.2.2.2.2.2, State.assemblersTaken_inbox, houts, hvinbox]
  · have hfeed := v.assemblersTaken_feed k.val byte ninth b
    have hsame : ((v.assemblersTaken byte ninth k.val).receiversTake k.val byte ninth).feed b =
        (v.assemblersTaken byte ninth k.val).feed b := by
      rw [State.feed, (State.receiversTake_frame _ _ _ _).2.2.2.2.2.2.2.2.2.2.2.2.2]
      rfl
    rw [hsame]
    rwa [hvconf, hvfeed, houts] at hfeed
  · rw [State.receiversTake_rx, hacmu, hvcmu, hrx]
  · rw [State.receiversTake_dispatch, hacmu, hvcmu, hrx, hdispatch]
  · rw [State.receiversTake_bad, hacmu, hvcmu, hrx, State.assemblersTaken_counter _ _ _ _ (by decide) (by decide) (by decide),
      hlanesCounter _ (by decide), hcounter _ (by decide)]

end slot

section outcome
variable {k : Fin 40} {byte : Byte} {ninth : Bool} {wait : Fin 13} {s : State} (hdue : s.nothingDue)
  (htrunk : s.tlu.link = .locked ∨ s.tlu.link = .leading) (hframe : s.tlu.frame ≠ 0) (hdone : s.tlu.slotsDone ≤ k.val)
include hdue htrunk hframe hdone

/-- A completion in a data frame, after the read-back that it implies. -/
theorem exec_dataSlot : exec (.slotCompletion k ⟨byte, ninth⟩ wait) s =
    .next ((s.withReadBack k ⟨byte, ninth⟩).dataSlot k byte ninth wait) := by
  rw [exec_slotCompletion hdue, State.slotOutcome_data htrunk hframe hdone]

theorem dataSlotTaken_exec : ∃ t, exec (.slotCompletion k ⟨byte, ninth⟩ wait) s = .next t ∧ DataSlotTaken k byte ninth s t ∧
    t = { s with
      tlu := t.tlu, smu := t.smu, rsp := t.rsp, cmu := t.cmu, lcu := t.lcu, sfu := t.sfu, counters := t.counters } := by
  refine ⟨_, exec_dataSlot hdue htrunk hframe hdone, ?_, ?_⟩
  · obtain ⟨lane, parityErrors, running, asm, counted, inbox, feed, rx, dispatch, badMessages⟩ :=
      (s.withReadBack k ⟨byte, ninth⟩).dataSlot_taken k byte ninth wait
    have houts : (s.withReadBack k ⟨byte, ninth⟩).asmOuts k.val byte ninth = s.asmOuts k.val byte ninth := by
      simp [State.asmOuts]
    have hconf : ∀ b, (s.withReadBack k ⟨byte, ninth⟩).configured b = s.configured b := fun b =>
      State.configured_of_cfl (by simp) b
    have hfeed : ∀ b, (s.withReadBack k ⟨byte, ninth⟩).feed b = s.feed b := fun b => by simp [State.feed]
    have hcounter : ∀ c, (s.withReadBack k ⟨byte, ninth⟩).counter c = s.counter c := fun c => by simp [State.counter]
    simp only [hconf, hfeed, hcounter, houts, State.withReadBack_frame] at lane parityErrors running counted inbox asm feed rx
    simp only [hcounter, State.withReadBack_frame] at dispatch badMessages
    exact ⟨lane, parityErrors, running, asm, counted, inbox, feed, rx, dispatch, badMessages⟩
  · ext1 <;> simp [State.dataSlot_eq]

end outcome

end Sys2Proof.Machine
end

section
/-!
PROOFS. A receiver that takes a whole message and an assembler that takes a whole record, and their tables (R74, R75, R118 to R120).
-/

namespace Sys2Proof.Machine

/-- The first byte of a message or a record is marked, and the others are not. -/
theorem mapIdx_marked (b : Byte) (l : List Byte) : ((b :: l).mapIdx fun i x => (x, decide (i = 0))) =
    (b, true) :: l.map fun x => (x, false) := by
  rw [List.mapIdx_cons]
  exact congrArg ((b, true) :: ·) (List.ext_getElem (by simp) (by simp))

/-! ### The receiver's table (R74) -/

theorem receiverFollowsTheTable (r : Receiver) (byte : Byte) (mark : Bool) : ReceiverFollowsTheTable r byte mark := by
  refine ⟨fun hm h1 h7 => ?opens, fun hm hidle => ?ends, fun hm hkind hidle => ?skips, fun hm hstate => ?waits,
    fun hm hstate => ⟨fun h => ?_, fun h => ?_, fun h0 h => ?_⟩, fun hm hstate => ⟨fun h => ?_, fun h => ?_⟩,
    fun hm hstate => ⟨fun h => ?_, fun h hp => ?_, fun m h hp => ?_⟩⟩
  all_goals subst hm
  case opens =>
    have hopen : r.openMessage byte = ({ r with state := .length, bytes := [byte], xor := byte }, 0) := if_pos ⟨h1, h7⟩
    cases hs : r.state <;> simp [Receiver.take, hs, hopen]
  case ends =>
    subst hidle
    cases hs : r.state <;> simp [Receiver.take, Receiver.openMessage, hs]
  case skips =>
    have hopen : r.openMessage byte = ({ r with state := .skip, bytes := [], xor := 0 }, 1) := by
      unfold Receiver.openMessage
      rw [if_neg, if_neg hidle]
      rintro ⟨h1, h7⟩
      rcases hkind with rfl | hkind
      · exact absurd h1 (by decide)
      · exact absurd h7 (Nat.not_le.2 hkind)
    cases hs : r.state <;> simp [Receiver.take, hs, hopen]
  case waits => rcases hstate with hs | hs <;> simp [Receiver.take, hs]
  · simp [Receiver.take, hstate, h]
  · subst h
    simp [Receiver.take, Receiver.store, hstate]
  · have hne : byte.toNat ≠ 0 := fun hz => h0 (BitVec.eq_of_toNat_eq hz)
    simp [Receiver.take, Receiver.store, hstate, Nat.not_lt.2 h, hne]
  · have hlen : (r.bytes ++ [byte]).length = 2 + (r.bytes.getD 1 0).toNat := h
    simp only [Receiver.take, Receiver.store, hstate, Bool.false_eq_true, if_false, hlen, if_true]
  · have hlen : ¬(r.bytes ++ [byte]).length = 2 + (r.bytes.getD 1 0).toNat := h
    simp only [Receiver.take, Receiver.store, hstate, Bool.false_eq_true, if_false, hlen]
  · simp [Receiver.take, hstate, h]
  · simp only [Receiver.take, hstate, Bool.false_eq_true, if_false, if_pos h, hp]
  · simp only [Receiver.take, hstate, Bool.false_eq_true, if_false, if_pos h, hp]

/-! ### A whole message (R75) -/

/-- A receiver at one more byte, with the bad messages that it has counted and the messages that it has completed. -/
def Receiver.feed (x : Receiver × Nat × List Message) (b : Byte × Bool) : Receiver × Nat × List Message :=
  ((x.1.take b.1 b.2).1, x.2.1 + (x.1.take b.1 b.2).2.1, x.2.2 ++ (x.1.take b.1 b.2).2.2.toList)

theorem Receiver.feed_quiet {r r' : Receiver} {byte : Byte} {mark : Bool} (h : r.take byte mark = (r', 0, none)) (n : Nat)
    (ms : List Message) : Receiver.feed (r, n, ms) (byte, mark) = (r', n, ms) := by
  simp [Receiver.feed, h]

/-- R74: the payload's bytes fill a message up to its check byte. -/
theorem Receiver.feed_payload (n : Nat) (ms : List Message) : ∀ (rest : List Byte) (r : Receiver), r.state = .body → rest ≠ [] →
    2 ≤ r.bytes.length → r.bytes.length + rest.length = 2 + (r.bytes.getD 1 0).toNat →
    (rest.map fun x => (x, false)).foldl Receiver.feed (r, n, ms) =
      ({ r with state := .check, bytes := r.bytes ++ rest, xor := rest.foldl (· ^^^ ·) r.xor }, n, ms) := by
  intro rest
  induction rest with
  | nil => exact fun r _ h => absurd rfl h
  | cons b rest ih =>
    intro r hstate _ htwo hlen
    obtain ⟨-, -, -, -, -, hbody, -⟩ := receiverFollowsTheTable r b false
    obtain ⟨hlast, hmore⟩ := hbody rfl hstate
    dsimp only at hlast hmore
    rw [List.length_cons] at hlen
    rw [List.map_cons, List.foldl_cons]
    cases rest with
    | nil =>
      rw [Receiver.feed_quiet (hlast (by rw [List.length_append]; simpa using hlen))]
      rfl
    | cons c rest =>
      have hfirst : (r.bytes ++ [b]).getD 1 0 = r.bytes.getD 1 0 := List.getD_append _ _ _ _ (by omega)
      have hstep : r.take b false = ({ r with bytes := r.bytes ++ [b], xor := r.xor ^^^ b }, 0, none) :=
        hmore (by rw [List.length_append, List.length_singleton]; rw [List.length_cons] at hlen; omega)
      rw [Receiver.feed_quiet hstep, ih { r with bytes := r.bytes ++ [b], xor := r.xor ^^^ b } hstate (by simp)
        (by rw [List.length_append, List.length_singleton]; omega)
        (by rw [hfirst, List.length_append, List.length_singleton]; omega)]
      simp [List.append_assoc]

theorem kind_of_parseMessage {kind : Byte} {p : List Byte} {m : Message} (h : parseMessage kind p = some m) :
    1 ≤ kind.toNat ∧ kind.toNat ≤ 7 := by
  by_contra hnot
  have hne : ∀ k : Byte, 1 ≤ k.toNat ∧ k.toNat ≤ 7 → kind ≠ k := fun k hk heq => hnot (heq ▸ hk)
  simp only [parseMessage, hne 0x01 (by decide), hne 0x02 (by decide), hne 0x03 (by decide), hne 0x04 (by decide),
    hne 0x05 (by decide), hne 0x06 (by decide), hne 0x07 (by decide), if_false] at h
  exact absurd h nofun

/-- R74, R75: the bytes up to the check byte of a message of kind `kind` with payload `p`. -/
theorem Receiver.feed_message {kind : Byte} {p : List Byte} {r : Receiver} (hr : r.state = .hunt) (h1 : 1 ≤ kind.toNat)
    (h7 : kind.toNat ≤ 7) (hp : p.length ≤ 60) :
    ((kind, true) :: (BitVec.ofNat 8 p.length :: p).map fun x => (x, false)).foldl Receiver.feed (r, 0, []) =
      ({ r with
        state := .check, bytes := kind :: BitVec.ofNat 8 p.length :: p
        xor := xorAll (kind :: BitVec.ofNat 8 p.length :: p) }, 0, []) := by
  have hlen : (BitVec.ofNat 8 p.length).toNat = p.length := by rw [BitVec.toNat_ofNat]; omega
  have hzero : ∀ {l : List Byte}, xorAll (kind :: l) = l.foldl (· ^^^ ·) kind := by simp [xorAll]
  obtain ⟨hopens, -⟩ := receiverFollowsTheTable r kind true
  have hfirst : r.take kind true = ({ r with state := .length, bytes := [kind], xor := kind }, 0, none) := by
    have h := hopens rfl h1 h7
    simpa [hr] using h
  obtain ⟨-, -, -, -, hlength, -⟩ :=
    receiverFollowsTheTable { r with state := .length, bytes := [kind], xor := kind } (BitVec.ofNat 8 p.length) false
  obtain ⟨-, hempty, hsome⟩ := hlength rfl rfl
  rw [List.foldl_cons, Receiver.feed_quiet hfirst, List.map_cons, List.foldl_cons]
  cases hpayload : p with
  | nil =>
    rw [hpayload] at hempty
    rw [Receiver.feed_quiet (hempty rfl)]
    simp [hzero]
  | cons b q =>
    rw [← hpayload]
    have hne : BitVec.ofNat 8 p.length ≠ 0 := fun h => by
      rw [h, hpayload] at hlen
      exact absurd hlen (by simp)
    rw [Receiver.feed_quiet (hsome hne (by omega)), Receiver.feed_payload _ _ p _ rfl (by simp [hpayload]) (by simp)
      (by simp [hlen])]
    simp [hzero]

/-- R75: a receiver in HUNT completes a message that is sent to it whole, and hunts again. -/
theorem Receiver.completes {kind : Byte} {p : List Byte} {m : Message} {r : Receiver} (hparse : parseMessage kind p = some m)
    (hr : r.state = .hunt) :
    ((m.bytes.mapIdx fun i b => (b, decide (i = 0))).foldl Receiver.feed (r, 0, [])).2 = (0, [m]) ∧
      ((m.bytes.mapIdx fun i b => (b, decide (i = 0))).foldl Receiver.feed (r, 0, [])).1.state = .hunt := by
  obtain ⟨q, hbody, hq, hlen, hread⟩ := laidOut_of_parse hparse
  obtain ⟨h1, h7⟩ := kind_of_parseMessage hparse
  have hsent : m.bytes = kind :: (BitVec.ofNat 8 q.length :: q ++ [xorAll (kind :: BitVec.ofNat 8 q.length :: q)]) := by
    rw [Message.bytes, hbody]
    rfl
  rw [hsent, mapIdx_marked, List.map_append, ← List.cons_append, List.foldl_append,
    Receiver.feed_message hr h1 h7 (by omega)]
  have hcheck : ∀ x : Receiver, x.state = .check → x.bytes = kind :: BitVec.ofNat 8 q.length :: q →
      x.take x.xor false = ({ x with state := .hunt, bytes := [], xor := 0 }, 0, some m) := fun x hx hbytes => by
    obtain ⟨-, -, -, -, -, -, htable⟩ := receiverFollowsTheTable x x.xor false
    obtain ⟨-, -, hgood⟩ := htable rfl hx
    exact hgood m rfl (by rw [hbytes]; exact hread)
  simp only [List.map_cons, List.map_nil, List.foldl_cons, List.foldl_nil, Receiver.feed]
  rw [hcheck { r with
    state := .check, bytes := kind :: BitVec.ofNat 8 q.length :: q
    xor := xorAll (kind :: BitVec.ofNat 8 q.length :: q) } rfl rfl]
  exact ⟨rfl, rfl⟩

/-! ### The assembler's table (R118 to R120) -/

theorem undriven_marked {byte : Byte} (h : byte ≠ 0xFF) (mark : Bool) : undriven byte mark = false := by
  simp only [undriven, decide_eq_false h, Bool.false_and]

theorem undriven_unmarked (byte : Byte) : undriven byte false = false := by
  simp [undriven]

theorem assemblerFollowsTheTable (a : Assembler) (byte : Byte) (mark : Bool) : AssemblerFollowsTheTable a byte mark := by
  refine ⟨fun hm hidle => ⟨fun hp => ?_, fun hp => ?_⟩, fun hm hdriven => ?opens, fun hm hstate => ?waits,
    fun hm hstate => ⟨fun h => ?_, fun h hlong => ?_, fun h hzero => ?_, fun h h1 hfits => ?_⟩, fun hm hstate => ⟨fun h => ?_, fun h => ?_⟩,
    fun hm hstate => ⟨fun h => ?_, fun h => ?_⟩⟩
  all_goals subst hm
  · subst hidle
    simp [Assembler.take, undriven, Assembler.inProgress, Assembler.idle, hp]
  · subst hidle
    simp [Assembler.take, undriven, Assembler.inProgress, hp]
  case opens => simp [Assembler.take, undriven_marked hdriven, Assembler.inProgress, Assembler.openRecord]
  case waits => rcases hstate with hs | hs <;> simp [Assembler.take, undriven_unmarked, hs]
  · have hlen : (a.bytes ++ [byte]).length < 3 := h
    simp only [Assembler.take, undriven_unmarked, hstate, Assembler.store, Bool.false_eq_true, if_false, hlen, if_true]
  · have hlen : ¬(a.bytes ++ [byte]).length < 3 := Nat.not_lt.2 (Nat.le_of_eq (Eq.symm h))
    have hlong : 1019 < recordLength (a.bytes ++ [byte]) := hlong
    simp only [Assembler.take, undriven_unmarked, hstate, Assembler.store, Bool.false_eq_true, if_false, hlen, hlong, if_true,
      Assembler.idle]
  · have hlen : ¬(a.bytes ++ [byte]).length < 3 := Nat.not_lt.2 (Nat.le_of_eq (Eq.symm h))
    have hzero : recordLength (a.bytes ++ [byte]) = 0 := hzero
    simp only [Assembler.take, undriven_unmarked, hstate, Assembler.store, Bool.false_eq_true, if_false, hlen, hzero, if_true,
      Nat.not_lt_zero]
  · have hlen : ¬(a.bytes ++ [byte]).length < 3 := Nat.not_lt.2 (Nat.le_of_eq (Eq.symm h))
    have hlong : ¬1019 < recordLength (a.bytes ++ [byte]) := Nat.not_lt.2 hfits
    have hzero : ¬recordLength (a.bytes ++ [byte]) = 0 := Nat.ne_of_gt h1
    simp only [Assembler.take, undriven_unmarked, hstate, Assembler.store, Bool.false_eq_true, if_false, hlen, hlong, hzero]
  · have hlen : (a.bytes ++ [byte]).length = 3 + recordLength (a.bytes ++ [byte]) := h
    simp only [Assembler.take, undriven_unmarked, hstate, Assembler.store, Bool.false_eq_true, if_false, if_pos hlen]
  · have hlen : ¬(a.bytes ++ [byte]).length = 3 + recordLength (a.bytes ++ [byte]) := h
    simp only [Assembler.take, undriven_unmarked, hstate, Assembler.store, Bool.false_eq_true, if_false, if_neg hlen]
  · simp only [Assembler.take, undriven_unmarked, hstate, Bool.false_eq_true, if_false, if_pos h, Assembler.idle]
  · simp only [Assembler.take, undriven_unmarked, hstate, Bool.false_eq_true, if_false, if_neg h, Assembler.idle]

/-! ### A whole record (R119) -/

/-- An assembler at one more byte, with what it has put out. -/
def Assembler.feed (x : Assembler × List AsmOut) (b : Byte × Bool) : Assembler × List AsmOut :=
  ((x.1.take b.1 b.2).1, x.2 ++ [(x.1.take b.1 b.2).2])

theorem Assembler.feed_eq {a a' : Assembler} {byte : Byte} {mark : Bool} {o : AsmOut} (h : a.take byte mark = (a', o))
    (outs : List AsmOut) : Assembler.feed (a, outs) (byte, mark) = (a', outs ++ [o]) := by
  simp [Assembler.feed, h]

theorem recordLength_append {l : List Byte} (h : 3 ≤ l.length) (b : Byte) : recordLength (l ++ [b]) = recordLength l := by
  unfold recordLength
  rw [List.getD_append _ _ _ _ (by omega), List.getD_append _ _ _ _ (by omega)]

/-- R118: the payload's bytes fill a record up to its check byte. -/
theorem Assembler.feed_payload : ∀ (rest : List Byte) (a : Assembler) (outs : List AsmOut), a.state = .body → rest ≠ [] →
    3 ≤ a.bytes.length → a.bytes.length + rest.length = 3 + recordLength a.bytes →
    (rest.map fun x => (x, false)).foldl Assembler.feed (a, outs) =
      ({ a with state := .check, bytes := a.bytes ++ rest, xor := rest.foldl (· ^^^ ·) a.xor },
        outs ++ List.replicate rest.length .nothing) := by
  intro rest
  induction rest with
  | nil => exact fun a outs _ h => absurd rfl h
  | cons b rest ih =>
    intro a outs hstate _ hthree hlen
    obtain ⟨-, -, -, -, hbody, -⟩ := assemblerFollowsTheTable a b false
    obtain ⟨hlast, hmore⟩ := hbody rfl hstate
    dsimp only at hlast hmore
    rw [recordLength_append hthree, List.length_append, List.length_singleton] at hlast hmore
    rw [List.length_cons] at hlen
    rw [List.map_cons, List.foldl_cons]
    cases rest with
    | nil =>
      rw [Assembler.feed_eq (hlast hlen)]
      rfl
    | cons c rest =>
      rw [List.length_cons] at hlen
      rw [Assembler.feed_eq (hmore (by omega)), ih { a with bytes := a.bytes ++ [b], xor := a.xor ^^^ b } _ hstate (by simp)
        (by rw [List.length_append]; omega)
        (by rw [recordLength_append hthree, List.length_append, List.length_singleton, List.length_cons]; omega)]
      simp [List.append_assoc, List.replicate_succ]

theorem of16_be16 {n : Nat} (h : n < 65536) : of16 (BitVec.ofNat 8 (n / 256)) (BitVec.ofNat 8 n) = n := by
  simp only [of16, BitVec.toNat_ofNat]
  omega

/-- R118: the bytes of a record up to its check byte. -/
theorem Assembler.feed_record {type : Byte} {payload : List Byte} {a : Assembler} (ha : a.state = .hunt) (htype : type ≠ 0xFF)
    (hlen : payload.length ≤ 1019) :
    ((type, true) :: (be16 payload.length ++ payload).map fun x => (x, false)).foldl Assembler.feed (a, []) =
      ({ a with
        state := .check, bytes := type :: be16 payload.length ++ payload
        xor := xorAll (type :: be16 payload.length ++ payload) }, List.replicate (payload.length + 3) .nothing) := by
  have hzero : ∀ {l : List Byte}, xorAll (type :: l) = l.foldl (· ^^^ ·) type := by simp [xorAll]
  have hrecord := of16_be16 (n := payload.length) (by omega)
  obtain ⟨-, hopens, -⟩ := assemblerFollowsTheTable a type true
  have hfirst : a.take type true = (⟨a.tag, .header, [type], type⟩, .nothing) := by simpa [ha] using hopens rfl htype
  generalize hhi : BitVec.ofNat 8 (payload.length / 256) = hi at hrecord
  generalize hlo : BitVec.ofNat 8 payload.length = lo at hrecord
  have hbe : be16 payload.length = [hi, lo] := by rw [be16, hhi, hlo]
  obtain ⟨-, -, -, hheader, -⟩ := assemblerFollowsTheTable ⟨a.tag, .header, [type], type⟩ hi false
  obtain ⟨-, -, -, hheader', -⟩ := assemblerFollowsTheTable ⟨a.tag, .header, [type, hi], type ^^^ hi⟩ lo false
  obtain ⟨hshort, -⟩ := hheader rfl rfl
  obtain ⟨-, -, hempty, hbody⟩ := hheader' rfl rfl
  have hsecond : Assembler.take ⟨a.tag, .header, [type], type⟩ hi false = (⟨a.tag, .header, [type, hi], type ^^^ hi⟩, .nothing) :=
    hshort (by simp)
  have hthird : recordLength [type, hi, lo] = payload.length := hrecord
  rw [hbe, List.foldl_cons, Assembler.feed_eq hfirst, List.cons_append, List.cons_append, List.nil_append, List.map_cons,
    List.foldl_cons, Assembler.feed_eq hsecond, List.map_cons, List.foldl_cons]
  cases hpayload : payload with
  | nil =>
    rw [hpayload] at hthird
    have hlast : Assembler.take ⟨a.tag, .header, [type, hi], type ^^^ hi⟩ lo false =
      (⟨a.tag, .check, [type, hi, lo], type ^^^ hi ^^^ lo⟩, .nothing) := hempty rfl hthird
    rw [Assembler.feed_eq hlast]
    simp [hzero]
  | cons b q =>
    rw [← hpayload]
    have hpos : 1 ≤ payload.length := by simp [hpayload]
    have hlast : Assembler.take ⟨a.tag, .header, [type, hi], type ^^^ hi⟩ lo false =
      (⟨a.tag, .body, [type, hi, lo], type ^^^ hi ^^^ lo⟩, .nothing) := hbody rfl (hthird ▸ hpos) (hthird ▸ hlen)
    rw [Assembler.feed_eq hlast, List.nil_append, Assembler.feed_payload payload _ _ rfl (by simp [hpayload]) (by simp) (by simp [hthird])]
    simp [hzero, List.replicate_succ]

/-- R119: an assembler in HUNT delivers a record that is sent to it whole, and hunts again. -/
theorem Assembler.delivers {type : Byte} {payload : List Byte} {a : Assembler} (ha : a.state = .hunt) (htype : type ≠ 0xFF)
    (hlen : payload.length ≤ 1019) :
    (((screenRecord type payload).mapIdx fun i b => (b, decide (i = 0))).foldl Assembler.feed (a, [])).2 =
        List.replicate (payload.length + 3) AsmOut.nothing ++ [.good (screenRecord type payload)] ∧
      (((screenRecord type payload).mapIdx fun i b => (b, decide (i = 0))).foldl Assembler.feed (a, [])).1.state = .hunt := by
  have hsent : screenRecord type payload =
      type :: (be16 payload.length ++ payload ++ [xorAll (type :: be16 payload.length ++ payload)]) := rfl
  have hcheck : ∀ x : Assembler, x.state = .check →
      x.take x.xor false = (⟨x.tag, .hunt, [], 0⟩, .good (x.bytes ++ [x.xor])) := fun x hx => by
    obtain ⟨-, -, -, -, -, htable⟩ := assemblerFollowsTheTable x x.xor false
    exact (htable rfl hx).1 rfl
  rw [hsent, mapIdx_marked, List.map_append, ← List.cons_append, List.foldl_append, Assembler.feed_record ha htype hlen]
  simp only [List.map_cons, List.map_nil, List.foldl_cons, List.foldl_nil, Assembler.feed]
  rw [hcheck { a with
    state := .check, bytes := type :: be16 payload.length ++ payload
    xor := xorAll (type :: be16 payload.length ++ payload) } rfl]
  exact ⟨rfl, rfl⟩

end Sys2Proof.Machine
end

section
/-!
PROOFS. The lanes and the assemblers at a frame start (R116, R120), and the statements about them (O34, O36).
-/

namespace Sys2Proof.Machine

/-! ### Lists of the same members -/

theorem length_eq_of_mem_iff {α : Type} [DecidableEq α] {l m : List α} (hl : l.Nodup) (hm : m.Nodup) (h : ∀ a, a ∈ l ↔ a ∈ m) :
    l.length = m.length :=
  ((List.perm_ext_iff_of_nodup hl hm).2 h).length_eq

/-! ### The end of a data frame at the assemblers (R120) -/

/-- R120: a record in progress of which a slot from `done` on did not complete. -/
def Assembler.cut (lanes : Table 24 Lane) (done : Nat) (a : Assembler) : Bool :=
  a.inProgress && a.tag.isSome && lanes.toList.any fun l =>
    decide (l.tag = a.tag) && l.slot.any fun k => decide (done ≤ k)

/-- R120: an assembler at the end of an abandoned frame, with its output. -/
def Assembler.ended (lanes : Table 24 Lane) (done : Nat) (a : Assembler) : Assembler × AsmOut :=
  if a.cut lanes done = true then (a.idle .skip, .short) else (a, .nothing)

theorem Assembler.cut_iff {lanes : Table 24 Lane} {done : Nat} {a : Assembler} : a.cut lanes done = true ↔
    (a.state = .header ∨ a.state = .body ∨ a.state = .check) ∧
      ∃ v, a.tag = some v ∧ ∃ l, (lanes.get l).tag = some v ∧ ∃ k, (lanes.get l).slot = some k ∧ done ≤ k := by
  unfold Assembler.cut Assembler.inProgress
  rw [table_toList, List.any_map]
  simp only [Bool.and_eq_true, decide_eq_true_eq, List.any_eq_true, List.mem_finRange, true_and, Function.comp, Option.any_eq_true,
    Option.isSome_iff_exists, and_assoc]
  refine and_congr_right fun _ => ⟨?_, ?_⟩
  · rintro ⟨⟨v, hv⟩, l, htag, hrest⟩
    exact ⟨v, hv, l, htag.trans hv, hrest⟩
  · rintro ⟨v, hv, l, htag, hrest⟩
    exact ⟨⟨v, hv⟩, l, htag.trans hv.symm, hrest⟩

theorem cutByTheFrame_iff {s : State} {done : Nat} {a : Assembler} {lanes : Table 24 Lane}
    (h : ∀ l, (lanes.get l).tag = (s.lcu.lanes.get l).tag ∧ (lanes.get l).slot = (s.lcu.lanes.get l).slot) :
    a.cut lanes done = true ↔ CutByTheFrame s done a := by
  rw [Assembler.cut_iff]
  simp only [h]
  exact Iff.rfl

section abandoned
variable (done : Nat) (s : State) (i : Fin 8)

theorem State.asmAbandoned_eq : s.asmAbandoned done i =
    let x := (s.lcu.asm.get i).ended s.lcu.lanes done
    (s.setAsm i x.1).asmOut (x.1.tag.getD 0) x.2 := by
  have hself : s.setAsm i (s.lcu.asm.get i) = s := by simp [State.setAsm]
  have hended : ∀ x, (s.setAsm i (if (s.lcu.asm.get i).cut s.lcu.lanes done = true then x else (s.lcu.asm.get i, .nothing)).1).asmOut
      ((if (s.lcu.asm.get i).cut s.lcu.lanes done = true then x else (s.lcu.asm.get i, .nothing)).1.tag.getD 0)
      (if (s.lcu.asm.get i).cut s.lcu.lanes done = true then x else (s.lcu.asm.get i, .nothing)).2 =
      if (s.lcu.asm.get i).cut s.lcu.lanes done = true then (s.setAsm i x.1).asmOut (x.1.tag.getD 0) x.2 else s := fun x => by
    split
    · rfl
    · exact hself
  unfold Assembler.ended State.asmAbandoned
  dsimp only
  rw [hended]
  cases htag : (s.lcu.asm.get i).tag with
  | none => simp [Assembler.cut, htag]
  | some t =>
    refine if_congr ?_ (by simp [Assembler.idle, htag]) rfl
    unfold Assembler.cut
    simp only [htag, Option.isSome_some, Bool.and_true, Bool.and_eq_true, List.any_eq_true]
    refine and_congr_right fun _ => exists_congr fun l => and_congr_right fun _ => and_congr_right fun _ => ?_
    cases l.slot <;> simp

theorem State.asmAbandoned_lcu : (s.asmAbandoned done i).lcu = { s.lcu with
    asm := s.lcu.asm.set i ((s.lcu.asm.get i).ended s.lcu.lanes done).1 } := by
  rw [State.asmAbandoned_eq]
  dsimp only
  rw [State.asmOut_lcu]
  rfl

theorem State.asmAbandoned_view (j : Fin 8) (hj : j ≠ i) :
    ((s.asmAbandoned done i).lcu.asm.get j).ended (s.asmAbandoned done i).lcu.lanes done =
      (s.lcu.asm.get j).ended s.lcu.lanes done := by
  rw [State.asmAbandoned_lcu]
  dsimp only
  rw [Table.get_set_of_ne _ _ (Ne.symm hj)]

theorem State.asmAbandoned_counter (c : Counter) : (s.asmAbandoned done i).counter c =
    if c = .shortRecords ∧ ((s.lcu.asm.get i).ended s.lcu.lanes done).2 = .short then satInc (s.counter c) else s.counter c := by
  have hout : ((s.lcu.asm.get i).ended s.lcu.lanes done).2 = .short ∨ ((s.lcu.asm.get i).ended s.lcu.lanes done).2 = .nothing := by
    unfold Assembler.ended
    split
    · exact .inl rfl
    · exact .inr rfl
  rw [State.asmAbandoned_eq]
  dsimp only
  rw [State.asmOut_counter]
  rcases hout with hout | hout <;> rw [hout] <;> simp only [AsmOut.counter, Option.some.injEq, reduceCtorEq, and_true, and_false,
    if_false, eq_comm] <;> rfl

theorem State.asmAbandoned_feed (b : Fin 4) : (s.asmAbandoned done i).feed b =
    (s.feed b).afterItem (s.configured b) (lostVideo ((s.lcu.asm.get i).ended s.lcu.lanes done)) := by
  rw [State.asmAbandoned_eq]
  dsimp only
  rw [State.asmOut_feed]
  have hsame : ∀ a, (s.setAsm i a).feed b = s.feed b ∧ (s.setAsm i a).configured b = s.configured b := fun a => ⟨rfl, rfl⟩
  rw [(hsame _).1, (hsame _).2, lostVideo]
  by_cases hcut : (s.lcu.asm.get i).cut s.lcu.lanes done = true
  · obtain ⟨-, v, hv, -⟩ := Assembler.cut_iff.1 hcut
    rw [Assembler.ended, if_pos hcut]
    simp only [Assembler.idle, hv, Option.getD_some]
  · rw [Assembler.ended, if_neg hcut]
    rfl

end abandoned

/-- R120: every assembler is at the end of the abandoned frame. -/
def State.recordsCut (done : Nat) (s : State) : State := (indices 8).foldl (fun s i => s.asmAbandoned done i) s

section cut
variable (done : Nat) (s : State)

theorem State.recordsCut_eq : s.recordsCut done = (indices 8).foldl (fun s i => s.asmAbandoned done i) s := rfl

theorem State.recordsCut_lanes : (s.recordsCut done).lcu.lanes = s.lcu.lanes := by
  rw [State.recordsCut_eq]
  exact foldl_keeps (I := fun t : State => t.lcu.lanes = s.lcu.lanes) (fun t i ht => by rw [State.asmAbandoned_lcu]; exact ht)
    (indices 8) rfl

theorem State.recordsCut_asm (i : Fin 8) : (s.recordsCut done).lcu.asm.get i = ((s.lcu.asm.get i).ended s.lcu.lanes done).1 := by
  rw [State.recordsCut_eq]
  obtain ⟨u, hu, hend⟩ := (foldl_at (V := fun (t : State) j => (t.lcu.asm.get j, t.lcu.lanes))
    (f := fun (t : State) j => t.asmAbandoned done j)
    (fun t a b hb => by
      rw [State.asmAbandoned_lcu]
      dsimp only
      rw [Table.get_set_of_ne _ _ (Ne.symm hb)]) (indices_nodup 8) s i).2 (mem_indices i)
  obtain ⟨hasm, hlanes⟩ := Prod.mk.inj hu
  rw [(Prod.mk.inj hend).1, State.asmAbandoned_lcu, hasm, hlanes]
  exact Table.get_set_self _ _ _

theorem State.recordsCut_short : (s.recordsCut done).counter .shortRecords =
    satInc^[((List.finRange 8).filter fun i => decide (((s.lcu.asm.get i).ended s.lcu.lanes done).2 = .short)).length]
      (s.counter .shortRecords) := by
  rw [State.recordsCut_eq]
  exact foldl_counts (V := fun (t : State) j => (t.lcu.asm.get j).ended t.lcu.lanes done) (P := fun x => decide (x.2 = .short))
    (fun t i j hj => t.asmAbandoned_view done i j hj)
    (fun t i hi => by rw [State.asmAbandoned_counter, if_pos ⟨rfl, of_decide_eq_true hi⟩])
    (fun t i hi => by rw [State.asmAbandoned_counter, if_neg fun h => of_decide_eq_false hi h.2]) (indices_nodup 8) s

theorem State.recordsCut_feed (b : Fin 4) :
    let loses := s.configured b = true ∧ (s.feed b).state = .following ∧
      ∃ v, (s.feed b).video = some v ∧ ∃ i, lostVideo ((s.lcu.asm.get i).ended s.lcu.lanes done) = some v
    (loses → (s.recordsCut done).feed b = (s.feed b).awaitsKey) ∧ (¬loses → (s.recordsCut done).feed b = s.feed b) := by
  have hfold : (s.recordsCut done).feed b = (indices 8).foldl (fun f i =>
      f.afterItem (s.configured b) (lostVideo ((s.lcu.asm.get i).ended s.lcu.lanes done))) (s.feed b) := by
    rw [State.recordsCut_eq]
    exact foldl_gathers
      (V := fun (t : State) j => ((t.lcu.asm.get j).ended t.lcu.lanes done, t.configured b)) (A := fun t : State => t.feed b)
      (g := fun x f => f.afterItem x.2 (lostVideo x.1))
      (fun t i j hj => by rw [State.asmAbandoned_view _ _ _ _ hj, State.configured_of_cfl (s := t) (by simp)])
      (fun t i => t.asmAbandoned_feed done i b) (indices_nodup 8) s
  have hafter := foldl_afterItem (s.configured b) (fun i => lostVideo ((s.lcu.asm.get i).ended s.lcu.lanes done))
    (indices 8) (s.feed b)
  dsimp only at hafter ⊢
  rw [hfold]
  simpa [mem_indices] using hafter

end cut

/-! ### The lanes' data frame end in a frame start -/

section start
variable {fs : FrameStart} {e : FrameEnd} {u : State}

theorem Lane.frameEnd_stays (l : Lane) : l.frameEnd.tag = l.tag ∧ l.frameEnd.slot = l.slot := by
  unfold Lane.frameEnd
  split <;> exact ⟨rfl, rfl⟩

theorem State.startLanes_cuts (hdata : e.isData = true) (habandoned : e.abandoned = true) (s : State) : s.startLanes e =
    ({ s with lcu := { s.lcu with lanes := s.lcu.lanes.map Lane.frameEnd } } : State).recordsCut e.done := by
  unfold State.startLanes State.lcuFrameEnd
  rw [if_pos hdata]
  dsimp only
  rw [if_pos habandoned]
  rfl

theorem State.startLanes_lanes (s : State) :
    (s.startLanes e).lcu.lanes = if e.isData = true then s.lcu.lanes.map Lane.frameEnd else s.lcu.lanes := by
  by_cases hdata : e.isData = true
  · rw [if_pos hdata]
    cases habandoned : e.abandoned with
    | true => rw [State.startLanes_cuts hdata habandoned, State.recordsCut_lanes]
    | false => rw [State.startLanes, if_pos hdata, State.lcuFrameEnd_whole habandoned]
  · rw [State.startLanes, if_neg hdata, if_neg hdata]

theorem State.startGranted_lanes (s : State) : s.startGranted.lcu.lanes = s.lcu.lanes ∧ s.startGranted.lcu.asm = s.lcu.asm ∧
    s.startGranted.lcu.active = s.lcu.active := by
  unfold State.startGranted State.grantPoint
  split
  · rw [State.bumpN_eq]
    exact ⟨rfl, rfl, rfl⟩
  · exact ⟨rfl, rfl, rfl⟩

/-- R116: the lanes at a plain frame start. -/
theorem State.startFrame_lanes (hplain : fs.plain) :
    (u.startFrame fs e).lcu.lanes = if e.isData = true then u.lcu.lanes.map Lane.frameEnd else u.lcu.lanes := by
  rw [State.startFrame_plain fs e u hplain, (State.startGranted_lanes _).1]
  simp [State.startPrepared, State.startLanes_lanes]

/-- A plain frame start on the trunk shows the lanes' end of the frame before it: the tick comes before it and touches neither the
lanes nor the feeds' states, and of what comes after it only the feeding and the grants count anything. -/
theorem State.startFrame_viaLanes (hplain : fs.plain) (hlink : u.tlu.link ≠ .listen) (hwas : e.wasListen = false) :
    ∃ v : State, v.lcu = u.lcu ∧ v.cfl = u.cfl ∧ v.counters = u.counters ∧
      (∀ b, (v.feed b).state = (u.feed b).state ∧ (v.feed b).video = (u.feed b).video) ∧
      (u.startFrame fs e).lcu.asm = (v.startLanes e).lcu.asm ∧ (u.startFrame fs e).sfu = (v.startLanes e).sfu ∧
      ∀ c, c ≠ .sourceUnderruns → c ≠ .laneDenials → (u.startFrame fs e).counter c = (v.startLanes e).counter c := by
  by_cases hzero : u.tlu.frame = 0
  · obtain ⟨hstart, hprepared⟩ := State.startFrame_tick (fs := fs) hplain hzero hlink hwas
    obtain ⟨hcounters, -⟩ := State.feedFrame_zero_keeps (e := e) fs.order (State.startFrame_tick_frameNumber hplain hzero hlink hwas)
    refine ⟨u.discardCollected.cycleTick fs, by simp, by simp, by simp, fun b => ?_, ?_, ?_, fun c _ _ => ?_⟩
    · obtain ⟨-, -, -, -, hsfu, -⟩ := u.discardCollected.cycleTick_fields fs
      simp [State.feed, hsfu, State.sfuTick]
    · rw [hstart]
      simp [hprepared]
    · rw [hstart]
      simp [hprepared]
    · rw [State.counter, hstart, hcounters]
      simp [State.counter, hprepared]
  · rw [State.startFrame_noTick hplain hzero]
    refine ⟨u.discardCollected, by simp, by simp, by simp, fun b => by simp [State.feed], ?_, by simp, fun c hunder hdenial => ?_⟩
    · rw [(State.startGranted_lanes _).2.1]
      simp
    · rw [State.startGranted_counter _ hdenial, State.counter, State.feedFrame_counters]
      refine (State.aspFrameStart_counter _ hunder).trans ?_
      simp [State.counter]

end start

end Sys2Proof.Machine
end

section
/-!
PROOFS. Audio capture and record assembly (O34, O36).
-/

namespace Sys2Proof.Machine

/-! ### Audio lanes (R115, R116) -/

section lane
variable {slot : Nat} {byte : Byte} {ninth : Bool} {x : Lane}

theorem undriven_iff : undriven byte ninth = true ↔ byte = 0xFF ∧ ninth = true := by
  simp [undriven]

theorem Lane.taken_good (haudio : x.isAudio = true) (hslot : x.slot = some slot) (hodd : oddParity byte ninth = true)
    (hdriven : ¬(byte = 0xFF ∧ ninth = true)) :
    x.taken slot byte ninth = { x with lastGood := logDecode byte, miss := 0, got := true } := by
  rw [Lane.taken, Lane.captures, if_pos (decide_eq_true ⟨haudio, hslot⟩), Lane.capture, if_neg (by simp [hodd]),
    if_neg (by rw [undriven_iff]; exact hdriven)]

theorem Lane.taken_bad (h : oddParity byte ninth = false ∨ (byte = 0xFF ∧ ninth = true)) : x.taken slot byte ninth = x := by
  unfold Lane.taken Lane.capture
  split
  · rcases h with h | h
    · rw [if_pos h]
    · rw [if_pos (undriven_iff.2 h)]
      split <;> rfl
  · rfl

theorem Lane.taken_other (h : x.isAudio = false ∨ x.slot ≠ some slot) : x.taken slot byte ninth = x := by
  refine if_neg fun hcaptures => ?_
  obtain ⟨haudio, hslot⟩ := of_decide_eq_true hcaptures
  rcases h with h | h
  · rw [haudio] at h
    cases h
  · exact h hslot

/-- R116: the end of a data frame at a lane. -/
theorem Lane.frameEnd_cases : (x.isAudio = true → x.got = true → x.frameEnd = { x with got := false }) ∧
    (x.isAudio = true → x.got = false → x.frameEnd = { x with miss := min (x.miss + 1) 24 }) ∧
    (x.isAudio = false → x.frameEnd = x) := by
  refine ⟨fun haudio hgot => ?_, fun haudio hgot => ?_, fun haudio => if_neg (by simp [haudio])⟩
  · rw [Lane.frameEnd, if_pos haudio, hgot]
    rfl
  · rw [Lane.frameEnd, if_pos haudio, ← hgot]
    simp [hgot]

end lane

/-- R2, R25: the kinds whose parity is counted. -/
theorem carriesParity_iff {t : Byte} : carriesParity t = true ↔
    tagKind t = .alert ∨ tagKind t = .announcement ∨ tagKind t = .audio := by
  unfold carriesParity
  cases tagKind t <;> simp

theorem FrameEnd.isData_frameEnd {s : State} {cut : Bool} : (s.frameEnd cut).isData = true ↔ 1 ≤ s.tlu.frame := decide_eq_true_iff

/-- R116: MISS_COUNT_LIMIT of a lane whose miss count is at its limit. -/
theorem State.takeMissCount_limit {l : Fin 24} {s : State} (haudio : (s.lcu.lanes.get l).isAudio = true)
    (hmiss : (s.lcu.lanes.get l).miss = 24) : s.takeMissCount l = s.setLane l { s.lcu.lanes.get l with lastGood := 0 } := by
  unfold State.takeMissCount
  dsimp only
  by_cases hdue : (s.lcu.lanes.get l).missDue = true
  · rw [if_pos hdue]
  · rw [if_neg hdue]
    have hsilent : (s.lcu.lanes.get l).lastGood = 0 := by
      by_contra hne
      exact hdue (by simp [Lane.missDue, haudio, hmiss, hne])
    have hself : s.setLane l (s.lcu.lanes.get l) = s := by simp [State.setLane]
    rw [← hsilent]
    exact hself.symm

/-- Settles O34. -/
theorem audioLanesCapture : Obligations.AudioLanesCapture := by
  refine ⟨fun k byte ninth wait s hdue htrunk hframe hdone => ?capture, fun k byte ninth wait s hdue htrunk hframe hdone => ?parity,
    fun c n fs s hdue hplain hstarts => ?frameEnd, fun l s haudio hmiss => ?limit⟩
  case capture =>
    obtain ⟨t, hexec, htaken, honly⟩ := dataSlotTaken_exec (byte := byte) (ninth := ninth) (wait := wait) hdue htrunk hframe hdone
    refine ⟨t, hexec, honly, fun l => ?_⟩
    dsimp only
    rw [htaken.lane l]
    exact ⟨Lane.taken_good, fun _ _ => Lane.taken_bad, Lane.taken_other⟩
  case parity =>
    obtain ⟨t, hexec, htaken, -⟩ := dataSlotTaken_exec (byte := byte) (ninth := ninth) (wait := wait) hdue htrunk hframe hdone
    refine ⟨t, hexec, ?_, ?_, fun j hj => ?_⟩
    · rw [htaken.parityErrors]
      simp only [Lane.captures, decide_eq_true_eq, and_assoc]
    · dsimp only
      rw [htaken.running k]
      simp only [true_and, carriesParity_iff]
    · rw [htaken.running j, if_neg fun h => hj h.1]
      rfl
  case frameEnd =>
    obtain ⟨u, hexec, hbegun⟩ := startsFrame_begins hdue hstarts
    obtain ⟨-, -, -, -, -, -, -, -, hlcu, -⟩ := hbegun.fields
    refine ⟨_, hexec, fun l => ?_⟩
    obtain ⟨hgot, hmissed, hother⟩ := Lane.frameEnd_cases (x := s.lcu.lanes.get l)
    dsimp only
    rw [State.startFrame_lanes hplain, hlcu]
    by_cases hdata : 1 ≤ s.tlu.frame
    · rw [if_pos (FrameEnd.isData_frameEnd.2 hdata), Table.get_map]
      exact ⟨fun _ => hgot, fun _ => hmissed, fun h => hother (h.resolve_left (by omega))⟩
    · rw [if_neg (by rwa [FrameEnd.isData_frameEnd])]
      exact ⟨fun h => absurd h hdata, fun h => absurd h hdata, fun _ => rfl⟩
  case limit =>
    rw [show exec (.missCountLimit l) s = .next (s.takeMissCount l) from rfl, State.takeMissCount_limit haudio hmiss]

/-! ### Record assembly (R118 to R121) -/

theorem lostVideo_iff {x : Assembler × AsmOut} {v : Byte} : lostVideo x = some v ↔
    x.1.tag = some v ∧ (x.2 = .short ∨ x.2 = .overlong ∨ x.2 = .checkError) := by
  obtain ⟨a, o⟩ := x
  unfold lostVideo
  cases o <;> simp [AsmOut.loses]

theorem assemblersTake_of {k : Fin 40} {byte : Byte} {ninth : Bool} {s t : State} (h : DataSlotTaken k byte ninth s t) :
    AssemblersTake k byte ninth s t := by
  refine ⟨h.asm, h.counted .short _ rfl, h.counted .overlong _ rfl, h.counted .checkError _ rfl, ?_,
    lossesReported_of fun b => ?_, fun b => ?_⟩
  · refine h.inbox.trans (congrArg (s.sfu.inbox ++ ·) (congrArg (fun f => List.filterMap f _) (funext fun x => ?_)))
    obtain ⟨⟨tag, state, bytes, xor⟩, o⟩ := x
    cases tag <;> cases o <;> rfl
  · have hfeed := h.feed b
    simp only [lostVideo_iff] at hfeed
    exact hfeed
  · obtain ⟨hloses, hkeeps⟩ := h.feed b
    by_cases hl : s.configured b = true ∧ (s.feed b).state = .following ∧
        ∃ v, (s.feed b).video = some v ∧ ∃ x ∈ s.asmOuts k.val byte ninth, lostVideo x = some v
    · exact .inr (hloses hl)
    · exact .inl (hkeeps hl)

theorem lostVideo_ended {lanes : Table 24 Lane} {done : Nat} {a : Assembler} {v : Byte} :
    lostVideo (a.ended lanes done) = some v ↔ a.tag = some v ∧ a.cut lanes done = true := by
  unfold Assembler.ended
  split
  · next h => simp [lostVideo, AsmOut.loses, Assembler.idle, h]
  · next h => simp [lostVideo, AsmOut.loses, h]

theorem ended_short_iff {lanes : Table 24 Lane} {done : Nat} {a : Assembler} :
    (a.ended lanes done).2 = .short ↔ a.cut lanes done = true := by
  unfold Assembler.ended
  split
  · next h => simp [h]
  · next h => simp [h]

/-- Settles O36. -/
theorem assemblerDeliversAWholeRecord : Obligations.AssemblerDeliversAWholeRecord := by
  refine ⟨assemblerFollowsTheTable, fun k byte ninth wait s hdue htrunk hframe hdone => ?slot,
    fun run start fs s hdue hplain hrun h1 h415 htrunk hfollow hdata => ?abandoned,
    fun type payload a hlen htype ha => Assembler.delivers ha htype hlen⟩
  case slot =>
    obtain ⟨t, hexec, htaken, -⟩ := dataSlotTaken_exec (byte := byte) (ninth := ninth) (wait := wait) hdue htrunk hframe hdone
    exact ⟨t, hexec, assemblersTake_of htaken⟩
  case abandoned =>
    have hmid : isMidFrame start = true := isMidFrame_iff.2 ⟨h1, h415⟩
    have hloading : s.tlu.link ≠ .loading := by rcases htrunk with h | h <;> simp [h]
    have hexec := (exec_markRecognised hdue (show start ≤ 495 by omega) (run := run) (fs := fs)).trans (congrArg _
      (State.markOutcome_starts hrun hloading (State.isOpeningMark_late h1) (by simp [hfollow])))
    have hbegun := markBegun_begun (runForm run) start s
    rw [hmid] at hexec
    generalize s.markBegun (runForm run) start = u at hexec hbegun
    obtain ⟨-, hcfl, -, -, -, -, -, -, hlcu, -, -, -, -, hsfu⟩ := hbegun.fields
    have hlink : u.tlu.link ≠ .listen := by rcases hbegun.trunk htrunk with h | h <;> simp [h]
    have hwas : (s.frameEnd true).wasListen = false := by rcases htrunk with h | h <;> simp [State.frameEnd, h]
    obtain ⟨v, hvlcu, hvcfl, hvcounters, hvfeed, hasm, htsfu, hcounter⟩ :=
      State.startFrame_viaLanes (e := s.frameEnd true) hplain hlink hwas
    have hcuts := State.startLanes_cuts (e := s.frameEnd true) (FrameEnd.isData_frameEnd.2 hdata) rfl v
    rw [hcuts, show (s.frameEnd true).done = s.tlu.slotsDone from rfl] at hasm htsfu hcounter
    generalize hw : ({ v with lcu := { v.lcu with lanes := v.lcu.lanes.map Lane.frameEnd } } : State) = w at hasm htsfu hcounter
    have hwasm : w.lcu.asm = s.lcu.asm := by rw [← hw, ← hlcu, ← hvlcu]
    have hwlanes : ∀ l, (w.lcu.lanes.get l).tag = (s.lcu.lanes.get l).tag ∧ (w.lcu.lanes.get l).slot = (s.lcu.lanes.get l).slot :=
      fun l => by
        rw [← hw, ← hlcu, ← hvlcu]
        dsimp only
        rw [Table.get_map]
        exact Lane.frameEnd_stays _
    have hwfeed : ∀ b, (w.feed b).state = (s.feed b).state ∧ (w.feed b).video = (s.feed b).video := fun b => by
      have hb := hvfeed b
      rw [State.feed, State.feed, hsfu] at hb
      rw [← hw]
      exact hb
    have hwconf : ∀ b, w.configured b = s.configured b := fun b =>
      State.configured_of_cfl (by rw [← hw]; exact hvcfl.trans hcfl) b
    have hwshort : w.counter .shortRecords = s.counter .shortRecords := by
      have hu := hbegun.counters .shortRecords (by decide) (by decide)
      rw [State.counter, ← hvcounters] at hu
      rw [← hw]
      exact hu
    refine ⟨_, hexec, fun i => ?_, fun cut hnodup hmem => ?_, fun b => ?_⟩
    · dsimp only
      rw [hasm, State.recordsCut_asm, hwasm, ← cutByTheFrame_iff hwlanes, Assembler.ended]
      refine ⟨fun hcut => ?_, fun hcut => ?_⟩
      · rw [if_pos hcut]
        rfl
      · rw [if_neg hcut]
    · rw [hcounter _ (by decide) (by decide), State.recordsCut_short, hwshort]
      refine congrArg (fun n => satInc^[n] (s.counter .shortRecords)) ?_
      refine length_eq_of_mem_iff ((List.nodup_finRange 8).filter _) hnodup fun i => ?_
      rw [hmem, List.mem_filter, decide_eq_true_iff, ended_short_iff, hwasm, ← cutByTheFrame_iff hwlanes]
      simp
    · obtain ⟨hloses, hkeeps⟩ := w.recordsCut_feed s.tlu.slotsDone b
      have hfeed : (u.startFrame fs (s.frameEnd true)).feed b = (w.recordsCut s.tlu.slotsDone).feed b := by
        rw [State.feed, htsfu]
        rfl
      have hlost : ∀ v, (∃ i, lostVideo ((w.lcu.asm.get i).ended w.lcu.lanes s.tlu.slotsDone) = some v) ↔
          ∃ i, (s.lcu.asm.get i).tag = some v ∧ CutByTheFrame s s.tlu.slotsDone (s.lcu.asm.get i) := fun v => by
        simp only [lostVideo_ended, hwasm, ← cutByTheFrame_iff hwlanes]
      obtain ⟨hstate, hvideo⟩ := hwfeed b
      simp only [hwconf, hstate, hvideo, hlost] at hloses hkeeps
      dsimp only
      rw [hfeed]
      refine ⟨fun hl => ?_, fun hl => ?_⟩
      · rw [hloses hl]
        exact ⟨rfl, rfl⟩
      · rw [hkeeps hl, hstate]

end Sys2Proof.Machine
end

section
/-!
PROOFS. The completion of slot 39 of a tag frame (R23, R26, R30): what is collected, what replaces the map, and the stages of the
map update.
-/

namespace Sys2Proof.Machine

/-! ### What is collected -/

/-- R16: the holdings silenced when slot 39 reads back as `byte`. -/
def State.lastSilenced (s : State) (byte : Byte) : Table 11 Bool :=
  match s.drove 39 with
  | some (h, tag, _) => if tag = byte then s.tlu.silenced else s.tlu.silenced.set h true
  | none => s.tlu.silenced

/-- R22: the state in which the map update begins: slot 39 is over and collected. -/
def State.lastSlot (byte : Byte) (ninth : Bool) (wait : Fin 13) (s : State) : State :=
  ((s.withReadBack 39 ⟨byte, ninth⟩).collect 39 byte ((s.withReadBack 39 ⟨byte, ninth⟩).resultOf 39)).slotOver 39 wait

section last
variable {s : State} (byte : Byte) (ninth : Bool) (wait : Fin 13)

theorem exec_mapUpdate (hdue : s.nothingDue) (htrunk : s.tlu.link = .locked ∨ s.tlu.link = .leading) (hframe : s.tlu.frame = 0)
    (hdone : s.tlu.slotsDone ≤ 39) :
    exec (.slotCompletion 39 ⟨byte, ninth⟩ wait) s = .next (s.lastSlot byte ninth wait).mapUpdate := by
  rw [exec_slotCompletion hdue, State.slotOutcome_tag htrunk hframe hdone, State.lastSlot]
  unfold State.tagSlot
  dsimp only
  rw [if_pos (show (39 : Fin 40).val = 39 from rfl)]

theorem State.lastSlot_eq (hframe : s.tlu.frame = 0) (hdone : s.tlu.slotsDone ≤ 39) : s.lastSlot byte ninth wait = { s with
    tlu := { s.tlu with
      slotsDone := 40, bitTime := max s.tlu.bitTime (416 + wait.val), mismatch := s.tlu.mismatch.set 39 none
      silenced := s.lastSilenced byte }
    smu := { s.smu with
      collected := s.smu.collected.set 39 (some byte), results := s.smu.results ++ lastSlotResult s byte } } := by
  have hval : (39 : Fin 40).val = 39 := rfl
  unfold State.lastSlot State.lastSilenced lastSlotResult
  cases hdrove : s.drove 39 with
  | none =>
    rw [State.withReadBack_undriven hdrove]
    cases hlost : s.tlu.mismatch.get 39 with
    | none =>
      rw [State.resultOf_matched hlost, hdrove]
      rfl
    | some h =>
      rw [State.resultOf_lost hlost]
      rfl
  | some d =>
    obtain ⟨h, tag, n⟩ := d
    rw [State.withReadBack_tag hdrove hframe hdone]
    dsimp only
    by_cases htag : tag = byte
    · rw [if_pos htag, if_pos htag, if_neg (not_not_intro htag)]
      cases hlost : s.tlu.mismatch.get 39 with
      | none =>
        rw [State.resultOf_matched hlost, hdrove]
        rfl
      | some g =>
        rw [State.resultOf_lost hlost]
        rfl
    · rw [if_neg htag, if_neg htag, if_pos htag, State.silence_lost]
      simp [State.collect, State.slotOver, State.silence, slotEnd, table_set_set]

end last

/-! ### The SMU's part (R30) -/

/-- R31, R37: the read-back results are settled for every holding. -/
def State.holdingsSettled (s : State) : State := (indices 11).foldl (fun s h => s.settleHolding h) s

/-- R32 to R34: every holding that seeks has taken a target or waits. -/
def State.holdingsSought (s : State) : State := ((indices 11).foldl State.seekHolding (s, [])).1

section smu
variable (s : State)

theorem State.holdingsSettled_eq : s.holdingsSettled = (indices 11).foldl (fun s h => s.settleHolding h) s := rfl

theorem State.holdingsSought_eq : s.holdingsSought = ((indices 11).foldl State.seekHolding (s, [])).1 := rfl

theorem State.smuMapUpdate_eq : s.smuMapUpdate = { s.replaceMap.holdingsSettled.holdingsSought with
    smu := { s.replaceMap.holdingsSettled.holdingsSought.smu with collected := Table.replicate 40 none, results := [] } } := by
  rw [State.holdingsSought_eq, State.holdingsSettled_eq]
  unfold State.smuMapUpdate
  dsimp only

/-- The map of `t` is the map of `s` but for the owners of its slots; nothing else of the SMU but the holdings differs. -/
structure SameSlots (s t : State) : Prop where
  tag : ∀ k, (t.smu.map.get k).tag = (s.smu.map.get k).tag
  age : ∀ k, (t.smu.map.get k).age = (s.smu.map.get k).age
  parity : ∀ k, (t.smu.map.get k).parityErrors = (s.smu.map.get k).parityErrors
  locator : t.smu.locator = s.smu.locator
  collected : t.smu.collected = s.smu.collected
  results : t.smu.results = s.smu.results

theorem SameSlots.refl : SameSlots s s := ⟨fun _ => rfl, fun _ => rfl, fun _ => rfl, rfl, rfl, rfl⟩

theorem SameSlots.trans {s t u : State} (h : SameSlots s t) (k : SameSlots t u) : SameSlots s u :=
  ⟨fun i => (k.tag i).trans (h.tag i), fun i => (k.age i).trans (h.age i), fun i => (k.parity i).trans (h.parity i),
    k.locator.trans h.locator, k.collected.trans h.collected, k.results.trans h.results⟩

theorem disown_keeps (map : Table 40 SlotEntry) (h : Fin 11) (k : Fin 40) : ((disown map h).get k).tag = (map.get k).tag ∧
    ((disown map h).get k).age = (map.get k).age ∧ ((disown map h).get k).parityErrors = (map.get k).parityErrors := by
  unfold disown
  rw [Table.get_map]
  split <;> exact ⟨rfl, rfl, rfl⟩

theorem ownSlots_keeps (map : Table 40 SlotEntry) (own : Option (Fin 11)) (first run : Nat) (k : Fin 40) :
    ((ownSlots map own first run).get k).tag = (map.get k).tag ∧ ((ownSlots map own first run).get k).age = (map.get k).age ∧
      ((ownSlots map own first run).get k).parityErrors = (map.get k).parityErrors := by
  unfold ownSlots
  rw [Table.get_mapIdx]
  split <;> exact ⟨rfl, rfl, rfl⟩

theorem State.leaveHeld_sameSlots (h : Fin 11) (x : Holding) : SameSlots s (s.leaveHeld h x) := by
  have hsmu := State.leaveHeld_smu h s x
  have hkeeps := disown_keeps s.smu.map h
  refine ⟨fun k => ?_, fun k => ?_, fun k => ?_, ?_, ?_, ?_⟩ <;> rw [hsmu]
  · exact (hkeeps k).1
  · exact (hkeeps k).2.1
  · exact (hkeeps k).2.2

/-- R31, R37: a holding that is settled is as it was, or lost its target, or is HELD on it, or has left HELD. -/
theorem State.settleHolding_cases (h : Fin 11) : s.settleHolding h = s ∨
    s.settleHolding h = (s.setHolding h (s.holding h).lose).bump .contentionLosses ∨
    s.settleHolding h = { s with smu := { s.smu with
      holdings := s.smu.holdings.set h { s.holding h with state := .held, attempts := 0 }
      map := ownSlots s.smu.map (some h) ((s.holding h).first.getD 0) (s.holdingRun h) } } ∨
    s.settleHolding h = (s.leaveHeld h { s.holding h with state := .seeking, first := none }).bump .slotsLost := by
  unfold State.settleHolding
  dsimp only
  split
  · split
    · exact .inr (.inl rfl)
    · split
      · exact .inr (.inr (.inl rfl))
      · exact .inl rfl
  · split
    · exact .inr (.inr (.inr rfl))
    · exact .inl rfl
  · exact .inl rfl
  · exact .inl rfl

theorem State.settleHolding_sameSlots (h : Fin 11) : SameSlots s (s.settleHolding h) := by
  rcases s.settleHolding_cases h with heq | heq | heq | heq <;> rw [heq]
  · exact SameSlots.refl s
  · exact ⟨fun _ => rfl, fun _ => rfl, fun _ => rfl, rfl, rfl, rfl⟩
  · have hkeeps := ownSlots_keeps s.smu.map (some h) ((s.holding h).first.getD 0) (s.holdingRun h)
    exact ⟨fun k => (hkeeps k).1, fun k => (hkeeps k).2.1, fun k => (hkeeps k).2.2, rfl, rfl, rfl⟩
  · obtain ⟨tag, age, parity, locator, collected, results⟩ := s.leaveHeld_sameSlots h { s.holding h with state := .seeking, first := none }
    exact ⟨tag, age, parity, locator, collected, results⟩

theorem State.holdingsSettled_sameSlots : SameSlots s s.holdingsSettled := by
  rw [State.holdingsSettled_eq]
  exact foldl_keeps (I := fun t => SameSlots s t) (fun t h ht => ht.trans (t.settleHolding_sameSlots h)) (indices 11) (SameSlots.refl s)

/-- R32 to R34: a holding that seeks has its own fields written, and nothing else. -/
theorem State.seekHolding_cases (p : State × List Nat) (h : Fin 11) :
    (State.seekHolding p h).1 = p.1 ∨ ∃ x, (State.seekHolding p h).1 = p.1.setHolding h x := by
  unfold State.seekHolding
  dsimp only
  split
  · split
    · exact .inr ⟨_, rfl⟩
    · split
      · exact .inr ⟨_, rfl⟩
      · exact .inr ⟨_, rfl⟩
  · exact .inl rfl

theorem State.holdingsSought_only : s.holdingsSought = { s with smu := { s.smu with holdings := s.holdingsSought.smu.holdings } } := by
  rw [State.holdingsSought_eq]
  refine foldl_keeps (I := fun p : State × List Nat => p.1 = { s with smu := { s.smu with holdings := p.1.smu.holdings } })
    (fun p h hp => ?_) (indices 11) rfl
  rcases State.seekHolding_cases p h with heq | ⟨x, heq⟩
  · rw [heq]
    exact hp
  · rw [heq]
    exact congrArg (State.setHolding h x) hp

theorem State.settleHolding_counter (h : Fin 11) {c : Counter} (hlosses : c ≠ .contentionLosses) (hlost : c ≠ .slotsLost) :
    (s.settleHolding h).counter c = s.counter c := by
  rcases s.settleHolding_cases h with heq | heq | heq | heq <;> rw [heq]
  · rw [State.counter_bump, if_neg (Ne.symm hlosses)]
    rfl
  · rfl
  · rw [State.counter_bump, if_neg (Ne.symm hlost), State.counter, (State.leaveHeld_frame h _ s).2.1]
    rfl

theorem State.holdingsSettled_counter {c : Counter} (hlosses : c ≠ .contentionLosses) (hlost : c ≠ .slotsLost) :
    s.holdingsSettled.counter c = s.counter c := by
  rw [State.holdingsSettled_eq]
  exact foldl_keeps (I := fun t : State => t.counter c = s.counter c)
    (fun t h ht => (t.settleHolding_counter h hlosses hlost).trans ht) (indices 11) rfl

theorem State.settleHolding_receivers (h : Fin 11) :
    (s.settleHolding h).cmu.rx = s.cmu.rx := by
  rcases s.settleHolding_cases h with heq | heq | heq | heq <;> rw [heq]
  · rfl
  · exact (s.leaveHeld_receivers h _).1

/-- R23, R26, R27: what the SMU leaves of the slots at the map update. -/
theorem State.smuMapUpdate_slots : let map := s.smu.map.mapIdx fun k e => e.replace (s.smu.collected.get k)
    (∀ k, (s.smuMapUpdate.smu.map.get k).tag = (map.get k).tag ∧ (s.smuMapUpdate.smu.map.get k).age = (map.get k).age ∧
      (s.smuMapUpdate.smu.map.get k).parityErrors = (map.get k).parityErrors) ∧
    s.smuMapUpdate.smu.locator = buildLocator (mapTags map) ∧ s.smuMapUpdate.smu.collected = Table.replicate 40 none ∧
    s.smuMapUpdate.smu.results = [] ∧ s.smuMapUpdate.cmu.rx = s.cmu.rx ∧
    s.smuMapUpdate.counter .duplicateTags =
      satInc^[((buildLocator (mapTags map)).filter fun (i : LocItem) => i.dup).length] (s.counter .duplicateTags) ∧
    ∀ c, c ≠ .duplicateTags → c ≠ .contentionLosses → c ≠ .slotsLost → s.smuMapUpdate.counter c = s.counter c := by
  intro map
  have hreplaced : s.replaceMap.smu = { s.smu with map := map, locator := buildLocator (mapTags map) } := by
    unfold State.replaceMap
    dsimp only
    rw [State.bumpN_eq]
  have hcounted : ∀ c, s.replaceMap.counter c = if .duplicateTags = c then
      satInc^[((buildLocator (mapTags map)).filter fun (i : LocItem) => i.dup).length] (s.counter c) else s.counter c := fun c => by
    unfold State.replaceMap
    dsimp only
    rw [State.counter_bumpN]
    rfl
  have hslots := s.replaceMap.holdingsSettled_sameSlots
  have hrx : s.replaceMap.holdingsSettled.cmu.rx = s.cmu.rx := by
    rw [State.holdingsSettled_eq]
    exact foldl_keeps (I := fun t : State => t.cmu.rx = s.cmu.rx) (fun t h ht => (t.settleHolding_receivers h).trans ht) (indices 11)
      (by simp)
  have hcounter := fun {c} h1 h2 => s.replaceMap.holdingsSettled_counter (c := c) h1 h2
  have hsought := s.replaceMap.holdingsSettled.holdingsSought_only
  have hupdate := s.smuMapUpdate_eq
  generalize s.smuMapUpdate = t at hupdate ⊢
  generalize s.replaceMap.holdingsSettled.holdingsSought = w at hsought hupdate
  generalize s.replaceMap.holdingsSettled = v at hslots hrx hcounter hsought
  have hmap : w.smu.map = v.smu.map := by rw [hsought]
  have hlocator : w.smu.locator = v.smu.locator := by rw [hsought]
  have hcmu : w.cmu = v.cmu := by rw [hsought]
  have hafter : ∀ c, t.counter c = v.counter c := fun c => by
    have hcounters : w.counters = v.counters := by rw [hsought]
    rw [hupdate]
    exact congrArg (fun x => Table.get x c.idx) hcounters
  simp only [hafter]
  rw [hupdate]
  dsimp only
  rw [hmap, hlocator, hcmu]
  refine ⟨fun k => ⟨?_, ?_, ?_⟩, ?_, rfl, rfl, hrx, ?_, fun c hdup hlosses hlost => ?_⟩
  · rw [hslots.tag, hreplaced]
  · rw [hslots.age, hreplaced]
  · rw [hslots.parity, hreplaced]
  · rw [hslots.locator, hreplaced]
  · rw [hcounter (by decide) (by decide), hcounted, if_pos rfl]
  · rw [hcounter hlosses hlost, hcounted, if_neg (Ne.symm hdup)]

end smu

end Sys2Proof.Machine
end

section
/-!
PROOFS. The receivers (R73 to R75): the streams that they are given at a map update (O25).
-/

namespace Sys2Proof.Machine

/-! ### Giving receivers (R73) -/

/-- R73: a receiver that has just been given a stream. -/
def Receiver.given (h : Byte × Nat) : Receiver := { Receiver.reset with tag := some h.1, slot := h.2 }

/-- R73: a heard stream has a receiver already, finds none free, or takes a free one. -/
theorem giveReceiver_cases (rx : Table 4 Receiver) (h : Byte × Nat) :
    (giveReceiver rx h = rx ∧ ((∃ i, (rx.get i).tag = some h.1) ∨ ∀ i, (rx.get i).tag ≠ none)) ∨
    ∃ i, (rx.get i).tag = none ∧ giveReceiver rx h = rx.set i (Receiver.given h) := by
  unfold giveReceiver
  split
  case isTrue hhas =>
    rw [table_toList, List.any_map, List.any_eq_true] at hhas
    obtain ⟨i, -, hi⟩ := hhas
    exact .inl ⟨rfl, .inl ⟨i, of_decide_eq_true hi⟩⟩
  case isFalse =>
    cases hfind : (indices 4).find? fun i => (rx.get i).tag.isNone with
    | some i =>
      have hi : (rx.get i).tag.isNone = true := List.find?_some (p := fun i => (rx.get i).tag.isNone) hfind
      exact .inr ⟨i, Option.isNone_iff_eq_none.1 hi, rfl⟩
    | none =>
      refine .inl ⟨rfl, .inr fun i hi => ?_⟩
      have hnone := List.find?_eq_none.1 hfind i (mem_indices i)
      simp [hi] at hnone

/-- What the giving of receivers keeps of the table `old` that it starts from. -/
structure ReceiversGiven (heard : List (Byte × Nat)) (old rx : Table 4 Receiver) : Prop where
  kept : ∀ i, (old.get i).tag ≠ none → rx.get i = old.get i
  given : ∀ i, (old.get i).tag = none → rx.get i = old.get i ∨ ∃ h ∈ heard, rx.get i = Receiver.given h

theorem ReceiversGiven.give {heard : List (Byte × Nat)} {old rx : Table 4 Receiver} (h : ReceiversGiven heard old rx)
    {x : Byte × Nat} (hx : x ∈ heard) : ReceiversGiven heard old (giveReceiver rx x) ∧
      (∀ i a, (rx.get i).tag = some a → ((giveReceiver rx x).get i).tag = some a) ∧
      ((∃ i, ((giveReceiver rx x).get i).tag = some x.1) ∨ ∀ i, ((giveReceiver rx x).get i).tag ≠ none) := by
  rcases giveReceiver_cases rx x with ⟨heq, hserved⟩ | ⟨i, hfree, heq⟩
  · rw [heq]
    exact ⟨h, fun _ _ => id, hserved⟩
  · rw [heq]
    have hget : ∀ j, (rx.set i (Receiver.given x)).get j = if i = j then Receiver.given x else rx.get j := fun j => Table.get_set _ _ _ _
    refine ⟨⟨fun j hj => ?_, fun j hj => ?_⟩, fun j a hj => ?_, .inl ⟨i, ?_⟩⟩
    · rw [hget, if_neg, h.kept j hj]
      rintro rfl
      rw [h.kept i hj] at hfree
      exact hj hfree
    · rw [hget]
      split
      · exact .inr ⟨x, hx, rfl⟩
      · exact h.given j hj
    · rw [hget, if_neg, hj]
      rintro rfl
      rw [hfree] at hj
      cases hj
    · rw [hget, if_pos rfl]
      rfl

theorem receiversGiven_foldl {heard : List (Byte × Nat)} {old : Table 4 Receiver} : ∀ (l : List (Byte × Nat)) {rx : Table 4 Receiver},
    (∀ x ∈ l, x ∈ heard) → ReceiversGiven heard old rx → ReceiversGiven heard old (l.foldl giveReceiver rx) ∧
      (∀ i a, (rx.get i).tag = some a → ((l.foldl giveReceiver rx).get i).tag = some a) ∧
      ∀ x ∈ l, (∃ i, ((l.foldl giveReceiver rx).get i).tag = some x.1) ∨ ∀ i, ((l.foldl giveReceiver rx).get i).tag ≠ none := by
  intro l
  induction l with
  | nil => exact fun _ h => ⟨h, fun _ _ => id, nofun⟩
  | cons x l ih =>
    intro rx hl h
    obtain ⟨hgiven, hstays, hserved⟩ := h.give (hl x (by simp))
    obtain ⟨hend, hstay, hall⟩ := ih (fun y hy => hl y (by simp [hy])) hgiven
    refine ⟨hend, fun i a hi => hstay i a (hstays i a hi), fun y hy => ?_⟩
    rcases List.mem_cons.1 hy with rfl | hy
    · refine hserved.imp (fun ⟨i, hi⟩ => ⟨i, hstay i _ hi⟩) fun hfull i => ?_
      obtain ⟨a, ha⟩ := Option.ne_none_iff_exists'.1 (hfull i)
      rw [List.foldl_cons, hstay i a ha]
      nofun
    · exact hall y hy

/-- R73: a receiver before streams are given: kept, moved to its stream's new slot, or reset. -/
theorem Receiver.keep_cases {heard : List (Byte × Nat)} (hunique : ∀ a j k, (a, j) ∈ heard → (a, k) ∈ heard → j = k)
    {r : Receiver} {a : Byte} (htag : r.tag = some a) :
    (∀ k, (a, k) ∈ heard → r.keep heard = if k = r.slot then r else Receiver.given (a, k)) ∧
      ((∀ k, (a, k) ∉ heard) → r.keep heard = .reset) := by
  unfold Receiver.keep
  rw [htag]
  dsimp only
  cases hfind : heard.find? fun h => decide (h.1 = a) with
  | none =>
    refine ⟨fun k hk => ?_, fun _ => rfl⟩
    have hnone := List.find?_eq_none.1 hfind _ hk
    simp at hnone
  | some h =>
    have hmem := List.mem_of_find?_eq_some hfind
    have hfst : h.1 = a := of_decide_eq_true (List.find?_some (p := fun h : Byte × Nat => decide (h.1 = a)) hfind)
    obtain ⟨b, j⟩ := h
    obtain rfl : b = a := hfst
    refine ⟨fun k hk => ?_, fun hnot => absurd hmem (hnot j)⟩
    obtain rfl := hunique b j k hmem hk
    rfl

/-- R73: what the reassignment leaves of the receivers. -/
theorem State.receiversReassign_spec {s : State} {heard : List (Byte × Nat)} (hheard : heardSet s.smu.locator = heard)
    (hunique : ∀ a j k, (a, j) ∈ heard → (a, k) ∈ heard → j = k) :
    let old := fun i => s.cmu.rx.get i
    let new := fun i => s.receiversReassign.cmu.rx.get i
    (∀ i a, (new i).tag = some a → (a, (new i).slot) ∈ heard) ∧
    (∀ a k, (a, k) ∈ heard → (∃ i, (new i).tag = some a) ∨ ∀ i, (new i).tag ≠ none) ∧
    (∀ i a, (old i).tag = some a → (a, (old i).slot) ∈ heard → new i = old i) ∧
    (∀ i a k, (old i).tag = some a → (a, k) ∈ heard → k ≠ (old i).slot → new i = ⟨some a, k, .hunt, [], 0⟩) ∧
    (∀ i a, (old i).tag = some a → (∀ k, (a, k) ∉ heard) → (new i).tag ≠ some a) ∧
    (∀ i a, (old i).tag = none → (new i).tag = some a → (new i).state = .hunt ∧ (new i).bytes = []) := by
  intro old new
  have hnew : s.receiversReassign.cmu.rx = heard.foldl giveReceiver (s.cmu.rx.map (Receiver.keep heard)) := by
    unfold State.receiversReassign
    rw [hheard]
  obtain ⟨⟨hkept, hgiven⟩, -, hserved⟩ := receiversGiven_foldl (old := s.cmu.rx.map (Receiver.keep heard)) heard (fun _ => id)
    ⟨fun _ _ => rfl, fun _ _ => .inl rfl⟩
  rw [← hnew] at hkept hgiven hserved
  simp only [Table.get_map] at hkept hgiven
  have hkeep := fun i {a} (h : (old i).tag = some a) => Receiver.keep_cases hunique h
  have hnone : ∀ i, (old i).tag = none → (old i).keep heard = old i := fun i h => by
    unfold Receiver.keep
    rw [h]
  have hheld : ∀ i a, (old i).tag = some a → ∀ k, (a, k) ∈ heard → new i = if k = (old i).slot then old i else Receiver.given (a, k) :=
    fun i a htag k hk => by
      have hvalue := (hkeep i htag).1 k hk
      rw [← hvalue]
      refine hkept i ?_
      rw [hvalue]
      split
      · rw [htag]; nofun
      · nofun
  have hfree : ∀ i, ((old i).keep heard).tag = none → ∀ a, (new i).tag = some a → ∃ h ∈ heard, new i = Receiver.given h :=
    fun i hi a ha => by
      rcases hgiven i hi with heq | hgave
      · rw [show new i = _ from heq, hi] at ha
        cases ha
      · exact hgave
  have hheardTag : ∀ i a, (new i).tag = some a → (a, (new i).slot) ∈ heard := fun i a ha => by
    cases hkeepTag : ((old i).keep heard).tag with
    | none =>
      obtain ⟨h, hh, heq⟩ := hfree i hkeepTag a ha
      rw [heq] at ha ⊢
      obtain rfl : h.1 = a := Option.some.inj ha
      exact hh
    | some b =>
      cases htag : (old i).tag with
      | none => rw [hnone i htag, htag] at hkeepTag; cases hkeepTag
      | some c =>
        by_cases hin : ∃ k, (c, k) ∈ heard
        · obtain ⟨k, hk⟩ := hin
          have heq := hheld i c htag k hk
          split at heq
          case isTrue hslot =>
            rw [heq, htag] at ha
            obtain rfl := Option.some.inj ha
            rw [heq, ← hslot]
            exact hk
          case isFalse hslot =>
            rw [heq] at ha ⊢
            obtain rfl : c = a := Option.some.inj ha
            exact hk
        · rw [(hkeep i htag).2 (fun k hk => hin ⟨k, hk⟩)] at hkeepTag
          cases hkeepTag
  refine ⟨hheardTag, fun a k hk => hserved (a, k) hk, fun i a htag hk => ?_, fun i a k htag hk hne => ?_, fun i a _ hnot ha => ?_,
    fun i a htag ha => ?_⟩
  · rw [hheld i a htag _ hk, if_pos rfl]
  · rw [hheld i a htag k hk, if_neg hne]
    rfl
  · exact hnot _ (hheardTag i a ha)
  · obtain ⟨h, -, heq⟩ := hfree i (by rw [hnone i htag, htag]) a ha
    rw [heq]
    exact ⟨rfl, rfl⟩

/-! ### The streams heard -/

/-- R73: the locator gives each control stream one slot. -/
theorem heardSet_unique (tags : List Byte) (a : Byte) (j k : Nat) (hj : (a, j) ∈ heardSet (buildLocator tags))
    (hk : (a, k) ∈ heardSet (buildLocator tags)) : j = k := by
  obtain ⟨m, -, hlists⟩ := buildLocator_lists tags
  have hitem : ∀ {x}, (a, x) ∈ heardSet (buildLocator tags) → ∃ i ∈ buildLocator tags, i.tag = a ∧ i.first = x := fun hx => by
    obtain ⟨i, hi, heq⟩ := List.mem_map.1 hx
    obtain ⟨htag, hfirst⟩ := Prod.mk.inj heq
    exact ⟨i, (List.mem_filter.1 (List.mem_of_mem_take hi)).1, htag, hfirst⟩
  obtain ⟨x, hx, hxa, rfl⟩ := hitem hj
  obtain ⟨y, hy, hya, rfl⟩ := hitem hk
  have hstands : ∀ {i}, i ∈ buildLocator tags → tags[i.first]? = some i.tag := fun hi =>
    hlists.stands _ hi _ (Nat.le_refl _) (by have := (hlists.long _ hi).1; omega)
  rcases Nat.lt_trichotomy x.first y.first with hlt | heq | hlt
  · exact absurd (hxa.trans hya.symm ▸ hstands hx) (hlists.starts y hy _ hlt)
  · exact heq
  · exact absurd (hya.trans hxa.symm ▸ hstands hy) (hlists.starts x hx _ hlt)

/-! ### The receivers after the map update -/

theorem Cmu.put_rx (c : Cmu) (o : Origin) (bytes : List Byte) : (c.put o bytes).rx = c.rx := by
  unfold Cmu.put
  split <;> rfl

theorem State.publish_rx (b : Fin 4) (new : Follow) (s : State) : (s.publish b new).cmu.rx = s.cmu.rx := by
  rw [State.publish_cmu, State.wkuFollowChange_cmu]
  split
  · exact Cmu.put_rx _ _ _
  · rfl

theorem State.followBerth_rx (b : Fin 4) (s : State) : (s.followBerth b).cmu.rx = s.cmu.rx := by
  rcases s.followBerth_cases b with h | h <;> rw [h]
  exact State.publish_rx _ _ _

theorem State.evaluate_rx (s : State) : s.evaluate.cmu.rx = s.cmu.rx := by
  have hfold : ∀ l : List (Fin 4), ∀ u : State, (l.foldl (fun s b => s.followBerth b) u).cmu.rx = u.cmu.rx := fun l u =>
    foldl_keeps (I := fun t : State => t.cmu.rx = u.cmu.rx) (fun t b ht => (t.followBerth_rx b).trans ht) l rfl
  unfold State.evaluate
  dsimp only
  rw [State.clearMarks]
  dsimp only
  rw [hfold]
  simp

/-- R30, R73: the map update's receivers are those of the reassignment by the new locator. -/
theorem State.mapUpdate_rx (s : State) : s.mapUpdate.cmu.rx = s.smuMapUpdate.receiversReassign.cmu.rx ∧
    s.mapUpdate.smu = s.smuMapUpdate.smu := by
  unfold State.mapUpdate
  rw [State.evaluate_rx]
  refine ⟨by simp, by simp⟩

/-- Settles O25. -/
theorem receiverCompletesASentMessage : Obligations.ReceiverCompletesASentMessage := by
  refine ⟨fun kind p m r hparse hr => Receiver.completes hparse hr, receiverFollowsTheTable,
    fun k byte ninth wait s hdue htrunk hframe hdone => ?slot, fun byte ninth wait s hdue htrunk hframe hdone => ?update⟩
  case slot =>
    obtain ⟨t, hexec, htaken, -⟩ := dataSlotTaken_exec (byte := byte) (ninth := ninth) (wait := wait) hdue htrunk hframe hdone
    refine ⟨t, hexec, ?_, ?_, ?_⟩
    · rw [table_toList, List.map_map]
      exact List.map_congr_left fun i _ => htaken.rx i
    · rw [List.map_map]
      exact htaken.badMessages
    · rw [List.filterMap_map]
      exact htaken.dispatch
  case update =>
    refine ⟨_, exec_mapUpdate byte ninth wait hdue htrunk hframe hdone, ?_⟩
    obtain ⟨hrx, hsmu⟩ := (s.lastSlot byte ninth wait).mapUpdate_rx
    obtain ⟨-, hlocator, -, -, hold, -⟩ := (s.lastSlot byte ninth wait).smuMapUpdate_slots
    have hlast : (s.lastSlot byte ninth wait).cmu.rx = s.cmu.rx := by rw [State.lastSlot_eq byte ninth wait hframe hdone]
    have hspec := (s.lastSlot byte ninth wait).smuMapUpdate.receiversReassign_spec rfl
      (fun a j k => by rw [hlocator]; exact heardSet_unique _ a j k)
    rw [hold, hlast] at hspec
    rw [hrx, hsmu]
    exact hspec

end Sys2Proof.Machine
end

section
/-!
PROOFS. The completion of a switch (R131 to R133, R183, R184): what the screen takes of it, at the pending timer, at a map update and
at a tick in LISTEN (O39).
-/

namespace Sys2Proof.Machine

/-! ### A feed without its waiting programme (R183, R184) -/

section drop
variable (f : Feed)

theorem Feed.dropProgramme_inTransit : f.dropProgramme.inTransit = f.inTransit := by
  unfold Feed.dropProgramme Feed.inTransit Feed.notStarted
  cases f.tx with
  | false => rfl
  | true => cases f.queue <;> rfl

theorem Feed.dropProgramme_notStarted : f.dropProgramme.notStarted = f.notStarted.filter isCardRecord := by
  unfold Feed.dropProgramme Feed.inTransit Feed.notStarted
  cases f.tx with
  | false => rfl
  | true => cases f.queue <;> rfl

theorem Feed.dropProgramme_cards : ∀ x ∈ f.dropProgramme.notStarted, isCardRecord x = true := fun x hx => by
  rw [Feed.dropProgramme_notStarted] at hx
  exact (List.mem_filter.1 hx).2

end drop

theorem insertCard_cards {r : List Byte} (hr : isCardRecord r = true) {q : List (List Byte)} (hq : ∀ x ∈ q, isCardRecord x = true) :
    ∀ x ∈ insertCard r q, isCardRecord x = true := by
  have hnone : (insertCard r q).filter (fun x => !isCardRecord x) = [] := by
    rw [insertCard_filter hr, List.filter_eq_nil_iff]
    exact fun x hx => by simp [hq x hx]
  exact fun x hx => by simpa using List.filter_eq_nil_iff.1 hnone x hx

/-- R185: a feed after a base card. -/
def Feed.showsBase (c : BaseCard) (f : Feed) : Feed :=
  if f.base = c then f else ({ f with base := c }.placeCard (baseRecord c)).1

theorem State.showBase_feed (b : Fin 4) (c : BaseCard) (s : State) : (s.showBase b c).feed b = (s.feed b).showsBase c := by
  unfold Feed.showsBase
  split
  · next h => rw [State.showBase_same b s h]
  · next h => rw [State.showBase_feed_differs b s h]

/-- A base card that is shown where only cards wait and nothing follows: they stay behind the record in transmission. -/
theorem State.showBase_ofCards (b : Fin 4) (c : BaseCard) {s : State} (hquiet : (s.feed b).state ≠ .following)
    (hcards : ∀ x ∈ (s.feed b).notStarted, isCardRecord x = true) :
    let g := (s.showBase b c).feed b
    g = { s.feed b with base := c, queue := g.queue } ∧ ((s.feed b).base ≠ c → baseRecord c ∈ g.queue) ∧
      (∃ q, (∀ x ∈ q, isCardRecord x = true) ∧ g.queue = (s.feed b).inTransit ++ q) ∧
      ∀ x, (s.showBase b c).counter x = s.counter x := by
  refine ⟨s.showBase_quiet b hquiet c, s.showBase_mem b, ?_, fun x => ?_⟩
  · by_cases hsame : (s.feed b).base = c
    · rw [State.showBase_same b s hsame]
      exact ⟨(s.feed b).notStarted, hcards, (Feed.inTransit_append_notStarted _).symm⟩
    · rw [State.showBase_feed_differs b s hsame,
        Feed.placeCard_of_cards { s.feed b with base := c } (isCardRecord_baseRecord c) hcards]
      exact ⟨_, insertCard_cards (isCardRecord_baseRecord c) hcards, rfl⟩
  · by_cases hsame : (s.feed b).base = c
    · rw [State.showBase_same b s hsame]
    · rw [State.showBase_differs b s hsame, State.placeCard]
      dsimp only
      rw [State.setFeed_feed_self, Feed.placeCard_of_cards { s.feed b with base := c } (isCardRecord_baseRecord c) hcards]
      rfl

/-! ### The choice notice (R184) -/

/-- R184: a feed that takes the video of a new choice, or none. -/
def Feed.takesVideo (video : Option Byte) (f : Feed) : Feed :=
  { f.dropProgramme with video := video, state := if video = none then .off else .waitKey, waitKey := none }

/-- R184: the base card of a new choice. -/
def choiceCard (video : Option Byte) : BaseCard := if video = none then .rest else .unavailable

section notice
variable (b : Fin 4) (ch : Choice) {cause : SwitchCause} (hcause : cause ≠ .keyRecord) (s : State)
include hcause

theorem State.choiceNotice_eq : s.choiceNotice b ch cause =
    (s.setFeed b ((s.feed b).takesVideo (s.cfg.videoOf ch))).showBase b (choiceCard (s.cfg.videoOf ch)) := by
  unfold State.choiceNotice Feed.takesVideo choiceCard
  cases cause with
  | keyRecord => exact absurd rfl hcause
  | mapUpdate => cases s.cfg.videoOf ch <;> rfl
  | timeout => cases s.cfg.videoOf ch <;> rfl

theorem State.choiceNotice_feed_eq : (s.choiceNotice b ch cause).feed b =
    ((s.feed b).takesVideo (s.cfg.videoOf ch)).showsBase (choiceCard (s.cfg.videoOf ch)) := by
  rw [State.choiceNotice_eq b ch hcause, State.showBase_feed, State.setFeed_feed_self]

theorem State.choiceNotice_feed : let g := (s.choiceNotice b ch cause).feed b
    g = { (s.feed b).takesVideo (s.cfg.videoOf ch) with base := choiceCard (s.cfg.videoOf ch), queue := g.queue } ∧
      ((s.feed b).base ≠ choiceCard (s.cfg.videoOf ch) → baseRecord (choiceCard (s.cfg.videoOf ch)) ∈ g.queue) ∧
      ∃ q, (∀ x ∈ q, isCardRecord x = true) ∧ g.queue = (s.feed b).inTransit ++ q := by
  rw [State.choiceNotice_eq b ch hcause]
  have hself := s.setFeed_feed_self b ((s.feed b).takesVideo (s.cfg.videoOf ch))
  have hquiet : ((s.feed b).takesVideo (s.cfg.videoOf ch)).state ≠ .following := by
    unfold Feed.takesVideo
    dsimp only
    split <;> nofun
  obtain ⟨honly, hmem, hqueue, -⟩ := State.showBase_ofCards b (choiceCard (s.cfg.videoOf ch))
    (s := s.setFeed b ((s.feed b).takesVideo (s.cfg.videoOf ch))) (by rw [hself]; exact hquiet)
    (by rw [hself]; exact (s.feed b).dropProgramme_cards)
  rw [hself] at honly hmem hqueue
  exact ⟨honly, hmem, by rw [← (s.feed b).dropProgramme_inTransit]; exact hqueue⟩

theorem State.choiceNotice_feed_other {c : Fin 4} (hc : c ≠ b) : (s.choiceNotice b ch cause).feed c = s.feed c := by
  rw [State.choiceNotice_eq b ch hcause, State.showBase_feed_other b _ hc, State.setFeed_feed_other b s hc]

theorem State.choiceNotice_inbox : (s.choiceNotice b ch cause).sfu.inbox = s.sfu.inbox := by
  rw [State.choiceNotice_eq b ch hcause, State.showBase_inbox]
  rfl

/-- R131: the berth takes its pending choice. -/
def Berth.switched (ch : Choice) (x : Berth) : Berth := { x with choice := ch, pendingChoice := none, pendingTimer := none }

theorem State.completeSwitch_feed (c : Fin 4) : (s.completeSwitch b ch cause).feed c = (s.choiceNotice b ch cause).feed c := by
  unfold State.completeSwitch
  by_cases hc : c = b
  · subst hc
    rw [State.choiceNotice_feed_eq c ch hcause, State.choiceNotice_feed_eq c ch hcause]
    rfl
  · rw [State.choiceNotice_feed_other b ch hcause _ hc, State.choiceNotice_feed_other b ch hcause _ hc]
    rfl

omit hcause in
theorem State.completeSwitch_bcu : (s.completeSwitch b ch cause).bcu = s.bcu.set b ((s.bcu.get b).switched ch) := by
  unfold State.completeSwitch
  simp [Berth.switched]

end notice

/-! ### Completions at a map update and at a tick in LISTEN (R126, R132) -/

/-- R132: the berth has a pending choice without video. -/
def State.completes (s : State) (b : Fin 4) (ch : Choice) : Prop :=
  (s.bcu.get b).pendingChoice = some ch ∧ s.cfg.videoOf ch = none

theorem State.completeWithoutVideo_cases (b : Fin 4) (s : State) :
    (∀ ch, s.completes b ch → s.completeWithoutVideo b = s.completeSwitch b ch .mapUpdate) ∧
      ((∀ ch, ¬s.completes b ch) → s.completeWithoutVideo b = s) := by
  unfold State.completeWithoutVideo State.completes
  cases hpending : (s.bcu.get b).pendingChoice with
  | none => exact ⟨nofun, fun _ => rfl⟩
  | some ch =>
    refine ⟨?_, fun h => if_neg fun hnone => h ch ⟨rfl, Option.isNone_iff_eq_none.1 hnone⟩⟩
    rintro c ⟨hc, hvideo⟩
    obtain rfl := Option.some.inj hc
    exact if_pos (Option.isNone_iff_eq_none.2 hvideo)

/-- What the completion of a berth can see or change. -/
def State.switchView (s : State) (b : Fin 4) : Berth × Feed × Loader := (s.bcu.get b, s.feed b, s.cfl)

theorem State.completeWithoutVideo_other (s : State) (a b : Fin 4) (h : b ≠ a) :
    (s.completeWithoutVideo a).switchView b = s.switchView b := by
  obtain ⟨hcompletes, hkeeps⟩ := s.completeWithoutVideo_cases a
  by_cases hany : ∃ ch, s.completes a ch
  · obtain ⟨ch, hch⟩ := hany
    rw [hcompletes ch hch]
    unfold State.switchView
    rw [State.completeSwitch_bcu, Table.get_set_of_ne _ _ (Ne.symm h), State.completeSwitch_feed a ch (by nofun),
      State.choiceNotice_feed_other a ch (by nofun) s h]
    simp
  · rw [hkeeps fun ch hch => hany ⟨ch, hch⟩]

theorem mem_configuredBerths {s : State} {b : Fin 4} : b ∈ s.configuredBerths ↔ s.configured b = true := by
  simp [State.configuredBerths, mem_indices]

theorem configuredBerths_nodup (s : State) : s.configuredBerths.Nodup := (indices_nodup 4).filter _

/-- R132: a berth after the completions. -/
theorem State.bcuCompletions_berth (s : State) (b : Fin 4) :
    (∀ ch, s.configured b = true → s.completes b ch → s.bcuCompletions.bcu.get b = (s.bcu.get b).switched ch ∧
      s.bcuCompletions.feed b = (s.choiceNotice b ch .mapUpdate).feed b) ∧
    (s.configured b = false ∨ (∀ ch, ¬s.completes b ch) →
      s.bcuCompletions.bcu.get b = s.bcu.get b ∧ s.bcuCompletions.feed b = s.feed b) := by
  obtain ⟨hout, hin⟩ := foldl_at (f := fun (s : State) b => s.completeWithoutVideo b) (V := State.switchView)
    (fun s a b h => s.completeWithoutVideo_other a b h) (configuredBerths_nodup s) s b
  have hfold : s.bcuCompletions = s.configuredBerths.foldl (fun s b => s.completeWithoutVideo b) s := rfl
  rw [← hfold] at hout hin
  generalize s.bcuCompletions = t at hout hin ⊢
  have hview : ∀ u : State, u.switchView b = s.switchView b →
      u.bcu.get b = s.bcu.get b ∧ u.feed b = s.feed b ∧ u.cfl = s.cfl := fun u hu => by
    obtain ⟨h1, h2⟩ := Prod.mk.inj hu
    exact ⟨h1, Prod.mk.inj h2⟩
  have hnotice : ∀ (u : State) ch, u.feed b = s.feed b → u.cfl = s.cfl →
      (u.choiceNotice b ch .mapUpdate).feed b = (s.choiceNotice b ch .mapUpdate).feed b := fun u ch hfeed hcfl => by
    have hcfg : u.cfg.videoOf ch = s.cfg.videoOf ch := by rw [State.cfg_congr hcfl]
    rw [State.choiceNotice_feed_eq b ch (by nofun), State.choiceNotice_feed_eq b ch (by nofun), hcfg, hfeed]
  refine ⟨fun ch hconf hch => ?_, fun h => ?_⟩
  · obtain ⟨u, hu, hend⟩ := hin (mem_configuredBerths.2 hconf)
    obtain ⟨hbcu, hfeed, hcfl⟩ := hview u hu
    have hcompletes : u.completes b ch := by
      unfold State.completes
      rw [hbcu, State.cfg_congr hcfl]
      exact hch
    obtain ⟨hbcu', hfeed', -⟩ : t.bcu.get b = (u.completeWithoutVideo b).bcu.get b ∧ t.feed b = (u.completeWithoutVideo b).feed b ∧ _ := by
      obtain ⟨h1, h2⟩ := Prod.mk.inj hend
      exact ⟨h1, Prod.mk.inj h2⟩
    rw [hbcu', hfeed', (u.completeWithoutVideo_cases b).1 ch hcompletes, State.completeSwitch_bcu,
      State.completeSwitch_feed b ch (by nofun), Table.get_set_self, hbcu]
    exact ⟨rfl, hnotice u ch hfeed hcfl⟩
  · by_cases hconf : s.configured b = true
    · obtain ⟨u, hu, hend⟩ := hin (mem_configuredBerths.2 hconf)
      obtain ⟨hbcu, hfeed, hcfl⟩ := hview u hu
      have hnot : ∀ ch, ¬u.completes b ch := fun ch => by
        unfold State.completes
        rw [hbcu, State.cfg_congr hcfl]
        exact h.resolve_left (by simp [hconf]) ch
      rw [(u.completeWithoutVideo_cases b).2 hnot, hu] at hend
      obtain ⟨hb, hf, -⟩ := hview t hend
      exact ⟨hb, hf⟩
    · obtain ⟨hb, hf, -⟩ := hview t (hout fun hmem => hconf (mem_configuredBerths.1 hmem))
      exact ⟨hb, hf⟩

/-! ### What comes after the completions -/

/-- A feed that does not follow its programme keeps its state, its video, its timer and its base card. -/
def Feed.QuietStays (f g : Feed) : Prop :=
  f.state ≠ .following → g.state = f.state ∧ g.video = f.video ∧ g.waitKey = f.waitKey ∧ g.base = f.base

theorem Feed.QuietStays.refl (f : Feed) : f.QuietStays f := fun _ => ⟨rfl, rfl, rfl, rfl⟩

theorem Feed.QuietStays.trans {f g h : Feed} (hfg : f.QuietStays g) (hgh : g.QuietStays h) : f.QuietStays h := fun hquiet => by
  obtain ⟨hstate, hvideo, hwait, hbase⟩ := hfg hquiet
  obtain ⟨hstate', hvideo', hwait', hbase'⟩ := hgh (by rw [hstate]; exact hquiet)
  exact ⟨hstate'.trans hstate, hvideo'.trans hvideo, hwait'.trans hwait, hbase'.trans hbase⟩

theorem Feed.quietStays_placeCard (f : Feed) (r : List Byte) : f.QuietStays (f.placeCard r).1 := fun hquiet => by
  rw [f.placeCard_quiet hquiet]
  exact ⟨rfl, rfl, rfl, rfl⟩

theorem State.setOverlay_quietStays (b : Fin 4) (o : Option Overlay) (s : State) : (s.feed b).QuietStays ((s.setOverlay b o).feed b) := by
  rw [State.setOverlay_feed]
  exact fun _ => ⟨rfl, rfl, rfl, rfl⟩

theorem State.showOverlay_quietStays (b : Fin 4) (o : Overlay) (s : State) : (s.feed b).QuietStays ((s.showOverlay b o).feed b) := by
  unfold State.showOverlay
  refine Feed.QuietStays.trans ?_ (State.setOverlay_quietStays b _ _)
  rw [State.placeCard_feed]
  exact Feed.quietStays_placeCard _ _

theorem State.sfuFollowChange_quietStays (b : Fin 4) (new : Follow) (s : State) :
    (s.feed b).QuietStays ((s.sfuFollowChange b new).feed b) := by
  unfold State.sfuFollowChange
  split
  · exact Feed.QuietStays.refl _
  · exact State.showOverlay_quietStays b _ s
  · split
    · split
      · exact keeps_if (I := fun t : State => (s.feed b).QuietStays (t.feed b)) (State.showOverlay_quietStays b _ s)
          fun _ => Feed.QuietStays.refl _
      · exact State.setOverlay_quietStays b _ s
    · split
      · exact State.showOverlay_quietStays b _ s
      · exact Feed.QuietStays.refl _

theorem State.publish_quietStays (b : Fin 4) (new : Follow) (s : State) (c : Fin 4) :
    (s.feed c).QuietStays ((s.publish b new).feed c) := by
  by_cases hc : c = b
  · subst hc
    have hbefore : ((s.mixerServed c new).wkuFollowChange c new).feed c = s.feed c := by
      rw [State.wkuFollowChange_feed]
      simp [State.mixerServed, State.feed]
    rw [State.publish_eq, ← hbefore]
    exact State.sfuFollowChange_quietStays c new _
  · rw [((s.publish_keeps b new).2.2 c hc).1]
    exact Feed.QuietStays.refl _

theorem State.publish_onlyLamp (b : Fin 4) (new : Follow) (s : State) (c : Fin 4) : OnlyLampChanged s (s.publish b new) c := by
  obtain ⟨-, honly, hother⟩ := s.publish_keeps b new
  by_cases hc : c = b
  · subst hc
    exact honly
  · exact onlyLampChanged_of_eq (hother c hc).2

/-- An evaluation changes of the berths the lamps only, and of a feed that does not follow its programme the queue and the overlay. -/
theorem State.evaluate_berths (s : State) (b : Fin 4) : OnlyLampChanged s s.evaluate b ∧ (s.feed b).QuietStays (s.evaluate.feed b) := by
  have htable : s.evaluateTable.bcu = s.bcu ∧ s.evaluateTable.sfu = s.sfu := by simp
  unfold State.evaluate
  dsimp only
  rw [State.clearMarks]
  generalize s.evaluateTable.configuredBerths = l
  generalize s.evaluateTable = u at htable
  obtain ⟨hbcu, hsfu⟩ := htable
  refine foldl_keeps (I := fun t : State => OnlyLampChanged s t b ∧ (s.feed b).QuietStays (t.feed b)) (fun t a ht => ?_) l ⟨?_, ?_⟩
  · obtain ⟨honly, hquiet⟩ := ht
    rcases t.followBerth_cases a with h | h <;> rw [h]
    · exact ⟨honly, hquiet⟩
    · exact ⟨honly.trans (t.publish_onlyLamp a _ b), hquiet.trans (t.publish_quietStays a _ b)⟩
  · exact onlyLampChanged_of_eq (by rw [hbcu])
  · rw [State.feed, State.feed, hsfu]
    exact Feed.QuietStays.refl _

/-! ### The completions of a state that a map update or a tick prepares -/

/-- The completions of `u`, whose choices are those of `s`, and the evaluation after them. -/
theorem completedWithoutVideo_of {s u t : State} (hcfl : u.cfl = s.cfl)
    (hbcu : ∀ b, (u.bcu.get b).choice = (s.bcu.get b).choice ∧ (u.bcu.get b).pendingChoice = (s.bcu.get b).pendingChoice)
    (hlamp : ∀ b, OnlyLampChanged u.bcuCompletions t b) (hquiet : ∀ b, (u.bcuCompletions.feed b).QuietStays (t.feed b)) :
    CompletedWithoutVideo s t := by
  intro b
  obtain ⟨hchoice, hpending⟩ := hbcu b
  obtain ⟨hcompletes, hkeeps⟩ := u.bcuCompletions_berth b
  have hcfg := State.cfg_congr hcfl
  have hconf := State.configured_of_cfl hcfl b
  have honly := hlamp b
  have hstays := hquiet b
  dsimp only
  refine ⟨fun ch hc hp hv => ?_, fun h => ?_⟩
  · obtain ⟨hberth, hfeed⟩ := hcompletes ch (by rw [hconf]; exact hc) ⟨by rw [hpending]; exact hp, by rw [hcfg]; exact hv⟩
    obtain ⟨honlyFeed, -⟩ := State.choiceNotice_feed b ch (cause := .mapUpdate) (by nofun) u
    have hnone : u.cfg.videoOf ch = none := by rw [hcfg]; exact hv
    rw [hnone] at honlyFeed
    have hnow : (u.bcuCompletions.feed b).state = .off := by rw [hfeed, honlyFeed]; rfl
    obtain ⟨hstate, hvideo, hwait, hbase⟩ := hstays (by rw [hnow]; nofun)
    rw [honly, hberth, hstate, hvideo, hwait, hbase, hfeed, honlyFeed]
    exact ⟨rfl, rfl, rfl, rfl, rfl, rfl, rfl⟩
  · have hnot : u.configured b = false ∨ ∀ ch, ¬u.completes b ch := by
      rcases h with h | h | ⟨ch, v, hp, hv⟩
      · exact .inl (by rw [hconf]; exact h)
      · refine .inr fun ch hch => ?_
        obtain ⟨hp, -⟩ := hch
        rw [hpending, h] at hp
        cases hp
      · refine .inr fun c hc => ?_
        obtain ⟨hp', hv'⟩ := hc
        rw [hpending, hp] at hp'
        obtain rfl := Option.some.inj hp'
        rw [hcfg, hv] at hv'
        cases hv'
    rw [honly, (hkeeps hnot).1]
    exact ⟨hchoice, hpending⟩

/-- R30: the state in which the map update completes switches. -/
def State.mapResolved (s : State) : State := s.smuMapUpdate.receiversReassign.lcuMapUpdate

theorem State.mapUpdate_eq (s : State) : s.mapUpdate = s.mapResolved.bcuCompletions.evaluate := rfl

theorem State.mapResolved_keeps (s : State) : s.mapResolved.cfl = s.cfl ∧ s.mapResolved.bcu = s.bcu := by
  unfold State.mapResolved
  exact ⟨by simp, by simp⟩

/-- Settles O39. -/
theorem pendingTimerCompletesTheSwitch : Obligations.PendingTimerCompletesTheSwitch := by
  refine ⟨fun byte ninth wait s hdue htrunk hframe hdone => ?update, fun fs s hdue hplain hlink hlate hframe => ?tick,
    fun b ch s hpending hchoice => ?timeout⟩
  case update =>
    refine ⟨_, exec_mapUpdate byte ninth wait hdue htrunk hframe hdone, ?_⟩
    have hlast : (s.lastSlot byte ninth wait).cfl = s.cfl ∧ (s.lastSlot byte ninth wait).bcu = s.bcu := by
      rw [State.lastSlot_eq byte ninth wait hframe hdone]
      exact ⟨rfl, rfl⟩
    obtain ⟨hcfl, hbcu⟩ := (s.lastSlot byte ninth wait).mapResolved_keeps
    rw [State.mapUpdate_eq]
    generalize (s.lastSlot byte ninth wait).mapResolved = u at hcfl hbcu ⊢
    rw [hlast.1] at hcfl
    rw [hlast.2] at hbcu
    refine ⟨completedWithoutVideo_of hcfl (fun b => by rw [hbcu]; exact ⟨rfl, rfl⟩) (fun b => (u.bcuCompletions.evaluate_berths b).1)
      fun b => (u.bcuCompletions.evaluate_berths b).2, fun b hsame => ?_⟩
    obtain ⟨hcompletes, hkeeps⟩ := u.bcuCompletions_berth b
    have honly := (u.bcuCompletions.evaluate_berths b).1
    rw [honly] at hsame ⊢
    dsimp only at hsame ⊢
    by_cases hany : u.configured b = true ∧ ∃ ch, u.completes b ch
    · obtain ⟨hconf, ch, hch⟩ := hany
      rw [(hcompletes ch hconf hch).1, ← hbcu, hch.1] at hsame
      cases hsame
    · have hnot : u.configured b = false ∨ ∀ ch, ¬u.completes b ch := by
        by_cases hconf : u.configured b = true
        · exact .inr fun ch hch => hany ⟨hconf, ch, hch⟩
        · exact .inl (by simpa using hconf)
      rw [(hkeeps hnot).1, hbcu]
  case tick =>
    have hexec := exec_flywheel_starts (fs := fs) hdue (late := .clear) (State.flywheels_of (.inl hlink)) (by nofun) fun _ => hlate
    have hbegun := flywheelBegun_begun (lateBitTime .clear) s
    rw [hframe] at hbegun
    have hstill : (s.flywheelBegun (lateBitTime .clear)).tlu.link = .listen := (s.tlu.flywheel_link _).trans hlink
    refine ⟨_, hexec, ?_⟩
    generalize s.flywheelBegun (lateBitTime .clear) = u at hbegun hstill
    obtain ⟨-, hcfl, -, -, -, -, -, -, -, hbcu, -⟩ := hbegun.fields
    have hzero : u.tlu.frame = 0 := hbegun.frame
    rw [State.startFrame_plain fs _ u hplain, decide_eq_true hzero]
    have hlistens : ∀ (v : State) old, v.tlu.link = .listen → v.listens (s.frameEnd false) old = true := fun v old h => by
      simp [State.listens, h]
    have hcounted : (u.discardCollected.startCounted fs true).tlu.link = .listen := by simpa [Tlu.tick] using hstill
    have hcompleted : (u.discardCollected.startCounted fs true).startCompleted fs (s.frameEnd false) true =
        (u.discardCollected.cycleTick fs).bcuCompletions := by
      rw [State.startCompleted, hlistens _ _ hcounted]
      rfl
    have hprepared : u.startPrepared fs (s.frameEnd false) true = ((((u.discardCollected.cycleTick fs).bcuCompletions.startLanes
        (s.frameEnd false)).startAlert fs true).startEnded fs (s.frameEnd false)) := by
      rw [State.startPrepared, hcompleted]
    have htlu : (u.startPrepared fs (s.frameEnd false) true).tlu.link = .listen := by
      rw [hprepared]
      simpa [Tlu.tick] using hstill
    have htabled : (u.startPrepared fs (s.frameEnd false) true).startTabled fs (s.frameEnd false) true =
        (u.startPrepared fs (s.frameEnd false) true).smuTick.evaluate := by
      rw [State.startTabled, hlistens _ _ htlu]
      rfl
    rw [htabled]
    have hsfu : (u.startPrepared fs (s.frameEnd false) true).smuTick.sfu = (u.discardCollected.cycleTick fs).bcuCompletions.sfu ∧
        (u.startPrepared fs (s.frameEnd false) true).smuTick.bcu = (u.discardCollected.cycleTick fs).bcuCompletions.bcu := by
      rw [hprepared]
      simp [(State.startLanes_sfu (e := s.frameEnd false) (.inr rfl) _).1]
    obtain ⟨-, htick, -⟩ := u.discardCollected.cycleTick_fields fs
    refine completedWithoutVideo_of (u := u.discardCollected.cycleTick fs) (by simp [hcfl]) (fun b => ?_) (fun b => ?_) fun b => ?_
    · rw [htick, State.bcuTick]
      dsimp only
      rw [Table.get_mapIdx, show u.discardCollected.bcu = s.bcu from hbcu]
      split <;> exact ⟨rfl, rfl⟩
    · have honly := ((u.startPrepared fs (s.frameEnd false) true).smuTick.evaluate_berths b).1
      unfold OnlyLampChanged at honly ⊢
      simp only [State.startGranted_frame, State.feedFrame_frame]
      rwa [hsfu.2] at honly
    · have hquiet := ((u.startPrepared fs (s.frameEnd false) true).smuTick.evaluate_berths b).2
      simp only [State.feed, State.startGranted_frame, State.feedFrame_frame] at hquiet ⊢
      rwa [hsfu.1] at hquiet
  case timeout =>
    have htake : s.takePendingTimer b = s.completeSwitch b ch .timeout := by
      unfold State.takePendingTimer
      dsimp only
      rw [if_pos hpending, hchoice]
    obtain ⟨honly, hmem, q, hq, hqueue⟩ := State.choiceNotice_feed b ch (cause := .timeout) (by nofun) s
    have hfeed := fun c => State.completeSwitch_feed b ch (cause := .timeout) (by nofun) s c
    refine ⟨s.completeSwitch b ch .timeout, by rw [← htake]; rfl, by ext1 <;> simp, ?_, fun c hc => ⟨?_, ?_⟩, ?_, ?_⟩
    · rw [State.completeSwitch_bcu, Table.get_set_self]
      rfl
    · rw [State.completeSwitch_bcu, Table.get_set_of_ne _ _ (Ne.symm hc)]
    · rw [hfeed, State.choiceNotice_feed_other b ch (by nofun) s hc]
    · unfold State.completeSwitch
      rw [State.choiceNotice_inbox b ch (by nofun)]
      rfl
    · rw [hfeed]
      generalize (s.choiceNotice b ch .timeout).feed b = g at honly hmem hqueue ⊢
      have hcard : ∀ r : List Byte, decide (r.head? = some 0x10 ∨ r.head? = some 0x11) = isCardRecord r := fun r =>
        (isCardRecord_iff r).symm
      simp only [hcard]
      refine ⟨fun hv => ?_, fun v hv => ?_, by rw [honly]; rfl, by rw [honly]; rfl, by rw [honly]; rfl, by rw [honly]; rfl,
        fun r htx hr => ?_, ?_⟩
      · rw [hv] at honly hmem
        refine ⟨by rw [honly]; rfl, by rw [honly]; rfl, by rw [honly]; rfl, hmem⟩
      · rw [hv] at honly hmem
        refine ⟨by rw [honly]; rfl, by rw [honly]; rfl, by rw [honly]; rfl, hmem⟩
      · rw [hqueue, Feed.inTransit, if_pos htx]
        cases hrest : (s.feed b).queue with
        | nil => simp [hrest] at hr
        | cons x rest => simpa [hrest] using hr
      · have hnone : (q.filter fun r => !isCardRecord r) = [] := List.filter_eq_nil_iff.2 fun x hx => by simp [hq x hx]
        rw [hqueue, List.filter_append, hnone, List.append_nil]
        rfl

end Sys2Proof.Machine
end

section
/-!
PROOFS. An evaluation of the announcement table (R89 to R93, R95), at the map update and at a tick in LISTEN (O17).
-/

namespace Sys2Proof.Machine

/-! ### The entries after the third step (R90 to R92, R95) -/

/-- R90: an entry with its marks cleared. -/
def AnnEntry.unmarked (e : AnnEntry) : AnnEntry := { e with freed := false, textMark := false }

section entry
variable (cycle : BitVec 32) (e : AnnEntry)

/-- R90: the stamp that an evaluation leaves an entry that it describes no further. -/
def AnnEntry.takenStamp (cycle : BitVec 32) (e : AnnEntry) : Stamp := if e.stamp = .pending then .at_ cycle else e.stamp

theorem AnnEntry.takeStamp_eq : e.takeStamp cycle = { e with stamp := e.takenStamp cycle } := by
  unfold AnnEntry.takeStamp AnnEntry.takenStamp
  split <;> rfl

theorem AnnEntry.isHeard_iff (heard : List Byte) : e.isHeard heard = true ↔ ∃ g ∈ heard, e.tag = some g := by
  unfold AnnEntry.isHeard
  cases e.tag with
  | none => simp
  | some g => simp [eq_comm]

/-- R90: entry `e`, among 1 to 15, after the first and the third step. -/
def AnnEntry.updated (heard : List Byte) (cycle : BitVec 32) (e : AnnEntry) : AnnEntry :=
  (e.takeStamp cycle).update (e.isHeard heard) cycle

theorem AnnEntry.takeStamp_isHeard (heard : List Byte) : (e.takeStamp cycle).isHeard heard = e.isHeard heard := by
  rw [AnnEntry.takeStamp_eq]
  rfl

/-- R95: entry 0 after an evaluation. -/
theorem alertEvaluated_of {isPresent : Bool} {p : Prop} (hp : isPresent = true ↔ p) :
    AlertEvaluated p cycle e ((e.takeStamp cycle).alertUpdate isPresent cycle).unmarked := by
  rw [AnnEntry.takeStamp_eq]
  unfold AlertEvaluated
  dsimp only
  refine ⟨fun h => ?_, fun h => ?_⟩
  · rw [hp.2 h]
    refine ⟨?_, ?_, ?_⟩ <;> intro hstate <;>
      simp [AnnEntry.alertUpdate, AnnEntry.unmarked, AnnEntry.evaluated, AnnEntry.takenStamp, hstate]
  · rw [Bool.eq_false_iff.2 fun ht => h (hp.1 ht)]
    refine ⟨?_, ?_, ?_⟩ <;> intro hstate <;>
      simp [AnnEntry.alertUpdate, AnnEntry.unmarked, AnnEntry.evaluated, AnnEntry.takenStamp, hstate]

/-- R93: a FREE entry that takes a heard tag. -/
def AnnEntry.allocated (g : Byte) (e : AnnEntry) : AnnEntry :=
  { AnnEntry.free with tag := some g, state := .undescribed, freed := e.freed }

/-- R91, R92: an entry among 1 to 15 after an evaluation: as the third step leaves it, or, where that is FREE, as it is allocated. -/
theorem entryEvaluated_of {heard : List Byte} {n : AnnEntry}
    (hkept : (e.updated heard cycle).isFree = false → n = (e.updated heard cycle).unmarked)
    (hgiven : n = (e.updated heard cycle).unmarked ∨ n.isAllocated heard) : EntryEvaluated heard cycle e n := by
  unfold AnnEntry.updated at hkept hgiven
  rw [AnnEntry.takeStamp_eq] at hkept hgiven
  unfold EntryEvaluated
  dsimp only
  rw [← AnnEntry.isHeard_iff]
  refine ⟨fun h => ?_, fun h => ?_, fun hstate => ?_⟩
  · rw [h] at hkept
    refine ⟨?_, ?_, ?_, ?_⟩ <;> intro hstate <;>
      exact (hkept (by simp [AnnEntry.update, AnnEntry.isFree, AnnEntry.expired, hstate])).trans
        (by simp [AnnEntry.update, AnnEntry.unmarked, AnnEntry.evaluated, AnnEntry.takenStamp, hstate])
  · rw [Bool.eq_false_iff.2 h] at hkept hgiven
    have hvalue : ∀ x, ({ e with stamp := e.takenStamp cycle }.update false cycle).unmarked = x →
        n = x ∨ n.isAllocated heard := fun x hx => hx ▸ hgiven
    refine ⟨fun hstate => (hkept ?_).trans ?_, fun hstate hlow => (hkept ?_).trans ?_, fun hstate hlast => hvalue _ ?_,
      fun hstate hlow => (hkept ?_).trans ?_, fun hstate hlast => hvalue _ ?_, fun hstate => hvalue _ ?_⟩
    · simp [AnnEntry.update, AnnEntry.isFree, AnnEntry.expired, hstate]
    · simp [AnnEntry.update, AnnEntry.unmarked, AnnEntry.evaluated, AnnEntry.takenStamp, hstate]
    · simp [AnnEntry.update, AnnEntry.isFree, AnnEntry.expired, hstate]
      omega
    · simp [AnnEntry.update, AnnEntry.unmarked, AnnEntry.evaluated, AnnEntry.takenStamp, hstate]
    · simp [AnnEntry.update, AnnEntry.unmarked, AnnEntry.evaluated, AnnEntry.takenStamp, hstate, hlast]
    · simp [AnnEntry.update, AnnEntry.isFree, AnnEntry.expired, hstate]
      omega
    · simp [AnnEntry.update, AnnEntry.unmarked, AnnEntry.evaluated, AnnEntry.takenStamp, hstate]
    · simp [AnnEntry.update, AnnEntry.unmarked, AnnEntry.evaluated, AnnEntry.takenStamp, hstate, hlast]
    · simp [AnnEntry.update, AnnEntry.unmarked, AnnEntry.freedNow, AnnEntry.free, hstate]
  · have hsame : ∀ x, { e with stamp := e.takenStamp cycle }.update x cycle = { e with stamp := e.takenStamp cycle } := fun x => by
      simp [AnnEntry.update, hstate]
    rw [hsame] at hgiven
    exact hgiven

end entry

/-! ### Allocation (R93) -/

/-- R93: a tag heard has an entry, finds none FREE, or takes a FREE entry. -/
theorem State.allocateHeard_cases (g : Byte) (s : State) :
    ((s.allocateHeard g).anu = s.anu ∧ ((∃ i, i ≠ 0 ∧ (s.anu.entries.get i).tag = some g ∧ (s.anu.entries.get i).isFree = false) ∨
      ∀ i, i ≠ 0 → (s.anu.entries.get i).isFree = false)) ∨
    ∃ i, i ≠ 0 ∧ (s.anu.entries.get i).isFree = true ∧
      s.allocateHeard g = s.setEntry i ((s.anu.entries.get i).allocated g) := by
  unfold State.allocateHeard
  cases hentry : s.entryOf g with
  | some i =>
    obtain ⟨hi, ⟨htag, hused⟩, -⟩ := State.entryOf_eq_some.1 hentry
    exact .inl ⟨rfl, .inl ⟨i, hi, htag, hused⟩⟩
  | none =>
    cases hfree : s.freeEntry with
    | some i =>
      obtain ⟨hi, hisFree, -⟩ := State.freeEntry_eq_some.1 hfree
      exact .inr ⟨i, hi, hisFree, rfl⟩
    | none => exact .inl ⟨rfl, .inr (State.freeEntry_eq_none.1 hfree)⟩

theorem State.allocateHeard_counter (g : Byte) (s : State) {c : Counter} (hc : c ≠ .tableFull) :
    (s.allocateHeard g).counter c = s.counter c := by
  unfold State.allocateHeard
  split
  · rfl
  · split
    · rfl
    · rw [State.counter_bump, if_neg (Ne.symm hc)]

/-- What allocation leaves of the entries `old` that it starts from. -/
structure EntriesAllocated (heard : List Byte) (old new : Table 16 AnnEntry) : Prop where
  kept : ∀ i, i = 0 ∨ (old.get i).isFree = false → new.get i = old.get i
  given : ∀ i, new.get i = old.get i ∨
    ∃ g ∈ heard, tagKind g = .announcement ∧ new.get i = (old.get i).allocated g

/-- R93: tag `g` has an entry, or no entry is FREE. -/
def Served (entries : Table 16 AnnEntry) (g : Byte) : Prop :=
  (∃ i, i ≠ 0 ∧ (entries.get i).tag = some g ∧ (entries.get i).isFree = false) ∨ ∀ i, i ≠ 0 → (entries.get i).isFree = false

theorem AnnEntry.allocated_used (g : Byte) (e : AnnEntry) : (e.allocated g).isFree = false := rfl

theorem EntriesAllocated.step {heard : List Byte} {old : Table 16 AnnEntry} {s : State} (h : EntriesAllocated heard old s.anu.entries)
    {g : Byte} (hg : g ∈ heard) (hkind : tagKind g = .announcement) :
    EntriesAllocated heard old (s.allocateHeard g).anu.entries ∧ Served (s.allocateHeard g).anu.entries g ∧
      ∀ x, Served s.anu.entries x → Served (s.allocateHeard g).anu.entries x := by
  rcases s.allocateHeard_cases g with ⟨hsame, hserved⟩ | ⟨i, hi, hfree, heq⟩
  · rw [hsame]
    exact ⟨h, hserved, fun _ => id⟩
  · have hget : ∀ j, (s.allocateHeard g).anu.entries.get j =
        if i = j then (s.anu.entries.get i).allocated g else s.anu.entries.get j := fun j => by
      rw [heq]
      exact Table.get_set _ _ _ _
    have hused : ∀ j, (s.anu.entries.get j).isFree = false → (s.allocateHeard g).anu.entries.get j = s.anu.entries.get j :=
      fun j hj => by
        rw [hget, if_neg]
        rintro rfl
        rw [hfree] at hj
        cases hj
    refine ⟨⟨fun j hj => ?_, fun j => ?_⟩, .inl ⟨i, hi, ?_, ?_⟩, fun x hx => ?_⟩
    · have hsame := h.kept j hj
      rw [← hsame]
      rcases hj with rfl | hj
      · rw [hget, if_neg hi]
      · exact hused j (by rw [hsame]; exact hj)
    · rw [hget]
      split
      · next hij =>
        subst hij
        have hold : s.anu.entries.get i = old.get i := by
          rcases h.given i with hsame | ⟨x, -, -, hgave⟩
          · exact hsame
          · rw [hgave, AnnEntry.allocated_used] at hfree
            cases hfree
        rw [hold]
        exact .inr ⟨g, hg, hkind, rfl⟩
      · exact h.given j
    · rw [hget, if_pos rfl]
      rfl
    · rw [hget, if_pos rfl]
      rfl
    · rcases hx with ⟨j, hj, htag, hj'⟩ | hall
      · refine .inl ⟨j, hj, ?_⟩
        rw [hused j hj']
        exact ⟨htag, hj'⟩
      · rw [hall i hi] at hfree
        cases hfree

theorem entriesAllocated_foldl {heard : List Byte} {old : Table 16 AnnEntry} : ∀ (l : List Byte) {s : State},
    (∀ g ∈ l, g ∈ heard ∧ tagKind g = .announcement) → EntriesAllocated heard old s.anu.entries →
      EntriesAllocated heard old (l.foldl (fun t g => t.allocateHeard g) s).anu.entries ∧
      (∀ g ∈ l, Served (l.foldl (fun t g => t.allocateHeard g) s).anu.entries g) ∧
      ∀ x, Served s.anu.entries x → Served (l.foldl (fun t g => t.allocateHeard g) s).anu.entries x := by
  intro l
  induction l with
  | nil => exact fun _ h => ⟨h, nofun, fun _ => id⟩
  | cons g l ih =>
    intro s hl h
    obtain ⟨hg, hkind⟩ := hl g (by simp)
    obtain ⟨hstep, hserved, hstays⟩ := h.step hg hkind
    obtain ⟨hend, hall, hkeeps⟩ := ih (fun x hx => hl x (by simp [hx])) hstep
    refine ⟨hend, fun x hx => ?_, fun x hx => hkeeps x (hstays x hx)⟩
    rcases List.mem_cons.1 hx with rfl | hx
    · exact hkeeps x hserved
    · exact hall x hx

/-! ### The table after an evaluation -/

section evaluation
variable (s : State)

theorem State.updateEntry_other (heard : List Byte) (i j : Fin 16) (h : j ≠ i) :
    ((s.updateEntry heard i).anu.entries.get j, (s.updateEntry heard i).tlu.cycleCount) =
      (s.anu.entries.get j, s.tlu.cycleCount) := by
  simp [Table.get_set_of_ne _ _ (Ne.symm h)]

theorem announcementIndices_nodup : announcementIndices.Nodup := by decide

/-- R90: the entries after the third step. -/
theorem State.entriesUpdated_entries : s.entriesUpdated.anu.entries.get 0 =
      ((s.anu.entries.get 0).takeStamp s.tlu.cycleCount).alertUpdate (s.anu.alert.active || s.heardTags.contains 0x00) s.tlu.cycleCount ∧
    ∀ i, i ≠ 0 → s.entriesUpdated.anu.entries.get i = (s.anu.entries.get i).updated s.heardTags s.tlu.cycleCount := by
  have hat := fun i => foldl_at (f := fun (t : State) i => t.updateEntry s.heardTags i)
    (V := fun t i => (t.anu.entries.get i, t.tlu.cycleCount)) (fun t i j h => t.updateEntry_other _ i j h)
    announcementIndices_nodup s.alertUpdated i
  have hcycle : s.alertUpdated.tlu.cycleCount = s.tlu.cycleCount := rfl
  unfold State.entriesUpdated
  refine ⟨?_, fun i hi => ?_⟩
  · refine (congrArg Prod.fst ((hat 0).1 (by simp [mem_announcementIndices]))).trans ?_
    simp [State.alertUpdated, State.stamped]
  · obtain ⟨u, hu, hend⟩ := (hat i).2 (mem_announcementIndices.2 hi)
    obtain ⟨hentry, hcount⟩ := Prod.mk.inj hu
    have hstamped : s.alertUpdated.anu.entries.get i = (s.anu.entries.get i).takeStamp s.tlu.cycleCount := by
      unfold State.alertUpdated
      simp [State.stamped, Table.get_set_of_ne _ _ (Ne.symm hi)]
    refine (congrArg Prod.fst hend).trans ?_
    rw [State.updateEntry_anu, Table.get_set_self, hentry, hcount, hcycle, hstamped, AnnEntry.takeStamp_isHeard]
    rfl

theorem State.evaluate_entries (i : Fin 16) : s.evaluate.anu.entries.get i = (s.evaluateTable.anu.entries.get i).unmarked := by
  have hfold : ∀ l : List (Fin 4), ∀ u : State, (l.foldl (fun s b => s.followBerth b) u).anu.entries = u.anu.entries := fun l u =>
    foldl_keeps (I := fun t : State => t.anu.entries = u.anu.entries) (fun t b ht => (t.followBerth_entries b).trans ht) l rfl
  unfold State.evaluate
  dsimp only
  rw [State.clearMarks]
  dsimp only
  rw [hfold, Table.get_map]
  rfl

theorem State.evaluate_smu : s.evaluate.smu = s.smu := by simp

/-- R89 to R95: an evaluation of the table, in the obligation's words. -/
theorem State.evaluate_table : TableEvaluated s s.evaluate := by
  obtain ⟨halert, hupdated⟩ := s.entriesUpdated_entries
  obtain ⟨⟨hkept, hgiven⟩, hserved, -⟩ := entriesAllocated_foldl (heard := s.heardTags) (old := s.entriesUpdated.anu.entries)
    (announcementTags s.heardTags) (s := s.entriesUpdated)
    (fun g hg => by simpa [announcementTags] using hg) ⟨fun _ _ => rfl, fun _ => .inl rfl⟩
  rw [← State.evaluateTable_eq] at hkept hgiven hserved
  unfold TableEvaluated
  dsimp only
  rw [State.evaluate_smu]
  refine ⟨?_, fun i hi => ?_, fun g hg hkind => ?_⟩
  · rw [State.evaluate_entries, hkept 0 (.inl rfl), halert]
    exact alertEvaluated_of _ _ (by simp [State.heardTags])
  · rw [State.evaluate_entries]
    have hused := fun h => hkept i (.inr h)
    have hgave := hgiven i
    rw [hupdated i hi] at hused hgave
    refine entryEvaluated_of _ _ (fun h => by rw [hused h]; rfl) ?_
    rcases hgave with hsame | ⟨g, hg, hkind, heq⟩
    · exact .inl (by rw [hsame]; rfl)
    · exact .inr ⟨g, hg, hkind, by rw [heq]; rfl⟩
  · have hnotFree : ∀ e : AnnEntry, e.isFree = false → e.state ≠ .free := fun e he hstate => by
      rw [AnnEntry.isFree, hstate] at he
      simp at he
    rcases hserved g (List.mem_filter.2 ⟨hg, decide_eq_true hkind⟩) with ⟨i, hi, htag, hfree⟩ | hall
    · refine .inl ⟨i, hi, ?_⟩
      rw [State.evaluate_entries]
      exact ⟨htag, hnotFree _ hfree⟩
    · refine .inr fun i hi => ?_
      rw [State.evaluate_entries]
      exact hnotFree _ (hall i hi)

/-- An evaluation of the table speaks of the cycle count, the alert and the entries before it. -/
theorem TableEvaluated.of_congr {s u t v : State} (h : TableEvaluated u t) (hcycle : u.tlu.cycleCount = s.tlu.cycleCount)
    (halert : u.anu.alert.active = s.anu.alert.active) (hentries : u.anu.entries = s.anu.entries)
    (hlocator : t.smu.locator = v.smu.locator) (hafter : t.anu.entries = v.anu.entries) : TableEvaluated s v := by
  unfold TableEvaluated at h ⊢
  rwa [hcycle, halert, hentries, hlocator, hafter] at h

end evaluation

/-! ### A tick in LISTEN (R89) -/

section tick
variable {fs : FrameStart} {e : FrameEnd} {u : State}

/-- R89, R126: the start of a frame 0 in LISTEN completes switches and evaluates the tables. -/
theorem State.startFrame_listen (hplain : fs.plain) (hframe : u.tlu.frame = 0) (hlink : u.tlu.link = .listen) :
    u.startFrame fs e = ((u.startPrepared fs e true).smuTick.evaluate.feedFrame e fs.order).startGranted := by
  have hprepared : (u.startPrepared fs e true).tlu.link = .listen := by
    simpa [State.startPrepared, Tlu.tick] using hlink
  have htabled : (u.startPrepared fs e true).startTabled fs e true = (u.startPrepared fs e true).smuTick.evaluate := by
    rw [State.startTabled, State.listens, hprepared]
    simp [State.tablesTick]
  rw [State.startFrame_plain fs e u hplain, decide_eq_true hframe, htabled]

/-- What the frame start prepares of the announcement table. -/
theorem State.startPrepared_anu (tick : Bool) : (u.startPrepared fs e tick).anu.entries = u.anu.entries ∧
    (u.startPrepared fs e tick).anu.alert.active = u.anu.alert.active := by
  have hcycle : (u.discardCollected.startCounted fs tick).anu.entries = u.anu.entries ∧
      (u.discardCollected.startCounted fs tick).anu.alert.active = u.anu.alert.active := by
    unfold State.startCounted
    split
    · obtain ⟨-, -, -, -, -, -, -, hanu⟩ := u.discardCollected.cycleTick_fields fs
      rw [hanu]
      split
      · exact ⟨rfl, rfl⟩
      · exact ⟨rfl, Debouncer.sample_active _ _⟩
    · exact ⟨rfl, rfl⟩
  have halert : ∀ v : State, (v.startAlert fs tick).anu.entries = v.anu.entries ∧
      (v.startAlert fs tick).anu.alert.active = v.anu.alert.active := fun v => by
    unfold State.startAlert
    split
    · exact ⟨rfl, Debouncer.sample_active _ _⟩
    · exact ⟨rfl, rfl⟩
  unfold State.startPrepared
  simp only [State.startEnded_frame, halert, State.startLanes_frame, State.startCompleted_frame]
  exact hcycle

end tick

/-! ### The counters of the map update -/

section counters
variable (s : State)

theorem State.placeCard_counter (b : Fin 4) (r : List Byte) {c : Counter} (hc : c ≠ .queueDrops) :
    (s.placeCard b r).counter c = s.counter c := by
  unfold State.placeCard
  dsimp only
  rw [State.counter_bumpN, if_neg (Ne.symm hc)]
  rfl

theorem State.showOverlay_counter (b : Fin 4) (o : Overlay) {c : Counter} (hc : c ≠ .queueDrops) :
    (s.showOverlay b o).counter c = s.counter c := by
  unfold State.showOverlay
  refine Eq.trans ?_ (s.placeCard_counter b (cardRecord layerOverlay o.card o.text) hc)
  simp [State.counter]

theorem State.sfuFollowChange_counter (b : Fin 4) (new : Follow) {c : Counter} (hc : c ≠ .queueDrops) :
    (s.sfuFollowChange b new).counter c = s.counter c := by
  unfold State.sfuFollowChange
  split
  · rfl
  · exact s.showOverlay_counter b _ hc
  · split
    · split
      · exact keeps_if (I := fun t : State => t.counter c = s.counter c) (s.showOverlay_counter b _ hc) fun _ => rfl
      · simp [State.counter]
    · split
      · exact s.showOverlay_counter b _ hc
      · rfl

theorem State.publish_counter (b : Fin 4) (new : Follow) {c : Counter} (hc : c ≠ .queueDrops) :
    (s.publish b new).counter c = s.counter c := by
  rw [State.publish_eq, State.sfuFollowChange_counter _ _ _ hc]
  simp [State.counter, State.mixerServed]

theorem State.followBerth_counter (b : Fin 4) {c : Counter} (hc : c ≠ .queueDrops) :
    (s.followBerth b).counter c = s.counter c := by
  rcases s.followBerth_cases b with h | h <;> rw [h]
  exact s.publish_counter b _ hc

theorem State.choiceNotice_counter (b : Fin 4) (ch : Choice) {cause : SwitchCause} (hcause : cause ≠ .keyRecord) (c : Counter) :
    (s.choiceNotice b ch cause).counter c = s.counter c := by
  have hself := s.setFeed_feed_self b ((s.feed b).takesVideo (s.cfg.videoOf ch))
  rw [State.choiceNotice_eq b ch hcause]
  refine (State.showBase_ofCards b (choiceCard (s.cfg.videoOf ch))
    (s := s.setFeed b ((s.feed b).takesVideo (s.cfg.videoOf ch))) ?_ ?_).2.2.2 c
  · rw [hself]
    unfold Feed.takesVideo
    dsimp only
    split <;> nofun
  · rw [hself]
    exact (s.feed b).dropProgramme_cards

theorem State.bcuCompletions_counter (c : Counter) : s.bcuCompletions.counter c = s.counter c := by
  refine foldl_keeps (I := fun t : State => t.counter c = s.counter c) (fun t b ht => ?_) s.configuredBerths rfl
  obtain ⟨hcompletes, hkeeps⟩ := t.completeWithoutVideo_cases b
  by_cases hany : ∃ ch, t.completes b ch
  · obtain ⟨ch, hch⟩ := hany
    rw [hcompletes ch hch]
    unfold State.completeSwitch
    exact (State.choiceNotice_counter _ b ch (by nofun) c).trans ht
  · rw [hkeeps fun ch hch => hany ⟨ch, hch⟩]
    exact ht

theorem State.evaluate_counter {c : Counter} (hc : c ≠ .queueDrops) (hfull : c ≠ .tableFull) :
    s.evaluate.counter c = s.entriesUpdated.counter c := by
  have hfold : ∀ l : List (Fin 4), ∀ u : State, (l.foldl (fun s b => s.followBerth b) u).counter c = u.counter c := fun l u =>
    foldl_keeps (I := fun t : State => t.counter c = u.counter c) (fun t b ht => (t.followBerth_counter b hc).trans ht) l rfl
  have htable : s.evaluateTable.counter c = s.entriesUpdated.counter c := by
    rw [State.evaluateTable_eq]
    exact foldl_keeps (I := fun t : State => t.counter c = s.entriesUpdated.counter c)
      (fun t g ht => (t.allocateHeard_counter g hfull).trans ht) (announcementTags s.heardTags) rfl
  unfold State.evaluate
  dsimp only
  exact (hfold _ s.evaluateTable).trans htable

theorem State.updateEntry_counter (heard : List Byte) (i : Fin 16) (c : Counter) : (s.updateEntry heard i).counter c =
    if (s.anu.entries.get i).state = .undescribed ∧ (s.anu.entries.get i).isHeard heard = false ∧ c = .undescribed then
      satInc (s.counter c) else s.counter c := by
  rw [State.updateEntry_eq]
  dsimp only
  by_cases h : (s.anu.entries.get i).state = .undescribed ∧ (s.anu.entries.get i).isHeard heard = false
  · rw [if_pos h, State.counter_bump]
    by_cases hc : c = .undescribed
    · rw [if_pos hc.symm, if_pos ⟨h.1, h.2, hc⟩]
      rfl
    · rw [if_neg (Ne.symm hc), if_neg fun h => hc h.2.2]
      rfl
  · rw [if_neg h, if_neg fun h' => h ⟨h'.1, h'.2.1⟩]
    rfl

/-- R92: an entry whose tag was located and never described. -/
def AnnEntry.unmet (heard : List Byte) (e : AnnEntry) : Bool := decide (e.state = .undescribed) && !e.isHeard heard

theorem AnnEntry.unmet_iff (loc : List LocItem) (e : AnnEntry) :
    e.unmet (loc.map (·.tag)) = true ↔ e.state = .undescribed ∧ ∀ g ∈ loc, e.tag ≠ some g.tag := by
  rw [AnnEntry.unmet, Bool.and_eq_true, decide_eq_true_eq, Bool.not_eq_true', ← Bool.not_eq_true, AnnEntry.isHeard_iff]
  simp

theorem State.entriesUpdated_counter (c : Counter) : s.entriesUpdated.counter c =
    if c = .undescribed then satInc^[(announcementIndices.filter fun i => (s.anu.entries.get i).unmet s.heardTags).length] (s.counter c)
    else s.counter c := by
  unfold State.entriesUpdated
  split
  · next hc =>
    subst hc
    have hcount := foldl_counts (f := fun (t : State) i => t.updateEntry s.heardTags i) (V := fun t i => t.anu.entries.get i)
      (P := AnnEntry.unmet s.heardTags) (k := .undescribed)
      (fun t i j h => congrArg Prod.fst (t.updateEntry_other _ i j h))
      (fun t i h => by
        rw [State.updateEntry_counter, if_pos]
        simpa [AnnEntry.unmet] using h)
      (fun t i h => by
        rw [State.updateEntry_counter, if_neg]
        simpa [AnnEntry.unmet] using h)
      announcementIndices_nodup s.alertUpdated
    have hsame : (announcementIndices.filter fun i => (s.alertUpdated.anu.entries.get i).unmet s.heardTags) =
        announcementIndices.filter fun i => (s.anu.entries.get i).unmet s.heardTags :=
      List.filter_congr fun i hi => by
        have h0 := mem_announcementIndices.1 hi
        have hstamped : s.alertUpdated.anu.entries.get i = (s.anu.entries.get i).takeStamp s.tlu.cycleCount := by
          simp [State.alertUpdated, State.stamped, Table.get_set_of_ne _ _ (Ne.symm h0)]
        rw [hstamped, AnnEntry.unmet, AnnEntry.takeStamp_isHeard, AnnEntry.takeStamp_eq]
        rfl
    rw [hcount, hsame]
    rfl
  · next hc =>
    exact foldl_keeps (I := fun t : State => t.counter c = s.counter c) (fun t i ht => by
      rw [State.updateEntry_counter, if_neg fun h => hc h.2.2, ht]) announcementIndices rfl

end counters

/-! ### A berth that begins to follow a WAKE announcement (R138, R163, R166) -/

/-- What the follow change of a berth can see or change. -/
def State.followView (s : State) (b : Fin 4) :
    (Table 16 AnnEntry × Table 16 ZoneMode × Loader × Follow × Nat × WakeState) × Wake × Berth :=
  (s.selectionView b, s.wku.get b, s.bcu.get b)

theorem State.followBerth_followView (s : State) (a b : Fin 4) (h : b ≠ a) : (s.followBerth a).followView b = s.followView b := by
  unfold State.followView
  rw [State.followBerth_selectionView b s a h]
  rcases s.followBerth_cases a with heq | heq <;> rw [heq]
  obtain ⟨-, hother, -⟩ := s.publish_takes a (s.selectFollow a)
  obtain ⟨-, hwku, hbcu, -⟩ := hother b h
  rw [hwku, hbcu]

theorem State.evaluateTable_follow (s : State) : s.evaluateTable.anu.follow = s.anu.follow := by
  have hupdated : s.entriesUpdated.anu.follow = s.anu.follow := by
    unfold State.entriesUpdated
    exact foldl_keeps (I := fun t : State => t.anu.follow = s.anu.follow) (fun t i ht => by simpa using ht) announcementIndices rfl
  rw [State.evaluateTable_eq]
  refine foldl_keeps (I := fun t : State => t.anu.follow = s.anu.follow) (fun t g ht => ?_) (announcementTags s.heardTags) hupdated
  rcases t.allocateHeard_cases g with ⟨hsame, -⟩ | ⟨i, -, -, heq⟩
  · rw [hsame]
    exact ht
  · rw [heq]
    exact ht

theorem State.evaluate_calls {s : State} {b : Fin 4} (hconf : s.configured b = true) (hfollowing : (s.wku.get b).following = false)
    (hcls : (s.anu.follow.get b).cls ≠ some .wake) (hstate : (s.wku.get b).state = .armed ∨ (s.wku.get b).state = .missed)
    (hwake : (s.evaluate.anu.follow.get b).cls = some .wake) :
    s.evaluate.wku.get b = { s.wku.get b with state := .calling, following := true } ∧ (s.evaluate.bcu.get b).lamp = .flash := by
  have hselect := (s.evaluate_follow b hconf).symm ▸ hwake
  have hmem : b ∈ s.evaluateTable.configuredBerths :=
    mem_configuredBerths.2 ((State.configured_of_cfl (by simp) b).trans hconf)
  obtain ⟨u, hu, hend⟩ := (foldl_at (V := State.followView) (f := fun s b => s.followBerth b)
    (fun t a c hc => t.followBerth_followView a c hc) (configuredBerths_nodup s.evaluateTable) s.evaluateTable b).2 hmem
  obtain ⟨hview, hwku, -⟩ : u.selectionView b = s.evaluateTable.selectionView b ∧ u.wku.get b = s.wku.get b ∧ _ := by
    obtain ⟨h1, h2⟩ := Prod.mk.inj hu
    obtain ⟨h3, h4⟩ := Prod.mk.inj h2
    exact ⟨h1, h3.trans (by simp), h4⟩
  have hnew : (u.selectFollow b).cls = some .wake := by rw [State.selectFollow_congr hview]; exact hselect
  have hold : (u.anu.follow.get b).cls ≠ some .wake := by
    have : u.anu.follow.get b = s.evaluateTable.anu.follow.get b := congrArg (fun v => v.2.2.2.1) hview
    rw [this, State.evaluateTable_follow]
    exact hcls
  have hpublish := u.followBerth_publishes b (.inl fun h => hold (h ▸ hnew))
  obtain ⟨-, -, -, hcalls, -⟩ := u.publish_takes b (u.selectFollow b)
  unfold WakeTakesFollow at hcalls
  dsimp only at hcalls
  obtain ⟨hcalling, hlamp⟩ := (hcalls.1 ⟨hnew, by rw [hwku]; exact hfollowing⟩).1 (by rw [hwku]; exact hstate)
  unfold State.evaluate
  dsimp only
  rw [State.clearMarks]
  dsimp only
  generalize s.evaluateTable.configuredBerths.foldl (fun s b => s.followBerth b) s.evaluateTable = t at hend
  obtain ⟨hwku', hbcu'⟩ : t.wku.get b = (u.publish b (u.selectFollow b)).wku.get b ∧
      t.bcu.get b = (u.publish b (u.selectFollow b)).bcu.get b := by
    rw [hpublish] at hend
    obtain ⟨-, h2⟩ := Prod.mk.inj hend
    exact Prod.mk.inj h2
  rw [hwku', hbcu', hcalling, hwku]
  exact ⟨by simp [hnew], hlamp⟩

/-! ### The map update -/

theorem announcementIndices_eq : announcementIndices = (List.finRange 16).filter fun i => decide (i ≠ 0) := by decide

theorem State.mapUpdate_smu (s : State) : s.mapUpdate.smu = s.smuMapUpdate.smu := s.mapUpdate_rx.2

/-- R30: what the map update prepares for its evaluation. -/
theorem State.mapResolved_prepared (s : State) : s.mapResolved.bcuCompletions.tlu = s.tlu ∧ s.mapResolved.bcuCompletions.anu = s.anu ∧
    s.mapResolved.bcuCompletions.wku = s.wku ∧ s.mapResolved.bcuCompletions.cfl = s.cfl ∧
    s.mapResolved.bcuCompletions.smu = s.smuMapUpdate.smu ∧ ∀ c, s.mapResolved.bcuCompletions.counter c = s.smuMapUpdate.counter c := by
  refine ⟨?_, ?_, ?_, ?_, ?_, fun c => ?_⟩
  rotate_right
  · rw [State.bcuCompletions_counter]
    unfold State.mapResolved
    simp [State.counter]
  all_goals
    unfold State.mapResolved
    simp

/-- R23, R26: a slot whose tag has been collected. -/
theorem SlotEntry.replace_some (e : SlotEntry) (byte : Byte) : (e.replace (some byte)).tag = byte ∧
    (e.replace (some byte)).age = (if byte = e.tag then min (e.age + 1) 255 else 0) ∧
    (e.replace (some byte)).parityErrors = e.parityErrors := by
  unfold SlotEntry.replace
  dsimp only
  rw [Option.getD_some]
  split
  · next h => exact ⟨h.symm, rfl, rfl⟩
  · exact ⟨rfl, rfl, rfl⟩

/-- Settles O17. -/
theorem mapUpdateReplacesTheTags : Obligations.MapUpdateReplacesTheTags := by
  refine ⟨fun c fs s hdue hplain hlink hstart => ?tick, fun byte ninth wait s hdue htrunk hframe hdone hcollected => ?update⟩
  case tick =>
    obtain ⟨u, hexec, hbegun⟩ := startsFrame_begins hdue hstart
    obtain ⟨-, -, -, hsmu, -, -, -, hanu, -⟩ := hbegun.fields
    obtain ⟨-, -, hcount⟩ := hbegun.ticked
    have hframe : u.tlu.frame = 0 := hbegun.frame
    refine ⟨_, hexec, fun hlistens => ?_⟩
    have htlu := State.startFrame_tlu fs (s.frameEnd false) u hplain
    rw [if_pos hframe] at htlu
    rw [htlu] at hlistens ⊢
    have hstill : u.tlu.link = .listen := hlistens
    have hprepared : (u.startPrepared fs (s.frameEnd false) true).tlu = u.tlu.tick := by simp [State.startPrepared]
    obtain ⟨hentries, halert⟩ := u.startPrepared_anu (fs := fs) (e := s.frameEnd false) true
    have hlocator : (u.startPrepared fs (s.frameEnd false) true).smuTick.smu.locator = s.smu.locator := by
      have hkept : (u.startPrepared fs (s.frameEnd false) true).smu = u.discardCollected.smu := by simp [State.startPrepared]
      have hticked : (u.startPrepared fs (s.frameEnd false) true).smuTick.smu.locator =
          (u.startPrepared fs (s.frameEnd false) true).smu.locator := by rw [State.smuTick_only]
      rw [hticked, hkept]
      exact (congrArg Smu.locator hsmu : u.smu.locator = s.smu.locator)
    rw [State.startFrame_listen hplain hframe hstill]
    refine ⟨?_, ?_, ?_⟩
    · simpa using hlocator
    · rw [← hcount]
      rfl
    · refine (State.evaluate_table (u.startPrepared fs (s.frameEnd false) true).smuTick).of_congr ?_ ?_ ?_ ?_ ?_
      · simp [hprepared]
      · simpa [hanu] using halert
      · simpa [hanu] using hentries
      · simp
      · simp
  case update =>
    refine ⟨_, exec_mapUpdate byte ninth wait hdue htrunk hframe hdone, ?_⟩
    have hlast := State.lastSlot_eq byte ninth wait hframe hdone
    obtain ⟨htags, hlocator, hnone, hresults, -, hduplicates, hcounters⟩ := (s.lastSlot byte ninth wait).smuMapUpdate_slots
    obtain ⟨htlu, hanu, hwku, hcfl, hsmu, hcounter⟩ := (s.lastSlot byte ninth wait).mapResolved_prepared
    have hrest := (s.lastSlot byte ninth wait).mapUpdate_frame
    have hupdate := (s.lastSlot byte ninth wait).mapUpdate_smu
    have hmap := (s.lastSlot byte ninth wait).mapUpdate_eq
    generalize (s.lastSlot byte ninth wait).mapResolved.bcuCompletions = u at *
    generalize (s.lastSlot byte ninth wait).mapUpdate = t at *
    generalize (s.lastSlot byte ninth wait).smuMapUpdate = v at *
    generalize s.lastSlot byte ninth wait = l at *
    obtain ⟨hpending', hcfl', hsvl', htlu', hasp', hbfs'⟩ := hrest
    obtain ⟨hltlu, hlsmu, hlanu, hlwku, hlcfl, hlcounters⟩ : l.tlu = _ ∧ l.smu = _ ∧ l.anu = s.anu ∧ l.wku = s.wku ∧
        l.cfl = s.cfl ∧ l.counters = s.counters := by
      rw [hlast]
      exact ⟨rfl, rfl, rfl, rfl, rfl, rfl⟩
    have hlcounter : ∀ c, l.counter c = s.counter c := fun c => congrArg (fun x => Table.get x c.idx) hlcounters
    have hslot : ∀ k, ∃ x, l.smu.collected.get k = some x ∧
        (if k = 39 then some byte else s.smu.collected.get k) = some x := fun k => by
      rw [hlsmu]
      dsimp only
      rw [Table.get_set]
      by_cases hk : k = 39
      · exact ⟨byte, by simp [hk], by simp [hk]⟩
      · obtain ⟨x, hx⟩ := Option.isSome_iff_exists.1 (hcollected k (by have := k.isLt; omega))
        exact ⟨x, by simp [Ne.symm hk, hx], by simp [hk, hx]⟩
    have hlmap : l.smu.map = s.smu.map := by rw [hlsmu]
    rw [hmap] at hupdate hpending' hcfl' hsvl' htlu' hasp' hbfs' ⊢
    rw [← hupdate] at htags hlocator hnone hresults
    refine ⟨fun k => ?_, ?_, ?_, fun k => ?_, hresults, ?_, ?_, ?_, ?_, ?_, ?_, ?_, ?_, ?_, ?_, ?_, fun b hconf hfollowing hcls hstate hwake => ?_⟩
    · obtain ⟨x, hx, hx'⟩ := hslot k
      obtain ⟨htag, hage, hparity⟩ := htags k
      obtain ⟨htag', hage', hparity'⟩ := (l.smu.map.get k).replace_some x
      rw [Table.get_mapIdx, hx] at htag hage hparity
      dsimp only
      rw [hx', htag, hage, hparity, htag', hage', hparity', hlmap]
      exact ⟨rfl, rfl, rfl⟩
    · rw [hlocator]
      refine congrArg buildLocator ?_
      rw [mapTags, table_toList, table_toList, List.map_map, List.map_map]
      exact List.map_congr_left fun k _ => (htags k).1.symm
    · rw [State.evaluate_counter u (by decide) (by decide), State.entriesUpdated_counter, if_neg (by decide), hcounter, hduplicates,
        hlcounter, hlocator]
    · rw [hnone, Table.get_replicate]
    · rw [htlu', hltlu]
    · rw [htlu', hltlu]
    · rw [htlu', hltlu]
    · rw [htlu', hltlu]; exact hframe
    · rw [hpending', hlast]
    · rw [hcfl', hlast]
    · rw [hasp', hlast]
    · rw [hsvl', hlast]
    · rw [hbfs', hlast]
    · exact u.evaluate_table.of_congr (by rw [htlu, hltlu]) (by rw [hanu, hlanu]) (by rw [hanu, hlanu]) rfl rfl
    · rw [State.evaluate_counter u (by decide) (by decide), State.entriesUpdated_counter, if_pos rfl, hcounter,
        hcounters _ (by decide) (by decide) (by decide), hlcounter, hupdate, ← hsmu, hanu, hlanu]
      refine congrArg (fun n => satInc^[n] _) (congrArg List.length ?_)
      rw [announcementIndices_eq, List.filter_filter]
      refine List.filter_congr fun i _ => ?_
      rw [Bool.eq_iff_iff, Bool.and_eq_true, decide_eq_true_eq, decide_eq_true_eq, State.heardTags, AnnEntry.unmet_iff]
      exact and_comm
    · have hconfigured : u.configured b = true := (State.configured_of_cfl (hcfl.trans hlcfl) b).trans hconf
      have hcalls := u.evaluate_calls hconfigured
      rw [hwku, hlwku, hanu, hlanu] at hcalls
      exact hcalls hfollowing hcls hstate hwake

end Sys2Proof.Machine
end

section
/-!
PROOFS. The holdings at the map update (R31 to R34, R37): candidates, the victim, and what each holding becomes (O18).
-/

namespace Sys2Proof.Machine

/-! ### Candidates and the victim (R32, R33) -/

theorem table_getD {α : Type} {n : Nat} (t : Table n α) (i : Fin n) (d : α) : t.getD i.val d = t.get i := by
  rw [Table.getD, table_toList]
  simp

theorem tagAt_val (map : Table 40 SlotEntry) (k : Fin 40) : tagAt map k.val = (map.get k).tag := by
  rw [tagAt, table_getD]

theorem candidates_ascending (map : Table 40 SlotEntry) (targeted : List Nat) (run : Nat) :
    (candidates map targeted run).Pairwise (· < ·) := List.pairwise_lt_range.filter _

theorem mem_candidates {map : Table 40 SlotEntry} {targeted : List Nat} {run k : Nat} : k ∈ candidates map targeted run ↔
    k + run ≤ 40 ∧ ∀ j : Fin 40, k ≤ j.val → j.val < k + run → (map.get j).tag = 0xFF ∧ j.val ∉ targeted := by
  have hrange : k ∈ List.range (41 - run) ↔ k + run ≤ 40 := by
    rw [List.mem_range]
    omega
  rw [candidates, List.mem_filter, hrange, List.all_eq_true]
  refine and_congr_right fun hk => ⟨fun h j hle hlt => ?_, fun h i hi => ?_⟩
  · have hj := h (j.val - k) (List.mem_range.2 (by omega))
    rw [Nat.add_sub_cancel' hle, tagAt_val] at hj
    simpa using hj
  · have hi := List.mem_range.1 hi
    have hj := h ⟨k + i, by omega⟩ (Nat.le_add_right _ _) (Nat.add_lt_add_left hi k)
    rw [← tagAt_val] at hj
    simpa using hj

/-- R33: a slot as a victim. -/
def victimAt (map : Table 40 SlotEntry) (targeted : List Nat) (k : Fin 40) : Option Nat :=
  let e := map.get k
  if 0x80 ≤ e.tag.toNat ∧ e.tag.toNat ≤ 0xFD ∧ e.own = none ∧ k.val ∉ targeted then some k.val else none

/-- R33: the later slot of a tag that is not lower is preferred. -/
def victimBeats (map : Table 40 SlotEntry) (x y : Nat) : Bool := decide ((tagAt map y).toNat ≤ (tagAt map x).toNat)

theorem victim_eq_pick (map : Table 40 SlotEntry) (targeted : List Nat) :
    victim map targeted = (indices 40).foldl (pick (victimAt map targeted) (victimBeats map)) none := by
  unfold victim
  congr
  funext best k
  unfold pick victimAt victimBeats
  simp only [Option.isNone_iff_eq_none, List.contains_iff_mem, Bool.not_eq_true', ← Bool.not_eq_true]
  split
  · cases best with
    | none => rfl
    | some j => simp [tagAt_val]
  · rfl

theorem victimAt_eq_some {map : Table 40 SlotEntry} {targeted : List Nat} {k : Fin 40} {v : Nat} :
    victimAt map targeted k = some v ↔ k.val = v ∧
      (0x80 ≤ (map.get k).tag.toNat ∧ (map.get k).tag.toNat ≤ 0xFD ∧ (map.get k).own = none ∧ k.val ∉ targeted) := by
  unfold victimAt
  dsimp only
  split
  · next h => simp [h]
  · next h => simp [h]

theorem victim_eq_none {map : Table 40 SlotEntry} {targeted : List Nat} : victim map targeted = none ↔ ∀ j : Fin 40,
    ¬(0x80 ≤ (map.get j).tag.toNat ∧ (map.get j).tag.toNat ≤ 0xFD ∧ (map.get j).own = none ∧ j.val ∉ targeted) := by
  rw [victim_eq_pick, foldl_pick_eq_none]
  refine ⟨fun h j hj => ?_, fun h j _ => if_neg (h j)⟩
  have hnone := h j (mem_indices j)
  rw [victimAt_eq_some.2 ⟨rfl, hj⟩] at hnone
  cases hnone

theorem victim_eq_some {map : Table 40 SlotEntry} {targeted : List Nat} {v : Nat} (h : victim map targeted = some v) :
    ∃ j : Fin 40, j.val = v ∧
      (0x80 ≤ (map.get j).tag.toNat ∧ (map.get j).tag.toNat ≤ 0xFD ∧ (map.get j).own = none ∧ j.val ∉ targeted) ∧ ∀ i : Fin 40,
      (0x80 ≤ (map.get i).tag.toNat ∧ (map.get i).tag.toNat ≤ 0xFD ∧ (map.get i).own = none ∧ i.val ∉ targeted) →
      (map.get i).tag.toNat < (map.get j).tag.toNat ∨ ((map.get i).tag = (map.get j).tag ∧ i ≤ j) := by
  rw [victim_eq_pick] at h
  obtain ⟨j, -, hj, hall⟩ := foldl_pick_eq_some
    (fun x y z => by simp only [victimBeats, decide_eq_true_eq]; omega)
    (fun x y z => by simp only [victimBeats, decide_eq_true_eq, decide_eq_false_iff_not]; omega)
    (indices_ascending 40) h
  obtain ⟨rfl, heligible⟩ := victimAt_eq_some.1 hj
  refine ⟨j, rfl, heligible, fun i hi => ?_⟩
  obtain ⟨hbefore, hafter⟩ := hall i (mem_indices i) i.val (victimAt_eq_some.2 ⟨rfl, hi⟩)
  simp only [victimBeats, tagAt_val, decide_eq_true_eq, decide_eq_false_iff_not, not_le] at hbefore hafter
  rcases lt_trichotomy i j with hlt | rfl | hlt
  · rcases (hbefore hlt).lt_or_eq with h | h
    · exact .inl h
    · exact .inr ⟨BitVec.eq_of_toNat_eq h, hlt.le⟩
  · exact .inr ⟨rfl, le_rfl⟩
  · exact .inl (hafter hlt)

/-! ### The read-back results settled (R31, R37) -/

/-- R31, R37: what a holding becomes by its read-back results. -/
def Holding.settled (x : Holding) (lost whole : Bool) : Holding :=
  match x.state, lost with
  | .seeking, true => x.lose
  | .seeking, false => if x.first.isSome = true ∧ whole = true then { x with state := .held, attempts := 0 } else x
  | .held, true => { x with state := .seeking, first := none }
  | .held, false | .inactive, _ | .backoff, _ => x

section settled
variable {x : Holding} {lost whole : Bool}

theorem Holding.settled_loses (hstate : x.state = .seeking) : x.settled true whole = x.lose := by
  unfold Holding.settled
  rw [hstate]

theorem Holding.settled_holds (hstate : x.state = .seeking) (hfirst : x.first.isSome = true) :
    x.settled false true = { x with state := .held, attempts := 0 } := by
  unfold Holding.settled
  rw [hstate]
  exact if_pos ⟨hfirst, rfl⟩

theorem Holding.settled_waits (hstate : x.state = .seeking) (h : ¬(x.first.isSome = true ∧ whole = true)) :
    x.settled false whole = x := by
  unfold Holding.settled
  rw [hstate]
  exact if_neg h

theorem Holding.settled_leaves (hstate : x.state = .held) : x.settled true whole = { x with state := .seeking, first := none } := by
  unfold Holding.settled
  rw [hstate]

theorem Holding.settled_stays (hstate : x.state = .held) : x.settled false whole = x := by
  unfold Holding.settled
  rw [hstate]

theorem Holding.settled_idle (hstate : x.state = .inactive ∨ x.state = .backoff) : x.settled lost whole = x := by
  unfold Holding.settled
  rcases hstate with h | h <;> rw [h]

end settled

/-- R31, R37: a holding lost a slot of the tag frame. -/
def State.lostSlot (s : State) (h : Fin 11) : Bool := (s.smu.results.filter fun r => decide (r.holding = h)).any (·.lost)

/-- R31: every slot of a holding's run has its result. -/
def State.readWhole (s : State) (h : Fin 11) : Bool :=
  decide ((s.smu.results.filter fun r => decide (r.holding = h)).length = s.holdingRun h)

theorem State.lostSlot_iff {s : State} {h : Fin 11} : s.lostSlot h = true ↔ ∃ r ∈ s.smu.results, r.holding = h ∧ r.lost = true := by
  simp [State.lostSlot]

section settle
variable (h : Fin 11) (s : State)

/-- R31, R37: the four ways in which a holding is settled. -/
theorem State.settleHolding_ways :
    ((s.holding h).state = .seeking ∧ s.lostSlot h = true ∧
      s.settleHolding h = (s.setHolding h (s.holding h).lose).bump .contentionLosses) ∨
    ((s.holding h).state = .seeking ∧ s.lostSlot h = false ∧ (s.holding h).first.isSome = true ∧ s.readWhole h = true ∧
      s.settleHolding h = { s with smu := { s.smu with
        holdings := s.smu.holdings.set h { s.holding h with state := .held, attempts := 0 }
        map := ownSlots s.smu.map (some h) ((s.holding h).first.getD 0) (s.holdingRun h) } }) ∨
    ((s.holding h).state = .held ∧ s.lostSlot h = true ∧
      s.settleHolding h = (s.leaveHeld h { s.holding h with state := .seeking, first := none }).bump .slotsLost) ∨
    (s.settleHolding h = s ∧ (s.holding h).settled (s.lostSlot h) (s.readWhole h) = s.holding h ∧
      ¬((s.holding h).state = .seeking ∧ s.lostSlot h = true) ∧ ¬((s.holding h).state = .held ∧ s.lostSlot h = true)) := by
  unfold State.settleHolding
  dsimp only
  rw [← State.lostSlot]
  cases hstate : (s.holding h).state with
  | seeking =>
    cases hlost : s.lostSlot h with
    | true => exact .inl ⟨rfl, rfl, rfl⟩
    | false =>
      dsimp only
      rw [if_neg Bool.false_ne_true]
      split
      · next hwhole => exact .inr (.inl ⟨rfl, rfl, hwhole.1, decide_eq_true hwhole.2, rfl⟩)
      · next hpart =>
        have hwaits := Holding.settled_waits (whole := s.readWhole h) hstate fun hand => hpart ⟨hand.1, of_decide_eq_true hand.2⟩
        exact .inr (.inr (.inr ⟨rfl, hwaits, by simp, by simp⟩))
  | held =>
    cases hlost : s.lostSlot h with
    | true => exact .inr (.inr (.inl ⟨rfl, rfl, rfl⟩))
    | false => exact .inr (.inr (.inr ⟨rfl, Holding.settled_stays hstate, by simp, by simp⟩))
  | inactive => exact .inr (.inr (.inr ⟨rfl, Holding.settled_idle (.inl hstate), by simp, by simp⟩))
  | backoff => exact .inr (.inr (.inr ⟨rfl, Holding.settled_idle (.inr hstate), by simp, by simp⟩))

theorem State.settleHolding_holding : (s.settleHolding h).holding h = (s.holding h).settled (s.lostSlot h) (s.readWhole h) := by
  rcases s.settleHolding_ways h with ⟨hstate, hlost, heq⟩ | ⟨hstate, hlost, hfirst, hwhole, heq⟩ | ⟨hstate, hlost, heq⟩ | ⟨heq, hsame, -⟩
  · rw [hlost, Holding.settled_loses hstate, heq]
    exact Table.get_set_self _ _ _
  · rw [hlost, hwhole, Holding.settled_holds hstate hfirst, heq]
    exact Table.get_set_self _ _ _
  · rw [hlost, Holding.settled_leaves hstate, heq, State.holding, State.bump_smu, State.leaveHeld_smu]
    exact Table.get_set_self _ _ _
  · rw [heq, hsame]

theorem State.settleHolding_holding_other {g : Fin 11} (hg : g ≠ h) : (s.settleHolding h).holding g = s.holding g := by
  rcases s.settleHolding_cases h with heq | heq | heq | heq <;> rw [heq]
  · exact Table.get_set_of_ne _ _ (Ne.symm hg)
  · exact Table.get_set_of_ne _ _ (Ne.symm hg)
  · rw [State.holding, State.bump_smu, State.leaveHeld_smu]
    exact Table.get_set_of_ne _ _ (Ne.symm hg)

theorem State.settleHolding_cfl : (s.settleHolding h).cfl = s.cfl := by simp

/-- What the settling of a holding speaks of. -/
def State.settleView (s : State) (h : Fin 11) : Holding × List SlotResult × Loader := (s.holding h, s.smu.results, s.cfl)

theorem State.settleHolding_view (g : Fin 11) (hg : g ≠ h) : (s.settleHolding h).settleView g = s.settleView g := by
  unfold State.settleView
  rw [State.settleHolding_holding_other h s hg, (s.settleHolding_sameSlots h).results, State.settleHolding_cfl]

theorem State.lostSlot_of_view {t : State} {g : Fin 11} (h : t.settleView g = s.settleView g) : t.holding g = s.holding g ∧
    t.lostSlot g = s.lostSlot g ∧ t.readWhole g = s.readWhole g ∧ t.holdingRun g = s.holdingRun g := by
  obtain ⟨hholding, hrest⟩ := Prod.mk.inj h
  obtain ⟨hresults, hcfl⟩ := Prod.mk.inj hrest
  have hrun := State.holdingRun_congr hcfl g
  refine ⟨hholding, ?_, ?_, hrun⟩
  · rw [State.lostSlot, hresults]
    rfl
  · rw [State.readWhole, hresults, hrun]
    rfl

theorem State.holdingsSettled_holding : s.holdingsSettled.holding h = (s.holding h).settled (s.lostSlot h) (s.readWhole h) := by
  obtain ⟨u, hu, hend⟩ := (foldl_at (V := State.settleView) (f := fun s h => s.settleHolding h)
    (fun t a b hb => t.settleHolding_view a b hb) (indices_nodup 11) s h).2 (mem_indices h)
  obtain ⟨hholding, hlost, hwhole, -⟩ := s.lostSlot_of_view hu
  rw [State.holdingsSettled_eq]
  refine (congrArg Prod.fst hend).trans ((u.settleHolding_holding h).trans ?_)
  rw [hholding, hlost, hwhole]

/-- What the settling of one holding establishes, and that of no other undoes, holds in the end. -/
theorem foldl_reaches {σ α β : Type} {f : σ → α → σ} {V : σ → α → β} (hother : ∀ s a b, b ≠ a → V (f s a) b = V s b) {P : σ → Prop}
    {a : α} {s : σ} (hself : ∀ u, V u a = V s a → P (f u a)) (hkeep : ∀ u b, b ≠ a → V u b = V s b → P u → P (f u b)) {l : List α}
    (hl : l.Nodup) (ha : a ∈ l) : P (l.foldl f s) := by
  have hrest : ∀ (m : List α), m.Nodup → a ∉ m → ∀ u, (∀ b ∈ m, V u b = V s b) → P u → P (m.foldl f u) := by
    intro m
    induction m with
    | nil => exact fun _ _ _ _ h => h
    | cons b m ih =>
      intro hm ham u hu hP
      obtain ⟨hb, hm⟩ := List.nodup_cons.1 hm
      obtain ⟨hab, ham⟩ := not_or.1 fun h => ham (List.mem_cons.2 h)
      refine ih hm ham _ (fun c hc => ?_) (hkeep u b (Ne.symm hab) (hu b List.mem_cons_self) hP)
      exact (hother u b c fun h => hb (h ▸ hc)).trans (hu c (List.mem_cons_of_mem _ hc))
  have hall : ∀ (m : List α), m.Nodup → a ∈ m → ∀ u, (∀ b ∈ m, V u b = V s b) → P (m.foldl f u) := by
    intro m
    induction m with
    | nil => exact fun _ h => nomatch h
    | cons b m ih =>
      intro hnodup ham u hu
      obtain ⟨hb, hm⟩ := List.nodup_cons.1 hnodup
      have hafter : ∀ c ∈ m, V (f u b) c = V s c := fun c hc =>
        (hother u b c fun h => hb (h ▸ hc)).trans (hu c (List.mem_cons_of_mem _ hc))
      rcases List.mem_cons.1 ham with rfl | ham
      · exact hrest m hm hb _ hafter (hself u (hu a List.mem_cons_self))
      · exact ih hm ham _ hafter
  exact hall l hl ha s fun _ _ => rfl

/-- R37: the slots of a holding that lost one are nobody's, or another's. -/
theorem State.holdingsSettled_disowned (hstate : (s.holding h).state = .held) (hlost : s.lostSlot h = true) :
    ∀ k, (s.holdingsSettled.smu.map.get k).own ≠ some h := by
  have hnodup := indices_nodup 11
  have hmem := mem_indices h
  rw [State.holdingsSettled_eq]
  generalize indices 11 = l at hnodup hmem ⊢
  refine foldl_reaches (V := State.settleView) (f := fun s h => s.settleHolding h) (P := fun t => ∀ k, (t.smu.map.get k).own ≠ some h)
    (a := h) (fun t a b hb => t.settleHolding_view a b hb) (fun u hu k => ?_) (fun u g hg _ hP k => ?_) hnodup hmem
  · obtain ⟨hholding, hlost', -⟩ := s.lostSlot_of_view hu
    rcases u.settleHolding_ways h with ⟨hs, -⟩ | ⟨hs, -⟩ | ⟨-, -, heq⟩ | ⟨-, -, -, hnot⟩
    · rw [hholding, hstate] at hs
      cases hs
    · rw [hholding, hstate] at hs
      cases hs
    · rw [heq, State.bump_smu, State.leaveHeld_smu]
      exact disown_own _ _ _
    · exact absurd ⟨by rw [hholding, hstate], by rw [hlost', hlost]⟩ hnot
  · rcases u.settleHolding_ways g with ⟨-, -, heq⟩ | ⟨-, -, -, -, heq⟩ | ⟨-, -, heq⟩ | ⟨heq, -⟩ <;> rw [heq]
    · exact hP k
    · dsimp only
      rw [ownSlots, Table.get_mapIdx]
      split
      · exact fun hown => hg (Option.some.inj hown)
      · exact hP k
    · rw [State.bump_smu, State.leaveHeld_smu]
      dsimp only
      rw [disown, Table.get_map]
      split
      · nofun
      · exact hP k
    · exact hP k

/-- R31: the slots of a holding that read back clean are its own, where no other holding seeks. -/
theorem State.holdingsSettled_owned {f : Nat} (hstate : (s.holding h).state = .seeking) (hfirst : (s.holding h).first = some f)
    (hlost : s.lostSlot h = false) (hwhole : s.readWhole h = true) (hothers : ∀ g, g ≠ h → (s.holding g).state ≠ .seeking)
    (k : Fin 40) (hlow : f ≤ k.val) (hhigh : k.val < f + s.holdingRun h) : (s.holdingsSettled.smu.map.get k).own = some h := by
  have hnodup := indices_nodup 11
  have hmem := mem_indices h
  rw [State.holdingsSettled_eq]
  generalize indices 11 = l at hnodup hmem ⊢
  refine foldl_reaches (V := State.settleView) (f := fun s h => s.settleHolding h) (P := fun t => (t.smu.map.get k).own = some h)
    (a := h) (fun t a b hb => t.settleHolding_view a b hb) (fun u hu => ?_) (fun u g hg hu hP => ?_) hnodup hmem
  · obtain ⟨hholding, hlost', hwhole', hrun⟩ := s.lostSlot_of_view hu
    rcases u.settleHolding_ways h with ⟨-, hl, -⟩ | ⟨-, -, -, -, heq⟩ | ⟨-, hl, -⟩ | ⟨-, hkept, -⟩
    · rw [hlost', hlost] at hl
      cases hl
    · rw [heq]
      dsimp only
      rw [ownSlots, Table.get_mapIdx, if_pos]
      rw [hholding, hfirst, hrun]
      exact ⟨hlow, hhigh⟩
    · rw [hlost', hlost] at hl
      cases hl
    · rw [hholding, hlost', hlost, hwhole', hwhole, Holding.settled_holds hstate (by simp [hfirst])] at hkept
      rw [← congrArg Holding.state hkept] at hstate
      cases hstate
  · have hother := hothers g hg
    obtain ⟨hholding, -⟩ := s.lostSlot_of_view hu
    rw [← hholding] at hother
    rcases u.settleHolding_ways g with ⟨hs, -⟩ | ⟨hs, -⟩ | ⟨-, -, heq⟩ | ⟨heq, -⟩
    · exact absurd hs hother
    · exact absurd hs hother
    · rw [heq, State.bump_smu, State.leaveHeld_smu]
      dsimp only
      rw [disown, Table.get_map, if_neg, hP]
      rw [hP]
      exact fun hown => hg (Option.some.inj hown).symm
    · rw [heq]
      exact hP

/-- A settled holding counts a contention that it lost. -/
theorem State.settleHolding_contention : (s.settleHolding h).counter .contentionLosses =
    if (s.holding h).state = .seeking ∧ s.lostSlot h = true then satInc (s.counter .contentionLosses)
    else s.counter .contentionLosses := by
  rcases s.settleHolding_ways h with ⟨hstate, hlost, heq⟩ | ⟨hstate, hlost, -, -, heq⟩ | ⟨hstate, hlost, heq⟩ | ⟨heq, -, hnot, -⟩
  · rw [if_pos ⟨hstate, hlost⟩, heq, State.counter_bump, if_pos rfl]
    rfl
  · rw [if_neg (by simp [hlost]), heq]
    rfl
  · rw [if_neg (by simp [hstate]), heq, State.counter_bump, if_neg (by decide), State.counter, (State.leaveHeld_frame h _ s).2.1]
    rfl
  · rw [if_neg hnot, heq]

/-- A settled holding counts a slot that it lost. -/
theorem State.settleHolding_slotsLost : (s.settleHolding h).counter .slotsLost =
    if (s.holding h).state = .held ∧ s.lostSlot h = true then satInc (s.counter .slotsLost) else s.counter .slotsLost := by
  rcases s.settleHolding_ways h with ⟨hstate, hlost, heq⟩ | ⟨hstate, hlost, -, -, heq⟩ | ⟨hstate, hlost, heq⟩ | ⟨heq, -, -, hnot⟩
  · rw [if_neg (by simp [hstate]), heq, State.counter_bump, if_neg (by decide)]
    rfl
  · rw [if_neg (by simp [hlost]), heq]
    rfl
  · rw [if_pos ⟨hstate, hlost⟩, heq, State.counter_bump, if_pos rfl, State.counter, (State.leaveHeld_frame h _ s).2.1]
    rfl
  · rw [if_neg hnot, heq]

/-- R31, R37: the losses counted at the map update: of the holdings that were in state `st`. -/
theorem State.holdingsSettled_losses {c : Counter} {st : HoldingState}
    (hcounts : ∀ (t : State) g, (t.settleHolding g).counter c =
      if (t.holding g).state = st ∧ t.lostSlot g = true then satInc (t.counter c) else t.counter c) :
    s.holdingsSettled.counter c =
      satInc^[((indices 11).filter fun g => decide ((s.holding g).state = st) && s.lostSlot g).length] (s.counter c) := by
  rw [State.holdingsSettled_eq]
  refine foldl_counts (f := fun (s : State) h => s.settleHolding h) (V := fun t g => ((t.holding g).state, t.lostSlot g))
    (P := fun v => decide (v.1 = st) && v.2) (fun t a b hb => ?_) (fun t g hP => ?_) (fun t g hP => ?_) (indices_nodup 11) s
  · obtain ⟨hholding, hlost, -⟩ := t.lostSlot_of_view (t.settleHolding_view a b hb)
    rw [hholding, hlost]
  · rw [hcounts, if_pos]
    simpa using hP
  · rw [hcounts, if_neg]
    simpa using hP

end settle

/-! ### The holdings that seek (R32 to R34) -/

/-- A holding that seeks without a target. -/
def Holding.vacant (x : Holding) : Prop := x.state = .seeking ∧ x.first = none

theorem State.seekHolding_idle {p : State × List Nat} {h : Fin 11} (hidle : ¬(p.1.holding h).vacant) :
    State.seekHolding p h = p := by
  unfold State.seekHolding
  exact if_neg fun hand => hidle ⟨hand.1, Option.isNone_iff_eq_none.1 hand.2⟩

theorem State.seekHolding_other {p : State × List Nat} {g h : Fin 11} (hg : g ≠ h) :
    (State.seekHolding p h).1.holding g = p.1.holding g := by
  rcases State.seekHolding_cases p h with heq | ⟨x, heq⟩ <;> rw [heq]
  exact Table.get_set_of_ne _ _ (Ne.symm hg)

theorem State.seekHolding_state (p : State × List Nat) (h : Fin 11) :
    ((State.seekHolding p h).1.holding h).state = (p.1.holding h).state := by
  have hself : ∀ y : Holding, y.state = (p.1.holding h).state → ((p.1.setHolding h y).holding h).state = (p.1.holding h).state :=
    fun y hy => (congrArg Holding.state (Table.get_set_self p.1.smu.holdings h y)).trans hy
  unfold State.seekHolding
  dsimp only
  split
  · split
    · exact hself _ rfl
    · split
      · exact hself _ rfl
      · exact hself _ rfl
  · rfl

/-- A holding after the search of all: in its state, and as it was where it did not seek without a target. -/
theorem State.holdingsSought_holding (s : State) (h : Fin 11) : (s.holdingsSought.holding h).state = (s.holding h).state ∧
    (¬(s.holding h).vacant → s.holdingsSought.holding h = s.holding h) := by
  obtain ⟨u, hu, hend⟩ := (foldl_at (V := fun (p : State × List Nat) h => p.1.holding h) (f := State.seekHolding)
    (fun _ _ _ hb => State.seekHolding_other hb) (indices_nodup 11) (s, []) h).2 (mem_indices h)
  rw [State.holdingsSought_eq]
  refine ⟨?_, fun hidle => ?_⟩
  · rw [show _ = _ from hend, State.seekHolding_state, show _ = _ from hu]
  · rw [show _ = _ from hend, State.seekHolding_idle (by rw [show _ = _ from hu]; exact hidle)]
    exact hu

/-- Where no other holding seeks without a target, the search is one holding's own. -/
theorem State.holdingsSought_alone {s : State} {h : Fin 11} (hothers : ∀ g, g ≠ h → ¬(s.holding g).vacant) :
    s.holdingsSought = (State.seekHolding (s, []) h).1 := by
  have hidle : ∀ (l : List (Fin 11)) (p : State × List Nat), h ∉ l → (∀ g, g ≠ h → ¬(p.1.holding g).vacant) →
      l.foldl State.seekHolding p = p := by
    intro l
    induction l with
    | nil => exact fun _ _ _ => rfl
    | cons g l ih =>
      intro p hl hp
      obtain ⟨hg, hl⟩ := not_or.1 fun h => hl (List.mem_cons.2 h)
      rw [List.foldl_cons, State.seekHolding_idle (hp g (Ne.symm hg))]
      exact ih p hl hp
  have hall : ∀ (l : List (Fin 11)) (p : State × List Nat), l.Nodup → h ∈ l → (∀ g, g ≠ h → ¬(p.1.holding g).vacant) →
      l.foldl State.seekHolding p = State.seekHolding p h := by
    intro l
    induction l with
    | nil => exact fun _ _ h => nomatch h
    | cons g l ih =>
      intro p hl hmem hp
      obtain ⟨hg, hl⟩ := List.nodup_cons.1 hl
      rw [List.foldl_cons]
      by_cases hgh : g = h
      · subst hgh
        exact hidle l _ hg fun a ha => by rw [State.seekHolding_other ha]; exact hp a ha
      · rw [State.seekHolding_idle (hp g hgh)]
        exact ih p hl ((List.mem_cons.1 hmem).resolve_left (Ne.symm hgh)) hp
  rw [State.holdingsSought_eq, hall (indices 11) (s, []) (indices_nodup 11) (mem_indices h) hothers]

/-- R32 to R34: a holding that seeks alone takes a candidate, or a victim, or waits. -/
theorem State.seekHolding_alone {s : State} {h : Fin 11} (hvacant : (s.holding h).vacant) :
    let x := s.holding h
    let y := (State.seekHolding (s, []) h).1.holding h
    let cs := candidates s.smu.map [] (s.holdingRun h)
    let waits := y = { x with attempts := min (x.attempts + 1) 255 }
    (cs ≠ [] → y = { x with first := cs[(s.cfl.address + x.attempts) % cs.length]? }) ∧
    (cs = [] → mayPreempt (s.holdingTag h) = true →
      (∀ v, victim s.smu.map [] = some v → y = { x with first := some v }) ∧ (victim s.smu.map [] = none → waits)) ∧
    (cs = [] → mayPreempt (s.holdingTag h) = false → waits) := by
  obtain ⟨hstate, hfirst⟩ := hvacant
  have hself : ∀ y, (s.setHolding h y).holding h = y := fun y => Table.get_set_self _ _ _
  unfold State.seekHolding
  dsimp only
  rw [if_pos ⟨hstate, Option.isNone_iff_eq_none.2 hfirst⟩]
  generalize candidates s.smu.map [] (s.holdingRun h) = cs
  refine ⟨fun hcs => ?_, fun hcs hmay => ⟨fun v hv => ?_, fun hv => ?_⟩, fun hcs hmay => ?_⟩
  · have hlt : (s.cfl.address + (s.holding h).attempts) % cs.length < cs.length :=
      Nat.mod_lt _ (List.length_pos_iff.2 hcs)
    rw [List.getElem?_eq_getElem hlt]
    exact hself _
  · rw [hcs, hmay, if_pos rfl, hv]
    exact hself _
  · rw [hcs, hmay, if_pos rfl, hv]
    exact hself _
  · rw [hcs, hmay]
    exact hself _

/-! ### The holdings after the map update -/

/-- R30: the holdings and the owners of the slots after the map update. -/
theorem State.smuMapUpdate_holdings (s : State) :
    (∀ h, s.smuMapUpdate.holding h = s.replaceMap.holdingsSettled.holdingsSought.holding h) ∧
    s.smuMapUpdate.smu.map = s.replaceMap.holdingsSettled.smu.map ∧
    ∀ c, s.smuMapUpdate.counter c = s.replaceMap.holdingsSettled.counter c := by
  have hsought := s.replaceMap.holdingsSettled.holdingsSought_only
  have hupdate := s.smuMapUpdate_eq
  generalize s.smuMapUpdate = t at hupdate ⊢
  generalize s.replaceMap.holdingsSettled = v at hsought hupdate ⊢
  generalize v.holdingsSought = w at hsought hupdate ⊢
  have hmap : w.smu.map = v.smu.map := by rw [hsought]
  have hcounters : w.counters = v.counters := by rw [hsought]
  refine ⟨fun h => by rw [hupdate]; rfl, by rw [hupdate]; exact hmap, fun c => ?_⟩
  rw [hupdate]
  exact congrArg (fun x => Table.get x c.idx) hcounters

theorem State.replaceMap_holdings (s : State) : s.replaceMap.smu.holdings = s.smu.holdings ∧ s.replaceMap.smu.results = s.smu.results ∧
    s.replaceMap.cfl = s.cfl ∧ ∀ c, c ≠ .duplicateTags → s.replaceMap.counter c = s.counter c := by
  refine ⟨?_, ?_, by simp, fun c hc => ?_⟩
  · unfold State.replaceMap
    dsimp only
    rw [State.bumpN_eq]
  · unfold State.replaceMap
    dsimp only
    rw [State.bumpN_eq]
  · unfold State.replaceMap
    dsimp only
    rw [State.counter_bumpN, if_neg (Ne.symm hc)]
    rfl

theorem State.holdingsSettled_cfl (s : State) : s.holdingsSettled.cfl = s.cfl := by
  rw [State.holdingsSettled_eq]
  exact foldl_keeps (I := fun t : State => t.cfl = s.cfl) (fun t h ht => (t.settleHolding_cfl h).trans ht) (indices 11) rfl

theorem State.holdingTag_congr {s t : State} (h : t.cfl = s.cfl) (g : Fin 11) : t.holdingTag g = s.holdingTag g := by
  unfold State.holdingTag
  rw [State.cfg_congr h, h]

/-- A holding that lost nothing and does not seek without a target does not do so when it is settled. -/
theorem Holding.settled_not_vacant {x : Holding} {whole : Bool} (h : x.state = .seeking → x.first ≠ none) :
    ¬(x.settled false whole).vacant := by
  rintro ⟨hstate, hfirst⟩
  cases hold : x.state with
  | seeking =>
    by_cases hand : x.first.isSome = true ∧ whole = true
    · obtain ⟨hsome, rfl⟩ := hand
      rw [Holding.settled_holds hold hsome] at hstate
      cases hstate
    · rw [Holding.settled_waits hold hand] at hfirst
      exact h hold hfirst
  | held =>
    rw [Holding.settled_stays hold, hold] at hstate
    cases hstate
  | inactive =>
    rw [Holding.settled_idle (.inl hold), hold] at hstate
    cases hstate
  | backoff =>
    rw [Holding.settled_idle (.inr hold), hold] at hstate
    cases hstate

section resolved
variable (s : State) (h : Fin 11)

/-- What replacing the map leaves of a holding's view. -/
theorem State.replaceMap_view : s.replaceMap.holding h = s.holding h ∧ s.replaceMap.lostSlot h = s.lostSlot h ∧
    s.replaceMap.readWhole h = s.readWhole h ∧ s.replaceMap.holdingRun h = s.holdingRun h := by
  obtain ⟨hholdings, hresults, hcfl, -⟩ := s.replaceMap_holdings
  refine s.lostSlot_of_view ?_
  rw [State.settleView, State.holding, hholdings, hresults, hcfl]
  rfl

theorem State.smuMapUpdate_settled : s.replaceMap.holdingsSettled.holding h =
    (s.holding h).settled (s.lostSlot h) (s.readWhole h) := by
  obtain ⟨hholding, hlost, hwhole, -⟩ := s.replaceMap_view h
  rw [State.holdingsSettled_holding, hholding, hlost, hwhole]

/-- A holding that does not seek without a target once it is settled. -/
theorem State.smuMapUpdate_kept {x : Holding} (hx : (s.holding h).settled (s.lostSlot h) (s.readWhole h) = x) (hidle : ¬x.vacant) :
    s.smuMapUpdate.holding h = x := by
  have hsettled := (s.smuMapUpdate_settled h).trans hx
  rw [s.smuMapUpdate_holdings.1, (State.holdingsSought_holding _ h).2 (by rw [hsettled]; exact hidle), hsettled]

/-- R37: a holding that lost a slot seeks, and has none. -/
theorem State.smuMapUpdate_lost (hstate : (s.holding h).state = .held) (hlost : s.lostSlot h = true) :
    (s.smuMapUpdate.holding h).state = .seeking ∧ ∀ k, (s.smuMapUpdate.smu.map.get k).own ≠ some h := by
  obtain ⟨hholdings, hmap, -⟩ := s.smuMapUpdate_holdings
  obtain ⟨hholding, hlost', -⟩ := s.replaceMap_view h
  refine ⟨?_, fun k => ?_⟩
  · rw [hholdings, (State.holdingsSought_holding _ h).1, s.smuMapUpdate_settled, hlost, Holding.settled_leaves hstate]
  · rw [hmap]
    exact s.replaceMap.holdingsSettled_disowned h (by rw [hholding, hstate]) (by rw [hlost', hlost]) k

/-- R31: a holding whose target read back clean is HELD on it. -/
theorem State.smuMapUpdate_held {f : Nat} (hstate : (s.holding h).state = .seeking) (hfirst : (s.holding h).first = some f)
    (hlost : s.lostSlot h = false) (hwhole : s.readWhole h = true) :
    s.smuMapUpdate.holding h = { s.holding h with state := .held, attempts := 0 } ∧
    ∀ k : Fin 40, f ≤ k.val → k.val < f + s.holdingRun h → (∀ g, g ≠ h → (s.holding g).state ≠ .seeking) →
      (s.smuMapUpdate.smu.map.get k).own = some h := by
  obtain ⟨hholding, hlost', hwhole', hrun⟩ := s.replaceMap_view h
  refine ⟨s.smuMapUpdate_kept h ?_ (by rintro ⟨h, -⟩; cases h), fun k hlow hhigh hothers => ?_⟩
  · rw [hlost, hwhole, Holding.settled_holds hstate (by simp [hfirst])]
  · rw [s.smuMapUpdate_holdings.2.1]
    refine s.replaceMap.holdingsSettled_owned h (by rw [hholding, hstate]) (by rw [hholding, hfirst]) (by rw [hlost', hlost])
      (by rw [hwhole', hwhole]) (fun g hg => ?_) k hlow (by rw [hrun]; exact hhigh)
    rw [(s.replaceMap_view g).1]
    exact hothers g hg

/-- The losses that the map update counts. -/
theorem State.smuMapUpdate_losses {c : Counter} {st : HoldingState} (hc : c ≠ .duplicateTags)
    (hcounts : ∀ (t : State) g, (t.settleHolding g).counter c =
      if (t.holding g).state = st ∧ t.lostSlot g = true then satInc (t.counter c) else t.counter c)
    {losers : List (Fin 11)} (hlosers : losers.Nodup) (hmem : ∀ g, g ∈ losers ↔ (s.holding g).state = st ∧ s.lostSlot g = true) :
    s.smuMapUpdate.counter c = satInc^[losers.length] (s.counter c) := by
  obtain ⟨-, -, -, hreplaced⟩ := s.replaceMap_holdings
  have hlength : ((indices 11).filter fun g => decide ((s.replaceMap.holding g).state = st) && s.replaceMap.lostSlot g).length =
      losers.length := by
    refine length_eq_of_mem_iff ((indices_nodup 11).filter _) hlosers fun g => ?_
    obtain ⟨hholding, hlost, -⟩ := s.replaceMap_view g
    rw [List.mem_filter, Bool.and_eq_true, decide_eq_true_eq, hmem, hholding, hlost]
    exact and_iff_right (mem_indices g)
  rw [s.smuMapUpdate_holdings.2.2, s.replaceMap.holdingsSettled_losses hcounts, hlength, hreplaced c hc]

/-- R32 to R34: a holding that alone seeks without a target. -/
theorem State.smuMapUpdate_seeks {x : Holding} (hx : (s.holding h).settled (s.lostSlot h) (s.readWhole h) = x) (hvacant : x.vacant)
    (hothers : ∀ g, g ≠ h → s.lostSlot g = false ∧ ((s.holding g).state = .seeking → (s.holding g).first ≠ none)) :
    let y := s.smuMapUpdate.holding h
    let cs := candidates s.smuMapUpdate.smu.map [] (s.holdingRun h)
    let waits := y = { x with attempts := min (x.attempts + 1) 255 }
    (cs ≠ [] → y = { x with first := cs[(s.cfl.address + x.attempts) % cs.length]? }) ∧
    (cs = [] → mayPreempt (s.holdingTag h) = true →
      (∀ v, victim s.smuMapUpdate.smu.map [] = some v → y = { x with first := some v }) ∧
        (victim s.smuMapUpdate.smu.map [] = none → waits)) ∧
    (cs = [] → mayPreempt (s.holdingTag h) = false → waits) := by
  obtain ⟨hholdings, hmap, -⟩ := s.smuMapUpdate_holdings
  have hsettled := (s.smuMapUpdate_settled h).trans hx
  have hcfl : s.replaceMap.holdingsSettled.cfl = s.cfl := (State.holdingsSettled_cfl _).trans s.replaceMap_holdings.2.2.1
  have halone := State.holdingsSought_alone (s := s.replaceMap.holdingsSettled) (h := h) fun g hg => by
    obtain ⟨hlost, hfirst⟩ := hothers g hg
    rw [s.smuMapUpdate_settled, hlost]
    exact Holding.settled_not_vacant hfirst
  have hseek := State.seekHolding_alone (s := s.replaceMap.holdingsSettled) (h := h) (by rw [hsettled]; exact hvacant)
  rw [hholdings, halone, hmap]
  rw [hsettled, State.holdingRun_congr hcfl, State.holdingTag_congr hcfl, hcfl] at hseek
  exact hseek

end resolved

/-- Settles O18. -/
theorem holdingsSettleAtTheMapUpdate : Obligations.HoldingsSettleAtTheMapUpdate := by
  refine ⟨fun map targeted run => ⟨candidates_ascending _ _ _, fun k => mem_candidates, victim_eq_none, fun v => victim_eq_some⟩, ?_⟩
  intro byte ninth wait s hdue htrunk hframe hdone results lost settled
  refine ⟨_, exec_mapUpdate byte ninth wait hdue htrunk hframe hdone, ?_⟩
  have hlast := State.lastSlot_eq byte ninth wait hframe hdone
  generalize s.lastSlot byte ninth wait = l at hlast ⊢
  have hresults : l.smu.results = results := by rw [hlast]
  have hcfl : l.cfl = s.cfl := by rw [hlast]
  have hholding : ∀ h, l.holding h = s.holding h := fun h => by rw [hlast]; rfl
  have hcounter : ∀ c, l.counter c = s.counter c := fun c => by rw [hlast]; rfl
  have hrun : ∀ h, l.holdingRun h = s.holdingRun h := fun h => State.holdingRun_congr hcfl h
  have hsilenced : l.tlu.silenced = s.lastSilenced byte := by rw [hlast]
  have hlost : ∀ h, l.lostSlot h = true ↔ lost h := fun h => by rw [State.lostSlot_iff, hresults]
  have hclean : ∀ h, ¬lost h → l.lostSlot h = false := fun h hnot => Bool.eq_false_iff.2 fun h' => hnot ((hlost h).1 h')
  have hafter : ∀ h, l.mapUpdate.holding h = l.smuMapUpdate.holding h := fun h => by
    rw [State.holding, State.mapUpdate_smu]
    rfl
  have hcounted : ∀ c, c ≠ .queueDrops → c ≠ .tableFull → c ≠ .undescribed → l.mapUpdate.counter c = l.smuMapUpdate.counter c := by
    intro c hdrops hfull hundescribed
    rw [State.mapUpdate_eq, State.evaluate_counter _ hdrops hfull, State.entriesUpdated_counter, if_neg hundescribed,
      l.mapResolved_prepared.2.2.2.2.2]
  rw [State.mapUpdate_smu]
  refine ⟨?_, fun h f hstate hfirst hnot hwhole => ?_, fun h hstate hl => ?_, fun h hstate hnot => ?_,
    fun losers hnodup hmem => ?_, fun losers hnodup hmem => ?_, fun h x hx hseeks hvacant hothers => ?_⟩
  · rw [l.mapUpdate_frame.2.2.2.1, hsilenced]
    rfl
  · rw [hafter, ← hrun, ← hholding]
    obtain ⟨hheld, howned⟩ := l.smuMapUpdate_held h (by rw [hholding, hstate]) (by rw [hholding, hfirst]) (hclean h hnot)
      (by rw [State.readWhole, hresults, hrun]; exact decide_eq_true hwhole)
    exact ⟨hheld, fun k hlow hhigh hothers => howned k hlow hhigh fun g hg => by rw [hholding]; exact hothers g hg⟩
  · rw [hafter]
    exact l.smuMapUpdate_lost h (by rw [hholding, hstate]) ((hlost h).2 hl)
  · rw [hafter, ← hholding]
    rw [← hholding] at hstate
    refine l.smuMapUpdate_kept h (by rw [hclean h hnot, Holding.settled_stays hstate]) ?_
    rintro ⟨hseeks, -⟩
    rw [hstate] at hseeks
    cases hseeks
  · rw [hcounted _ (by decide) (by decide) (by decide), ← hcounter]
    refine l.smuMapUpdate_losses (by decide) (fun t g => t.settleHolding_contention g) hnodup fun g => ?_
    rw [hmem, hholding, hlost]
  · rw [hcounted _ (by decide) (by decide) (by decide), ← hcounter]
    refine l.smuMapUpdate_losses (by decide) (fun t g => t.settleHolding_slotsLost g) hnodup fun g => ?_
    rw [hmem, hholding, hlost]
  · rw [hafter, ← hrun, ← hcfl, ← State.holdingTag_congr hcfl]
    refine l.smuMapUpdate_seeks h ?_ ⟨hseeks, hvacant⟩ fun g hg => ?_
    · obtain ⟨hloses, hleaves, hstays, hidle⟩ := hx
      rw [hholding]
      cases hstate : (s.holding h).state with
      | seeking =>
        by_cases hl : lost h
        · rw [(hlost h).2 hl, Holding.settled_loses hstate, hloses hstate hl]
          rfl
        · obtain rfl := hstays (.inl hstate) hl
          rw [hclean h hl, Holding.settled_waits hstate (by simp [hvacant])]
      | held =>
        by_cases hl : lost h
        · rw [(hlost h).2 hl, Holding.settled_leaves hstate, hleaves hstate hl]
        · obtain rfl := hstays (.inr hstate) hl
          rw [hstate] at hseeks
          cases hseeks
      | inactive =>
        obtain rfl := hidle (.inl hstate)
        exact Holding.settled_idle (.inl hstate)
      | backoff =>
        obtain rfl := hidle (.inr hstate)
        exact Holding.settled_idle (.inr hstate)
    · obtain ⟨hnot, hfirst⟩ := hothers g hg
      rw [hholding]
      exact ⟨hclean g hnot, hfirst⟩

end Sys2Proof.Machine
end

section
/-!
PROOFS. The teardown at the entry to LISTEN (R12, R41, R80, R103, R122): a follow-only node drops the link (O14).
-/

namespace Sys2Proof.Machine

/-! ### The holdings (R41) -/

/-- R41: a holding after the teardown. -/
def Holding.tornDown (x : Holding) : Holding :=
  match x.state with
  | .held => { x with state := .seeking, first := none }
  | .seeking => { x with first := none }
  | .inactive | .backoff => x

section smu
variable (h : Fin 11) (s : State)

theorem State.holdingTeardown_holding : (s.holdingTeardown h).holding h = (s.holding h).tornDown := by
  have hset : ∀ y, (s.setHolding h y).holding h = y := fun y => Table.get_set_self _ _ _
  have hleft : ∀ y, (s.leaveHeld h y).holding h = y := fun y => by
    rw [State.holding, State.leaveHeld_smu]
    exact Table.get_set_self _ _ _
  unfold State.holdingTeardown Holding.tornDown
  dsimp only
  cases (s.holding h).state with
  | held => exact hleft _
  | seeking => exact hset _
  | inactive => rfl
  | backoff => rfl

theorem State.holdingTeardown_other (g : Fin 11) (hg : g ≠ h) : (s.holdingTeardown h).holding g = s.holding g := by
  unfold State.holdingTeardown
  dsimp only
  split
  · rw [State.holding, State.leaveHeld_smu]
    exact Table.get_set_of_ne _ _ (Ne.symm hg)
  · exact Table.get_set_of_ne _ _ (Ne.symm hg)
  · rfl
  · rfl

/-- R41: every holding is torn down. -/
def State.holdingsTornDown : State := (indices 11).foldl (fun s h => s.holdingTeardown h) s

theorem State.holdingsTornDown_eq : s.holdingsTornDown = (indices 11).foldl (fun s h => s.holdingTeardown h) s := rfl

theorem State.smuTeardown_eq : s.smuTeardown = { s.holdingsTornDown with smu := { s.holdingsTornDown.smu with
    map := Table.replicate 40 .clear, running := Table.replicate 40 0, collected := Table.replicate 40 none
    results := [], locator := [] } } := by
  rw [State.holdingsTornDown_eq]
  unfold State.smuTeardown
  dsimp only

theorem State.smuTeardown_holding : s.smuTeardown.holding h = (s.holding h).tornDown := by
  obtain ⟨u, hu, hend⟩ := (foldl_at (V := State.holding) (f := fun s h => s.holdingTeardown h)
    (fun t a b hb => t.holdingTeardown_other a b hb) (indices_nodup 11) s h).2 (mem_indices h)
  rw [← State.holdingsTornDown_eq] at hend
  rw [State.smuTeardown_eq]
  generalize s.holdingsTornDown = t at hend ⊢
  exact hend.trans ((u.holdingTeardown_holding h).trans (congrArg Holding.tornDown hu))

theorem Holding.tornDown_spec (x : Holding) : x.tornDown.attempts = x.attempts ∧ x.tornDown.backoff = x.backoff ∧
    (x.state = .held ∨ x.state = .seeking → x.tornDown.state = .seeking ∧ x.tornDown.first = none) ∧
    (x.state = .inactive ∨ x.state = .backoff → x.tornDown.state = x.state) := by
  unfold Holding.tornDown
  cases hstate : x.state <;> simp [hstate]

/-- R72, R80: what the holdings' teardown leaves of the CMU. -/
theorem State.smuTeardown_cmu : s.smuTeardown.cmu.missed = s.cmu.missed ∧ s.smuTeardown.cmu.prescaler = s.cmu.prescaler := by
  rw [State.smuTeardown_eq]
  dsimp only
  rw [State.holdingsTornDown_eq]
  refine foldl_keeps (I := fun t : State => t.cmu.missed = s.cmu.missed ∧ t.cmu.prescaler = s.cmu.prescaler) (fun t g ht => ?_)
    (indices 11) ⟨rfl, rfl⟩
  have hleft : ∀ y, (t.leaveHeld g y).cmu = t.cmu ∨ (t.leaveHeld g y).cmu = t.cmu.restart := fun y => State.sourceReleased_cmu g _
  unfold State.holdingTeardown
  dsimp only
  split
  · next x =>
    rcases hleft { t.holding g with state := .seeking, first := none } with heq | heq <;> rw [heq]
    · exact ht
    · exact ht
  · exact ht
  · exact ht
  · exact ht

end smu

/-! ### The lanes and the feeds (R122, R181) -/

/-- R122: every active video is lost. -/
def State.videosLost (s : State) : State := (s.lcu.active.filter fun g => isVideo g.tag).foldl (fun s g => s.lossReport g.tag) s

theorem State.lcuTeardown_eq (s : State) : s.lcuTeardown = { s.videosLost with lcu := .reset } := rfl

/-- The loss of a run of videos, at one berth. -/
theorem State.lossReports_feed (b : Fin 4) : ∀ (l : List Grant) (s : State), let t := l.foldl (fun s g => s.lossReport g.tag) s
    t.feed b = l.foldl (fun f g => f.afterItem (s.configured b) (some g.tag)) (s.feed b) := by
  intro l
  induction l with
  | nil => exact fun _ => rfl
  | cons g l ih =>
    intro s
    have hconf : (s.lossReport g.tag).configured b = s.configured b := State.configured_of_cfl rfl b
    dsimp only at ih ⊢
    rw [List.foldl_cons, List.foldl_cons, ih, hconf, State.lossReport_feed]
    rfl

theorem State.lcuTeardown_feed {s : State} {b : Fin 4} {g : Grant} (hg : g ∈ s.lcu.active) (hvideo : isVideo g.tag = true)
    (hconf : s.configured b = true) (hfeed : (s.feed b).video = some g.tag) (hstate : (s.feed b).state = .following) :
    s.lcuTeardown.feed b = (s.feed b).awaitsKey := by
  have hlost := State.lossReports_feed b (s.lcu.active.filter fun g => isVideo g.tag) s
  refine hlost.trans ((foldl_afterItem (s.configured b) (fun g : Grant => some g.tag) _ (s.feed b)).1 ?_)
  exact ⟨hconf, hstate, g.tag, hfeed, g, List.mem_filter.2 ⟨hg, hvideo⟩, rfl⟩

/-! ### The announcements (R103) -/

section anu
variable (s : State)

/-- R103: one entry's part of the teardown. -/
def State.entryTeardown (s : State) (i : Fin 16) : State := if (s.anu.entries.get i).state = .free then s else s.freeNow i

theorem State.anuTeardown_eq : s.anuTeardown = announcementIndices.foldl State.entryTeardown s := rfl

theorem State.entryTeardown_other (a i : Fin 16) (h : i ≠ a) :
    (s.entryTeardown a).anu.entries.get i = s.anu.entries.get i := by
  unfold State.entryTeardown
  split
  · rfl
  · rw [State.freeNow_entries, Table.get_set_of_ne _ _ (Ne.symm h)]

theorem State.entryTeardown_self (i : Fin 16) : ((s.entryTeardown i).anu.entries.get i).state = .free := by
  unfold State.entryTeardown
  split
  · next h => exact h
  · rw [State.freeNow_entries, Table.get_set_self]
    rfl

theorem State.anuTeardown_entries : (∀ i, i ≠ 0 → (s.anuTeardown.anu.entries.get i).state = .free) ∧
    s.anuTeardown.anu.entries.get 0 = s.anu.entries.get 0 := by
  have hat := fun i => foldl_at (V := fun (t : State) i => t.anu.entries.get i) (f := State.entryTeardown)
    (fun t a i h => t.entryTeardown_other a i h) announcementIndices_nodup s i
  rw [State.anuTeardown_eq]
  refine ⟨fun i hi => ?_, (hat 0).1 (by simp [mem_announcementIndices])⟩
  obtain ⟨u, -, hend⟩ := (hat i).2 (mem_announcementIndices.2 hi)
  rw [show _ = _ from hend]
  exact u.entryTeardown_self i

/-- What the end of every follow that names an entry keeps. -/
theorem State.endFollows_quiet (i : Fin 16) (b : Fin 4) : (s.feed b).QuietStays ((s.endFollows i).feed b) ∧
    (s.endFollows i).cmu.rx = s.cmu.rx ∧ (s.endFollows i).cmu.prescaler = s.cmu.prescaler := by
  rw [State.endFollows_eq]
  refine foldl_keeps (I := fun t : State => (s.feed b).QuietStays (t.feed b) ∧ t.cmu.rx = s.cmu.rx ∧
    t.cmu.prescaler = s.cmu.prescaler) (fun t a ht => ?_) (indices 4) ⟨Feed.QuietStays.refl _, rfl, rfl⟩
  obtain ⟨hfeed, hrx, hprescaler⟩ := ht
  unfold State.endFollow
  split
  · have hkept : (t.publish a .nothing).cmu.prescaler = t.cmu.prescaler := by
      rw [State.publish_cmu, State.wkuFollowChange_cmu]
      split
      · unfold Cmu.put
        split <;> rfl
      · rfl
    exact ⟨hfeed.trans (t.publish_quietStays a .nothing b), (t.publish_rx a .nothing).trans hrx, hkept.trans hprescaler⟩
  · exact ⟨hfeed, hrx, hprescaler⟩

theorem State.anuTeardown_keeps (b : Fin 4) : (s.feed b).QuietStays (s.anuTeardown.feed b) ∧
    s.anuTeardown.cmu.missed = s.cmu.missed ∧ s.anuTeardown.cmu.prescaler = s.cmu.prescaler ∧
    s.anuTeardown.anu.zones = s.anu.zones := by
  rw [State.anuTeardown_eq]
  refine foldl_keeps (I := fun t : State => (s.feed b).QuietStays (t.feed b) ∧ t.cmu.missed = s.cmu.missed ∧
    t.cmu.prescaler = s.cmu.prescaler ∧ t.anu.zones = s.anu.zones) (fun t i ht => ?_) announcementIndices
    ⟨Feed.QuietStays.refl _, rfl, rfl, rfl⟩
  obtain ⟨hfeed, hmissed, hprescaler, hzones⟩ := ht
  unfold State.entryTeardown
  split
  · exact ⟨hfeed, hmissed, hprescaler, hzones⟩
  · obtain ⟨hquiet, -, hkept⟩ := (t.setEntry i .freedNow).endFollows_quiet i b
    obtain ⟨-, hmissed', hzones'⟩ := t.freeNow_keeps i
    exact ⟨hfeed.trans hquiet, hmissed'.trans hmissed, hkept.trans hprescaler, hzones'.trans hzones⟩

end anu

/-! ### The entry to LISTEN (R12) -/

/-- R12: what the entry to LISTEN leaves of the counters of the trunk. -/
theorem State.enterListen_trunk (s : State) : s.sameTrunkCounters s.enterListen := by
  unfold State.sameTrunkCounters State.enterListen
  simp

/-- R41, R80, R103, R122: what the entry to LISTEN leaves, block by block. -/
structure LinkDropped (s t : State) : Prop where
  tlu : t.tlu = s.tlu.listen
  kept : t.pending = s.pending ∧ t.cfl = s.cfl ∧ t.svl = s.svl ∧ t.asp = s.asp
  trunk : s.sameTrunkCounters t
  slots : (∀ k, t.smu.map.get k = .clear) ∧ (∀ k, t.smu.running.get k = 0) ∧ (∀ k, t.smu.collected.get k = none) ∧ t.smu.locator = []
  holdings : ∀ h, t.holding h = (s.holding h).tornDown
  lcu : t.lcu = .reset
  receivers : ∀ i, t.cmu.rx.get i = .reset
  messages : t.cmu.missed = s.cmu.missed ∧ t.cmu.prescaler = s.cmu.prescaler
  freed : ∀ i, i ≠ 0 → (t.anu.entries.get i).state = .free
  alert : t.anu.entries.get 0 = s.anu.entries.get 0 ∧ t.anu.zones = s.anu.zones
  losses : ∀ b, ∀ g ∈ s.lcu.active, isVideo g.tag = true → s.configured b = true → (s.feed b).video = some g.tag →
    (s.feed b).state = .following → (t.feed b).state = .waitKey ∧ (t.feed b).waitKey = some 3000

theorem State.enterListen_dropped (s : State) : LinkDropped s s.enterListen := by
  have hframe := s.enterListen_frame
  have hholding := fun h => ({ s with tlu := s.tlu.listen } : State).smuTeardown_holding h
  have hsmu := congrArg State.smu ({ s with tlu := s.tlu.listen } : State).smuTeardown_eq
  have hcmu := ({ s with tlu := s.tlu.listen } : State).smuTeardown_cmu
  have hkept : ({ s with tlu := s.tlu.listen } : State).smuTeardown.lcu = s.lcu ∧
      ({ s with tlu := s.tlu.listen } : State).smuTeardown.cfl = s.cfl ∧
      ({ s with tlu := s.tlu.listen } : State).smuTeardown.sfu = s.sfu ∧
      ({ s with tlu := s.tlu.listen } : State).smuTeardown.anu = s.anu := by simp
  have heq : s.enterListen = ({ s with tlu := s.tlu.listen } : State).smuTeardown.lcuTeardown.anuTeardown.cmuTeardown := rfl
  have htlu := s.enterListen_tlu
  have htrunk := s.enterListen_trunk
  generalize ({ s with tlu := s.tlu.listen } : State).smuTeardown = u at *
  generalize s.enterListen = t at *
  obtain ⟨hpending, hcfl, hsvl, hasp, -⟩ := hframe
  obtain ⟨hlcu, hucfl, hsfu, hanu⟩ := hkept
  have hwanu : u.lcuTeardown.anu = s.anu ∧ u.lcuTeardown.cmu = u.cmu ∧ u.lcuTeardown.smu = u.smu ∧ u.lcuTeardown.lcu = .reset := by
    simp [hanu, State.lcuTeardown]
  have hlost : ∀ b, ∀ g ∈ s.lcu.active, isVideo g.tag = true → s.configured b = true → (s.feed b).video = some g.tag →
      (s.feed b).state = .following → u.lcuTeardown.feed b = (u.feed b).awaitsKey := fun b g hg hvideo hconf hfeed hstate => by
    have hufeed : u.feed b = s.feed b := by rw [State.feed, hsfu]; rfl
    exact State.lcuTeardown_feed (by rw [hlcu]; exact hg) hvideo ((State.configured_of_cfl hucfl b).trans hconf)
      (by rw [hufeed, hfeed]) (by rw [hufeed, hstate])
  generalize u.lcuTeardown = w at *
  obtain ⟨hwanu, hwcmu, hwsmu, hwlcu⟩ := hwanu
  obtain ⟨hentries, hzero⟩ := w.anuTeardown_entries
  obtain ⟨-, hmissed, hprescaler, hzones⟩ := w.anuTeardown_keeps 0
  have hquiet := fun b => (w.anuTeardown_keeps b).1
  have hrest : w.anuTeardown.smu = w.smu ∧ w.anuTeardown.lcu = w.lcu := by simp
  generalize w.anuTeardown = v at *
  have hget : ∀ {α : Type} (n : Nat) (x : α) (k : Fin n), (Table.replicate n x).get k = x := fun _ _ _ => Table.get_replicate _ _
  have htsmu : t.smu = u.smu := by rw [heq]; exact hrest.1.trans hwsmu
  have htcmu : t.cmu = { v.cmu with rx := Table.replicate 4 .reset } := by rw [heq]; rfl
  have htanu : t.anu = v.anu := by rw [heq]; rfl
  refine ⟨htlu, ⟨hpending, hcfl, hsvl, hasp⟩, htrunk, ?_, fun h => ?_, ?_, fun i => ?_, ?_, ?_, ?_, fun b g hg hvideo hconf hfeed hstate => ?_⟩
  · rw [htsmu, hsmu]
    exact ⟨fun k => hget _ _ _, fun k => hget _ _ _, fun k => hget _ _ _, rfl⟩
  · rw [State.holding, htsmu]
    exact hholding h
  · rw [heq]
    exact hrest.2.trans hwlcu
  · rw [htcmu]
    exact hget _ _ _
  · rw [htcmu]
    exact ⟨hmissed.trans (by rw [hwcmu]; exact hcmu.1), hprescaler.trans (by rw [hwcmu]; exact hcmu.2)⟩
  · rw [htanu]
    exact hentries
  · rw [htanu, hzero, hzones, hwanu]
    exact ⟨rfl, rfl⟩
  · have hstays := hquiet b
    rw [hlost b g hg hvideo hconf hfeed hstate] at hstays
    obtain ⟨hstate', -, hwait', -⟩ := hstays (by simp [Feed.awaitsKey])
    have hfeeds : t.feed b = v.feed b := by rw [heq]; rfl
    rw [hfeeds, hstate', hwait']
    exact ⟨rfl, rfl⟩

/-- Settles O14. -/
theorem followOnlyNodeDropsTheLink : Obligations.FollowOnlyNodeDropsTheLink := by
  intro s helig hlink hcount
  have htake : s.takeFramesSinceForeign = (s.bump .linkDrops).enterListen := by
    have hdue : s.foreignDue = true := decide_eq_true ⟨hlink, hcount⟩
    rw [State.takeFramesSinceForeign, if_pos hdue, helig]
    rfl
  refine ⟨(s.bump .linkDrops).enterListen, by rw [← htake]; rfl, ?_⟩
  obtain ⟨htlu, ⟨hpending, hcfl, hsvl, hasp⟩, ⟨hearly, -, hslips, hdrops⟩, ⟨hmap, hrunning, hcollected, hlocator⟩, hholdings, hlcu, hrx,
    ⟨hmissed, hprescaler⟩, hfreed, ⟨hzero, hzones⟩, hlosses⟩ := (s.bump .linkDrops).enterListen_dropped
  generalize (s.bump .linkDrops).enterListen = t at *
  have hget : ∀ {α : Type} (n : Nat) (x : α) (k : Fin n), (Table.replicate n x).get k = x := fun _ _ _ => Table.get_replicate _ _
  have hcounter : ∀ c, (s.bump .linkDrops).counter c = if Counter.linkDrops = c then satInc (s.counter c) else s.counter c :=
    State.counter_bump _ _
  refine ⟨by rw [htlu]; rfl, ?_, ?_, hdrops.trans ((hcounter _).trans (if_pos rfl)), hearly.trans ((hcounter .earlyMarks).trans (if_neg (by decide))),
    hslips.trans ((hcounter .cycleSlips).trans (if_neg (by decide))), fun k => ⟨hmap k, hrunning k, hcollected k⟩, hlocator, fun h => ?_,
    by rw [hlcu]; rfl, by rw [hlcu]; rfl, ?_, ?_, hlosses, fun i => by rw [hrx i]; rfl, hmissed, hprescaler, hfreed, hzero, hzones, hpending,
    hcfl, hsvl, hasp⟩
  · rw [htlu]
    exact fun h => hget _ _ _
  · rw [htlu]
    exact fun k => hget _ _ _
  · dsimp only
    rw [hholdings h]
    exact (s.holding h).tornDown_spec
  · rw [hlcu]
    exact fun l => congrArg Lane.tag (hget 24 Lane.free l)
  · rw [hlcu]
    exact fun a => congrArg Assembler.tag (hget 8 Assembler.free a)

end Sys2Proof.Machine
end

section
/-!
PROOFS. The pairs of the berths (R117, R155 to R158): samples, limited sums, and the frame starts that compute and send them (O44).
-/

namespace Sys2Proof.Machine

/-! ### Samples (R117, R156) -/

section sample
variable {s t : State}

/-- A search through a table. -/
theorem table_find?_eq_some {α : Type} {n : Nat} {t : Table n α} {p : α → Bool} {x : α} (h : t.toList.find? p = some x) :
    ∃ i, t.get i = x ∧ p x = true := by
  have hmem := List.mem_of_find?_eq_some h
  rw [table_toList, List.mem_map] at hmem
  obtain ⟨i, -, hi⟩ := hmem
  exact ⟨i, hi, List.find?_some h⟩

theorem table_find?_eq_none {α : Type} {n : Nat} {t : Table n α} {p : α → Bool} (h : t.toList.find? p = none) (i : Fin n) :
    p (t.get i) = false := by
  rw [List.find?_eq_none] at h
  exact Bool.eq_false_iff.2 (h (t.get i) (by rw [table_toList]; exact List.mem_map.2 ⟨i, List.mem_finRange i, rfl⟩))

theorem State.sampleOf_absent {a : Byte} (h : ∀ k, (s.lcu.lanes.get k).tag ≠ some a) : s.sampleOf (some a) = 0 := by
  unfold State.sampleOf
  dsimp only
  split
  · next l hl =>
    obtain ⟨i, rfl, hi⟩ := table_find?_eq_some hl
    exact absurd (of_decide_eq_true hi) (h i)
  · rfl

theorem State.sampleOf_lane {a : Byte} {l : Fin 24} (hl : (s.lcu.lanes.get l).tag = some a)
    (honly : ∀ k, (s.lcu.lanes.get k).tag = some a → k = l) : s.sampleOf (some a) = (s.lcu.lanes.get l).lastGood := by
  unfold State.sampleOf
  dsimp only
  split
  · next x hx =>
    obtain ⟨i, rfl, hi⟩ := table_find?_eq_some hx
    rw [honly i (of_decide_eq_true hi)]
  · next hnone =>
    have hno := table_find?_eq_none hnone l
    rw [hl] at hno
    simp at hno

theorem State.sampleOf_congr (h : ∀ l, (t.lcu.lanes.get l).tag = (s.lcu.lanes.get l).tag ∧
    (t.lcu.lanes.get l).lastGood = (s.lcu.lanes.get l).lastGood) (tag : Option Byte) : t.sampleOf tag = s.sampleOf tag := by
  have hvalue : ∀ u : State, ∀ a : Byte, u.sampleOf (some a) =
      (((List.finRange 24).find? fun l => decide ((u.lcu.lanes.get l).tag = some a)).map fun l =>
        (u.lcu.lanes.get l).lastGood).getD 0 := fun u a => by
    unfold State.sampleOf
    dsimp only
    rw [table_toList, List.find?_map]
    simp only [Function.comp_def]
    cases (List.finRange 24).find? fun l => decide ((u.lcu.lanes.get l).tag = some a) <;> rfl
  cases tag with
  | none => rfl
  | some a =>
    rw [hvalue, hvalue]
    simp only [h]

end sample

/-! ### Pairs (R155 to R157) -/

/-- What a pair takes of a mixing state. -/
def MixBerth.sounds (m : MixBerth) : Bool × Level × Level × Level := (m.flag, m.programme.cur, m.headset.cur, m.pillow.cur)

theorem State.pairOf_congr {s t : State} {b : Fin 4} (hlanes : ∀ l, (t.lcu.lanes.get l).tag = (s.lcu.lanes.get l).tag ∧
    (t.lcu.lanes.get l).lastGood = (s.lcu.lanes.get l).lastGood) (hcfl : t.cfl = s.cfl)
    (hchoice : (t.bcu.get b).choice = (s.bcu.get b).choice) (hfollow : t.anu.follow = s.anu.follow)
    (hentries : t.anu.entries = s.anu.entries) (hsounds : (t.mix.get b).sounds = (s.mix.get b).sounds) :
    t.pairOf b = s.pairOf b := by
  obtain ⟨hflag, hprogramme, hheadset, hpillow⟩ : _ ∧ _ ∧ _ ∧ _ := by
    simpa only [MixBerth.sounds, Prod.mk.injEq] using hsounds
  have htag : t.followTag b = s.followTag b := by rw [State.followTag, hfollow, hentries]; rfl
  simp only [State.pairOf, State.sampleOf_congr hlanes, State.cfg_congr hcfl, hchoice, htag, hflag, hprogramme, hheadset, hpillow]

/-- R157: the limit to 16 bits. -/
theorem limit16_spec (x : Int) : (x > 32767 → limit16 x = 32767) ∧ (x < -32768 → limit16 x = -32768) ∧
    (-32768 ≤ x → x ≤ 32767 → limit16 x = x) := by
  unfold limit16
  omega

/-! ### A frame start (R156, R158) -/

section start
variable {s u : State} {fs : FrameStart} {e : FrameEnd} {n : Nat}

theorem State.startEnded_pair (v : State) (b : Fin 4) : ((v.startEnded fs e).mix.get b).pair =
    if e.isData = true ∧ v.configured b = true then v.pairOf b else (v.mix.get b).pair := by
  have hmix : (v.dataFrameEnd e fs.order).mix = v.mixFrameEnd.mix := by
    unfold State.dataFrameEnd
    dsimp only
    split <;> simp
  unfold State.startEnded
  cases hdata : e.isData with
  | true =>
    rw [if_pos rfl, hmix]
    simp only [State.mixFrameEnd, Table.get_mapIdx, true_and]
    split <;> rfl
  | false => simp

/-- R158: the words that a data frame start sends. -/
theorem State.feedFrame_mix (o : FrameOrder) {v : State} (h : v.tlu.frame ≠ 0) (b : Fin 4) : (v.feedFrame e o).mix.get b =
    if v.configured b = true then
      { v.mix.get b with hdat := BitVec.ofInt 16 (v.mix.get b).pair.1, pdat := BitVec.ofInt 16 (v.mix.get b).pair.2 }
    else { v.mix.get b with hdat := 0, pdat := 0 } := by
  have hmix : (v.feedFrame e o).mix = v.aspFrameStart.mixFrameStart.mix := by
    unfold State.feedFrame
    dsimp only
    repeat' split
    all_goals simp
  have hconf : v.aspFrameStart.configured b = v.configured b := State.configured_of_cfl (by simp) b
  have hframe : ¬v.aspFrameStart.tlu.frame = 0 := by simpa using h
  rw [hmix, State.mixFrameStart, if_neg hframe]
  dsimp only
  rw [Table.get_mapIdx, hconf]
  simp

theorem State.feedFrame_bfs (o : FrameOrder) (v : State) : (v.feedFrame e o).bfs = decide (v.tlu.frame ≠ 0) := by
  have hbfs : (v.feedFrame e o).bfs = v.aspFrameStart.mixFrameStart.bfs := by
    unfold State.feedFrame
    dsimp only
    repeat' split
    all_goals simp
  have hframe : v.aspFrameStart.tlu = v.tlu := by simp
  rw [hbfs, State.mixFrameStart, hframe]
  by_cases h : v.tlu.frame = 0 <;> simp [h]

/-- What the frame start leaves of a berth's sound before its data frame end. -/
structure SoundKept (s v : State) (b : Fin 4) : Prop where
  cfl : v.cfl = s.cfl
  pair : v.pairOf b = s.pairOf b
  sent : (v.mix.get b).pair = (s.mix.get b).pair ∧ (v.mix.get b).hdat = (s.mix.get b).hdat ∧ (v.mix.get b).pdat = (s.mix.get b).pdat

theorem Lane.frameEnd_lastGood (l : Lane) : l.frameEnd.tag = l.tag ∧ l.frameEnd.lastGood = l.lastGood := by
  unfold Lane.frameEnd
  split <;> exact ⟨rfl, rfl⟩

theorem State.startLanes_samples (v : State) (l : Fin 24) : ((v.startLanes e).lcu.lanes.get l).tag = (v.lcu.lanes.get l).tag ∧
    ((v.startLanes e).lcu.lanes.get l).lastGood = (v.lcu.lanes.get l).lastGood := by
  rw [State.startLanes_lanes]
  split
  · rw [Table.get_map]
    exact Lane.frameEnd_lastGood _
  · exact ⟨rfl, rfl⟩

theorem FrameBegun.sound_kept (h : FrameBegun s u n) (b : Fin 4) : SoundKept s (u.discardCollected.startLanes e) b ∧
    SoundKept s (((u.discardCollected.cycleTick fs).startLanes e).startAlert fs true) b := by
  obtain ⟨-, hcfl, -, -, -, -, -, hanu, hlcu, hbcu, -, hmix, -⟩ := h.fields
  obtain ⟨-, htbcu, htmix, -, -, -, -, htanu⟩ := u.discardCollected.cycleTick_fields fs
  have hmixed : ((u.discardCollected.startLanes e).mix.get b) = s.mix.get b := by simp [hmix]
  have hticked : (((u.discardCollected.cycleTick fs).startLanes e).startAlert fs true).mix.get b = (s.mix.get b).tick := by
    simp [htmix, hmix]
  have hanu' : (((u.discardCollected.cycleTick fs).startLanes e).startAlert fs true).anu.follow = s.anu.follow ∧
      (((u.discardCollected.cycleTick fs).startLanes e).startAlert fs true).anu.entries = s.anu.entries := by
    have halert : ∀ v : State, (v.startAlert fs true).anu.follow = v.anu.follow ∧
        (v.startAlert fs true).anu.entries = v.anu.entries := fun v => by
      unfold State.startAlert
      split <;> exact ⟨rfl, rfl⟩
    rw [(halert _).1, (halert _).2, (State.startLanes_frame _ _).2.2.2.2.2.2.2.2.1, htanu, ← hanu]
    split <;> exact ⟨rfl, rfl⟩
  refine ⟨⟨by simp [hcfl], State.pairOf_congr (fun l => ?_) (by simp [hcfl]) (by simp [hbcu]) (by simp [hanu]) (by simp [hanu])
    (by rw [hmixed]), by rw [hmixed]; exact ⟨rfl, rfl, rfl⟩⟩, ⟨by simp [hcfl], State.pairOf_congr (fun l => ?_) (by simp [hcfl]) ?_
    hanu'.1 hanu'.2 (by rw [hticked]; rfl), by rw [hticked]; exact ⟨rfl, rfl, rfl⟩⟩⟩
  · rw [(State.startLanes_samples _ l).1, (State.startLanes_samples _ l).2]
    simp [hlcu]
  · simp only [State.startAlert_frame]
    rw [(State.startLanes_samples _ l).1, (State.startLanes_samples _ l).2]
    simp [hlcu]
  · simp only [State.startAlert_frame, State.startLanes_frame]
    rw [htbcu, State.bcuTick]
    dsimp only
    rw [Table.get_mapIdx, show u.discardCollected.bcu = s.bcu from hbcu]
    split <;> rfl

/-- R156, R158: the pairs of a plain frame start on the trunk. -/
theorem FrameBegun.start_pairs (h : FrameBegun s u n) (hplain : fs.plain) (hlink : u.tlu.link ≠ .listen) (hwas : e.wasListen = false)
    (b : Fin 4) :
    let m := s.mix.get b
    let x := (u.startFrame fs e).mix.get b
    let pair := if e.isData = true ∧ s.configured b = true then s.pairOf b else m.pair
    (u.startFrame fs e).bfs = decide (n ≠ 0) ∧ x.pair = pair ∧
    (n = 0 → x.hdat = m.hdat ∧ x.pdat = m.pdat) ∧
    (n ≠ 0 → s.configured b = true → x.hdat = BitVec.ofInt 16 pair.1 ∧ x.pdat = BitVec.ofInt 16 pair.2) ∧
    (n ≠ 0 → s.configured b = false → x.hdat = 0 ∧ x.pdat = 0) := by
  have hended : ∀ v : State, SoundKept s v b → ((v.startEnded fs e).mix.get b).pair =
      (if e.isData = true ∧ s.configured b = true then s.pairOf b else (s.mix.get b).pair) ∧
      ((v.startEnded fs e).mix.get b).hdat = (s.mix.get b).hdat ∧ ((v.startEnded fs e).mix.get b).pdat = (s.mix.get b).pdat := by
    rintro v ⟨hcfl, hpair, hsent, hhdat, hpdat⟩
    refine ⟨?_, ?_, ?_⟩
    · rw [State.startEnded_pair, State.configured_of_cfl hcfl, hpair, hsent]
    · rw [State.startEnded_mix, ← hhdat]
    · rw [State.startEnded_mix, ← hpdat]
  obtain ⟨hdata, htick⟩ := h.sound_kept (fs := fs) (e := e) b
  by_cases hzero : n = 0
  · subst hzero
    have hframe : u.tlu.frame = 0 := h.frame
    obtain ⟨hstart, hprepared⟩ := State.startFrame_tick (fs := fs) hplain hframe hlink hwas
    have hnumber := State.startFrame_tick_frameNumber (fs := fs) (e := e) hplain hframe hlink hwas
    obtain ⟨-, hmix, -⟩ := State.feedFrame_zero_keeps (e := e) fs.order hnumber
    have hsent : (u.startFrame fs e).mix = ((((u.discardCollected.cycleTick fs).startLanes e).startAlert fs true).startEnded fs e).mix := by
      rw [hstart, hmix, hprepared]
      simp
    obtain ⟨hpair, hhdat, hpdat⟩ := hended _ htick
    dsimp only
    rw [hsent, hstart, State.feedFrame_bfs, hnumber]
    exact ⟨rfl, hpair, fun _ => ⟨hhdat, hpdat⟩, fun hne => absurd rfl hne, fun hne => absurd rfl hne⟩
  · have hframe : u.tlu.frame ≠ 0 := by rw [h.frame]; exact hzero
    obtain ⟨hpair, hhdat, hpdat⟩ := hended _ hdata
    have hnumber : ((u.discardCollected.startLanes e).startEnded fs e).tlu.frame ≠ 0 := by simpa using hframe
    have hconf : ((u.discardCollected.startLanes e).startEnded fs e).configured b = s.configured b :=
      State.configured_of_cfl (by simp [h.fields.2.1]) b
    have hmix := State.feedFrame_mix (e := e) fs.order hnumber b
    have hbfs := State.feedFrame_bfs (e := e) fs.order ((u.discardCollected.startLanes e).startEnded fs e)
    rw [hconf] at hmix
    dsimp only
    rw [State.startFrame_noTick hplain hframe]
    simp only [State.startGranted_frame]
    rw [hbfs, decide_eq_true hnumber, decide_eq_true hzero, hmix, ← hpair]
    refine ⟨rfl, ?_, fun h0 => absurd h0 hzero, fun _ hc => ?_, fun _ hc => ?_⟩
    · split <;> rfl
    · rw [if_pos hc]
      exact ⟨rfl, rfl⟩
    · rw [if_neg (by simp [hc])]
      exact ⟨rfl, rfl⟩

end start

/-- A frame that starts in a node that is not in LISTEN starts on the trunk. -/
theorem StartsFrame.onTrunk {s : State} {fs : FrameStart} {n : Nat} {c : Instr} (h : StartsFrame s fs n c) (hlink : s.tlu.link ≠ .listen) :
    s.tlu.link = .locked ∨ s.tlu.link = .leading := by
  rcases h with ⟨-, -, -, h | ⟨h, -⟩⟩ | ⟨run, start, -, -, -, ⟨-, -, h⟩ | ⟨-, -, h⟩⟩
  · exact absurd h hlink
  · exact .inl h
  · cases hl : s.tlu.link with
    | loading => exact absurd hl h
    | listen => exact absurd hl hlink
    | locked => exact .inl rfl
    | leading => exact .inr rfl
  · exact h

/-- Settles O44. -/
theorem pairsAreLimitedSums : Obligations.PairsAreLimitedSums := by
  refine ⟨fun c k fs s hdue hplain hstart hlink => ?start, fun s a l => ⟨rfl, State.sampleOf_absent, State.sampleOf_lane⟩,
    fun s b => ⟨fun e he => ?_, fun he => ?_, rfl, fun i => rfl⟩, fun s b => ?sums⟩
  case start =>
    obtain ⟨u, hexec, hbegun⟩ := startsFrame_begins hdue hstart
    have htrunk := hstart.onTrunk hlink
    have hstill : u.tlu.link ≠ .listen := by rcases hbegun.trunk htrunk with h | h <;> rw [h] <;> nofun
    have hwas : (s.frameEnd false).wasListen = false := decide_eq_false hlink
    have hpairs := fun b => hbegun.start_pairs (e := s.frameEnd false) hplain hstill hwas b
    have hdata := FrameEnd.isData_frameEnd (s := s) (cut := false)
    refine ⟨_, hexec, (hpairs 0).1, fun b => ?_⟩
    obtain ⟨-, hpair, hzero, hsent, hquiet⟩ := hpairs b
    simp only [hdata] at hpair hsent
    intro m x sent
    refine ⟨fun hconf => ⟨fun h1 => hpair.trans (if_pos ⟨h1, hconf⟩), fun h1 hk => ?_, fun h0 hk => ?_⟩, fun hconf hk => hquiet hk hconf,
      hzero⟩
    · rw [if_pos ⟨h1, hconf⟩] at hsent
      exact hsent hk hconf
    · have hnot : ¬(1 ≤ s.tlu.frame ∧ s.configured b = true) := fun hand => by omega
      rw [if_neg hnot] at hsent
      exact ⟨hpair.trans (if_neg hnot), hsent hk hconf⟩
  case sums =>
    dsimp only
    refine ⟨fun hflag => ?_, fun hflag => ?_, fun hflag => ?_, fun hflag => ?_, ?_⟩
    · simp [State.pairOf, hflag]
    · rw [State.pairOf]
      dsimp only
      rw [if_pos hflag]
      exact (limit16_spec _).1
    · rw [State.pairOf]
      dsimp only
      rw [if_pos hflag]
      exact (limit16_spec _).2.1
    · rw [State.pairOf]
      dsimp only
      rw [if_pos hflag]
      exact (limit16_spec _).2.2
    · exact (limit16_spec _).2.2
  · rw [State.followTag, he]
    rfl
  · rw [State.followTag, he]
    rfl

end Sys2Proof.Machine
end

section
/-!
PROOFS. The out queue (R66 to R72): SEND, the hand-over of a message, and the frame starts that send it (O52).
-/

namespace Sys2Proof.Machine

/-! ### SEND (R67) -/

section send
variable {kind len : Byte} {payload : List Byte} {s : State}

theorem State.sendEffect_bad (h : len.toNat ≠ payload.length ∨ parseMessage kind payload = none) :
    s.sendEffect (0x01 :: kind :: len :: payload) = s.reply 0x01 .bad [] := by
  have hnone : (if len.toNat = payload.length then parseMessage kind payload else none) = none := by
    split
    · next heq => exact h.resolve_left fun hne => hne heq
    · rfl
  unfold State.sendEffect
  simp only [List.getD_cons_succ, List.getD_cons_zero, List.drop_succ_cons, List.drop_zero, hnone]

theorem State.sendEffect_message {m : Message} (hlen : len.toNat = payload.length) (hparse : parseMessage kind payload = some m) :
    s.sendEffect (0x01 :: kind :: len :: payload) =
      if 4 ≤ s.cmu.serviceItems then s.reply 0x01 .busy [] else (s.appendServiceMessage m).replyOk 0x01 [] := by
  unfold State.sendEffect
  simp only [List.getD_cons_succ, List.getD_cons_zero, List.drop_succ_cons, List.drop_zero, hlen, hparse, if_true]

end send

/-! ### The hand-over of a message (R68) -/

theorem replaceOrigin_at {o : Origin} {bytes : List Byte} {q : QueueItem} {after : List QueueItem} (hq : q.origin = o) :
    ∀ {before : List QueueItem}, (∀ x ∈ before, x.origin ≠ o) →
      replaceOrigin o bytes (before ++ q :: after) = before ++ ⟨o, bytes, none⟩ :: after := by
  intro before
  induction before with
  | nil => exact fun _ => if_pos hq
  | cons x before ih =>
    intro h
    have hx : ¬x.origin = o := h x List.mem_cons_self
    rw [List.cons_append, replaceOrigin, if_neg hx, ih fun y hy => h y (List.mem_cons_of_mem _ hy)]
    rfl

theorem Cmu.put_new {o : Origin} {c : Cmu} (h : ∀ q ∈ c.queue, q.origin ≠ o) (bytes : List Byte) :
    c.put o bytes = { c with queue := c.queue ++ [⟨o, bytes, none⟩] } := by
  have hnone : ¬hasOrigin o c.queue = true := by
    rw [hasOrigin, List.any_eq_true]
    rintro ⟨q, hq, horigin⟩
    exact h q hq (of_decide_eq_true horigin)
  rw [Cmu.put, if_neg hnone]

theorem Cmu.put_replaces {o : Origin} {c : Cmu} {before after : List QueueItem} {q : QueueItem} (hqueue : c.queue = before ++ q :: after)
    (hq : q.origin = o) (hbefore : ∀ x ∈ before, x.origin ≠ o) (bytes : List Byte) : c.put o bytes = { c with
      queue := before ++ ⟨o, bytes, none⟩ :: after, pos := if before = [] then none else c.pos } := by
  have hsome : hasOrigin o c.queue = true := by
    rw [hasOrigin, List.any_eq_true]
    exact ⟨q, by simp [hqueue], decide_eq_true hq⟩
  rw [Cmu.put, if_pos hsome, hqueue, replaceOrigin_at hq hbefore]
  cases before with
  | nil => simp [hq]
  | cons x before => simp [hbefore x List.mem_cons_self]

/-! ### The message that is sent (R70 to R72) -/

/-- R72: no message is in transmission or marked as sent. -/
def Cmu.Rests (c : Cmu) : Prop := c.pos = none ∧ ∀ q, c.queue.head? = some q → q.sentIn = none

/-- The messages that wait, whatever was sent of them. -/
def Cmu.items (c : Cmu) : List (Origin × List Byte) := c.queue.map fun q => (q.origin, q.bytes)

/-- R72: the message starts again if it was begun. -/
def Cmu.rested (c : Cmu) : Cmu := if c.busy then c.restart else c

section rest
variable (c : Cmu)

theorem Cmu.busy_iff : c.busy = true ↔ c.pos ≠ none ∨ ∃ q, c.queue.head? = some q ∧ q.sentIn ≠ none := by
  unfold Cmu.busy
  cases c.queue <;> simp [Option.isSome_iff_ne_none]

theorem Cmu.rests_of_idle (h : c.busy = false) : c.Rests := by
  have hnot := mt c.busy_iff.2 (by simp [h])
  obtain ⟨hpos, hhead⟩ := not_or.1 hnot
  exact ⟨not_not.1 hpos, fun q hq => not_not.1 fun hsent => hhead ⟨q, hq, hsent⟩⟩

theorem Cmu.rests_restart : c.restart.Rests := by
  refine ⟨rfl, fun q hq => ?_⟩
  unfold Cmu.restart at hq
  cases hqueue : c.queue with
  | nil => simp [hqueue] at hq
  | cons x rest =>
    rw [hqueue] at hq
    exact (Option.some.inj hq) ▸ rfl

theorem Cmu.rests_rested : c.rested.Rests := by
  unfold Cmu.rested
  split
  · exact c.rests_restart
  · next h => exact c.rests_of_idle (by simpa using h)

theorem Cmu.items_restart : c.restart.items = c.items := by
  simp [Cmu.items, Cmu.restart]

theorem Cmu.items_rested : c.rested.items = c.items := by
  unfold Cmu.rested
  split
  · exact c.items_restart
  · rfl

theorem Cmu.rested_fixed : c.rested.fixed = c.fixed := by
  unfold Cmu.rested
  split <;> rfl

theorem Cmu.frameEnd_abandoned (held : Bool) (frame : Nat) : c.frameEnd held true frame = c.rested := rfl

/-- R71: the end of a data frame takes the message that was marked as sent in it. -/
theorem Cmu.frameEnd_whole (held : Bool) (frame : Nat) : (c.frameEnd held false frame).pos = c.pos ∧
    (held = true → (∀ q rest, c.queue = q :: rest → q.sentIn = some frame → (c.frameEnd held false frame).queue = rest) ∧
      ((∀ q rest, c.queue = q :: rest → q.sentIn ≠ some frame) → (c.frameEnd held false frame).queue = c.queue)) ∧
    (held = false → (c.frameEnd held false frame).queue = c.queue) := by
  unfold Cmu.frameEnd
  cases held with
  | false => exact ⟨rfl, nofun, fun _ => rfl⟩
  | true =>
    refine ⟨rfl, fun _ => ⟨fun q rest hqueue hq => ?_, fun hnot => ?_⟩, nofun⟩
    · simp [hqueue, hq]
    · cases hqueue : c.queue with
      | nil => rfl
      | cons q rest => simp [hnot q rest hqueue]

theorem Cmu.items_feed (held silenced : Bool) (frame : Nat) : (c.feed held silenced frame).items = c.items := by
  have hfix : (c.fix frame).items = c.items := by
    unfold Cmu.fix
    cases hqueue : c.queue with
    | nil => simp [Cmu.items, hqueue]
    | cons q rest =>
      dsimp only
      repeat' split
      all_goals simp [Cmu.items, hqueue]
  unfold Cmu.feed
  split
  · split
    · exact c.items_rested
    · exact hfix
  · rfl

/-- R70 to R72: the byte that a data frame start fixes. -/
theorem Cmu.feed_spec (held silenced : Bool) (next : Nat) :
    MessageByteFixed held silenced next c.pos c.queue (c.feed held silenced next) := by
  unfold MessageByteFixed Cmu.feed
  dsimp only
  refine ⟨fun hheld hsil => ?_, fun hheld hsil => ?_, fun hheld => ?_⟩
  · rw [hheld, hsil]
    simp only [if_true, if_neg Bool.false_ne_true]
    refine ⟨fun hqueue => ?_, fun q rest hqueue => ?_⟩
    · rw [Cmu.fix, hqueue]
      exact ⟨rfl, rfl⟩
    · have hgives : ∀ i, c.fix next = (if i + 1 = q.bytes.length then
          { c with fixed := some (q.bytes.getD i 0, decide (i = 0)), pos := none, queue := { q with sentIn := some next } :: rest }
        else { c with fixed := some (q.bytes.getD i 0, decide (i = 0)), pos := some (i + 1) }) →
          (c.fix next).fixed = some (q.bytes.getD i 0, decide (i = 0)) ∧
          (i + 1 = q.bytes.length → (c.fix next).pos = none ∧ (c.fix next).queue = { q with sentIn := some next } :: rest) ∧
          (i + 1 ≠ q.bytes.length → (c.fix next).pos = some (i + 1) ∧ (c.fix next).queue = c.queue) := fun i hi => by
        rw [hi]
        split
        · next hlast => exact ⟨rfl, fun _ => ⟨rfl, rfl⟩, fun hne => absurd hlast hne⟩
        · next hmore => exact ⟨rfl, fun h => absurd h hmore, fun _ => ⟨rfl, rfl⟩⟩
      refine ⟨fun i hpos => hgives i ?_, fun hpos hsent => hgives 0 ?_, fun hpos hsent => ?_⟩
      · rw [Cmu.fix, hqueue]
        dsimp only
        rw [hpos]
      · rw [Cmu.fix, hqueue]
        dsimp only
        rw [hpos]
        dsimp only
        rw [if_pos (Option.isNone_iff_eq_none.2 hsent)]
      · have hfix : c.fix next = { c with fixed := some (0x00, false) } := by
          rw [Cmu.fix, hqueue]
          dsimp only
          rw [hpos]
          dsimp only
          rw [if_neg (fun h => hsent (Option.isNone_iff_eq_none.1 h))]
        rw [hfix]
        exact ⟨rfl, rfl⟩
  · rw [hheld, hsil]
    exact ⟨rfl, c.rests_rested.1, c.rests_rested.2⟩
  · rw [hheld]
    exact ⟨rfl, rfl, rfl⟩

end rest

/-! ### The frame start -/

section start
variable {s u : State} {fs : FrameStart} {e : FrameEnd} {n : Nat}

theorem State.startEnded_cmu (v : State) : (v.startEnded fs e).cmu =
    if e.isData = true ∧ fs.order.cmuStartFirst = false then v.cmu.frameEnd (v.held cmuHolding) e.abandoned e.ended else v.cmu := by
  have hheld : (v.mixFrameEnd.rspFrameEnd e.ended).held cmuHolding = v.held cmuHolding := State.held_congr (by simp) _
  unfold State.startEnded State.dataFrameEnd
  cases e.isData <;> cases fs.order.cmuStartFirst
  · simp
  · simp
  · simp [State.cmuFrameEnd, hheld]
  · simp

theorem State.feedFrame_cmu {v : State} (h : v.tlu.frame ≠ 0) : let c := v.cmu.feed (v.held cmuHolding) (v.tlu.silenced.get cmuHolding) v.tlu.frame
    (v.feedFrame e fs.order).cmu = if e.isData = true ∧ fs.order.cmuStartFirst = true then
      c.frameEnd (v.held cmuHolding) e.abandoned e.ended else c := by
  have hframe : ¬v.aspFrameStart.mixFrameStart.tlu.frame = 0 := by simpa using h
  have hheld : v.aspFrameStart.mixFrameStart.rspFeed.held cmuHolding = v.held cmuHolding := State.held_congr (by simp) _
  have hheld' : v.aspFrameStart.mixFrameStart.rspFeed.cmuFeed.held cmuHolding = v.held cmuHolding := State.held_congr (by simp) _
  have hfed : v.aspFrameStart.mixFrameStart.rspFeed.cmuFeed.cmu =
      v.cmu.feed (v.held cmuHolding) (v.tlu.silenced.get cmuHolding) v.tlu.frame := by
    rw [State.cmuFeed, hheld]
    simp
  unfold State.feedFrame
  dsimp only
  rw [if_neg hframe, ← hfed]
  cases e.isData <;> cases fs.order.cmuStartFirst
  · simp
  · simp
  · simp
  · simp [State.cmuFrameEnd, hheld']

/-- R70 to R72: the CMU at the start of a data frame, the end of the frame before it taken first or last. -/
theorem FrameBegun.start_cmu (h : FrameBegun s u n) (hplain : fs.plain) (hn : n ≠ 0) :
    let held := s.held cmuHolding
    let silenced := s.tlu.silenced.get cmuHolding
    let ended (c : Cmu) : Cmu := if e.isData = true then c.frameEnd held e.abandoned e.ended else c
    (fs.order.cmuStartFirst = false → (u.startFrame fs e).cmu = (ended s.cmu).feed held silenced n) ∧
    (fs.order.cmuStartFirst = true → (u.startFrame fs e).cmu = ended (s.cmu.feed held silenced n)) := by
  obtain ⟨-, -, -, hsmu, -, -, hcmu, -⟩ := h.fields
  have hne : u.tlu.frame ≠ 0 := by rw [h.frame]; exact hn
  have hheld : ∀ t : State, t.smu = u.discardCollected.smu → t.held cmuHolding = s.held cmuHolding := fun t ht => by
    rw [State.held, State.holding, ht, State.discardCollected, hsmu]
    rfl
  have hlanes : (u.discardCollected.startLanes e).held cmuHolding = s.held cmuHolding := hheld _ (by simp)
  have hended : ((u.discardCollected.startLanes e).startEnded fs e).held cmuHolding = s.held cmuHolding := hheld _ (by simp)
  have hnumber : ((u.discardCollected.startLanes e).startEnded fs e).tlu.frame ≠ 0 := by simpa using hne
  have hfeed := State.feedFrame_cmu (fs := fs) (e := e) hnumber
  have htlu : ((u.discardCollected.startLanes e).startEnded fs e).tlu = u.tlu := by simp
  have hbefore : (u.discardCollected.startLanes e).cmu = s.cmu := by simp [hcmu]
  rw [State.startEnded_cmu, hended, hlanes, hbefore, htlu, h.frame, h.ticked.1] at hfeed
  dsimp only at hfeed ⊢
  rw [State.startFrame_noTick hplain hne, (State.startGranted_frame _).2.2.2.2.2.2.2.1, hfeed]
  cases e.isData <;> cases fs.order.cmuStartFirst <;> simp

theorem State.smuTick_cmu (v : State) : (v.smuTick.cmu.items = v.cmu.items) ∧ (v.cmu.Rests → v.smuTick.cmu.Rests) := by
  have hticked : v.holdingsTicked.cmu.items = v.cmu.items ∧ (v.cmu.Rests → v.holdingsTicked.cmu.Rests) := by
    refine v.holdingsTicked_keeps (I := fun t => t.cmu.items = v.cmu.items ∧ (v.cmu.Rests → t.cmu.Rests)) (fun t g ht => ?_)
      ⟨rfl, id⟩
    rcases t.holdingTick_cmu g with heq | heq <;> rw [heq]
    · exact ht
    · exact ⟨t.cmu.items_restart.trans ht.1, fun _ => t.cmu.rests_restart⟩
  rw [State.smuTick_eq]
  generalize v.holdingsTicked = w at hticked ⊢
  exact hticked

/-- R72: a tick that cuts a data frame leaves the message to be sent from its start. -/
theorem State.startFrame_cutTick (hplain : fs.plain) (hframe : u.tlu.frame = 0) (hlink : u.tlu.link ≠ .listen) (hwas : e.wasListen = false)
    (hdata : e.isData = true) (hcut : e.abandoned = true) :
    (u.startFrame fs e).cmu.items = u.cmu.items ∧ (u.startFrame fs e).cmu.Rests := by
  obtain ⟨hstart, hprepared⟩ := State.startFrame_tick (fs := fs) hplain hframe hlink hwas
  have hnumber := State.startFrame_tick_frameNumber (fs := fs) (e := e) hplain hframe hlink hwas
  have htick : (((u.discardCollected.cycleTick fs).startLanes e).startAlert fs true).cmu = { u.cmu with prescaler := u.cmu.prescaler - 1 } := by
    simp only [State.startAlert_frame, State.startLanes_frame]
    exact (u.discardCollected.cycleTick_fields fs).2.2.2.2.2.2.1
  have hended := State.startEnded_cmu (fs := fs) (e := e) (((u.discardCollected.cycleTick fs).startLanes e).startAlert fs true)
  rw [← hprepared, htick] at hended
  rw [hstart]
  obtain ⟨hitems, hrests⟩ := (u.startPrepared fs e true).smuTick_cmu
  cases horder : fs.order.cmuStartFirst with
  | false =>
    obtain ⟨-, -, -, -, -, hcmu⟩ := State.feedFrame_zero_keeps (e := e) fs.order hnumber
    rw [if_pos ⟨hdata, horder⟩, hcut, Cmu.frameEnd_abandoned] at hended
    rw [hcmu (.inr horder)]
    rw [hended] at hitems hrests
    exact ⟨hitems.trans (Cmu.items_rested _), hrests (Cmu.rests_rested _)⟩
  | true =>
    rw [if_neg (by simp [horder])] at hended
    have hlast : ((u.startPrepared fs e true).smuTick.feedFrame e fs.order).cmu = (u.startPrepared fs e true).smuTick.cmu.rested := by
      rw [State.feedFrame_zero fs.order hnumber, hdata, horder]
      simp [State.cmuFrameEnd, hcut, Cmu.frameEnd_abandoned]
    rw [hlast]
    rw [hended] at hitems
    exact ⟨(Cmu.items_rested _).trans hitems, Cmu.rests_rested _⟩

end start

/-- Settles O52. -/
theorem sendQueuesOrRefuses : Obligations.SendQueuesOrRefuses := by
  refine ⟨fun kind len payload s hpayload hreply hcommand => ?send, fun o bytes c => ⟨fun h => Cmu.put_new h bytes,
    fun before q after hqueue hq hbefore => Cmu.put_replaces hqueue hq hbefore bytes⟩,
    fun c n fs s hdue hplain horder hstart hn => ?start, fun run start fs s hdue hplain hrun hlow hhigh hlink hfollow hframe => ?cut⟩
  case send =>
    intro answer
    have hkind : classify (0x01 :: kind :: len :: payload) = .send := by
      simp [classify]
      omega
    have hexec := exec_command (i := .send) (k := .send) rfl hreply hcommand hkind
    rw [hexec]
    refine ⟨fun hbad => ?_, fun m hlen hparse hfull => ?_, fun m hlen hparse hroom => ?_⟩
    · exact congrArg _ (State.sendEffect_bad (s := s.commandTaken) hbad)
    · exact congrArg _ ((State.sendEffect_message (s := s.commandTaken) hlen hparse).trans (if_pos hfull))
    · exact congrArg _ ((State.sendEffect_message (s := s.commandTaken) hlen hparse).trans (if_neg (Nat.not_le.2 hroom)))
  case start =>
    intro left
    obtain ⟨u, hexec, hbegun⟩ := startsFrame_begins hdue hstart
    obtain ⟨hlate, -⟩ := hbegun.start_cmu (e := s.frameEnd false) hplain hn
    refine ⟨_, hexec, fun queue hleft => ?_⟩
    obtain ⟨hheld, hstill⟩ := hleft
    have hspec := Cmu.feed_spec (if (s.frameEnd false).isData = true then s.cmu.frameEnd (s.held cmuHolding) false s.tlu.frame else s.cmu)
      (s.held cmuHolding) (s.tlu.silenced.get cmuHolding) n
    obtain ⟨hpos, htaken, hrest⟩ := s.cmu.frameEnd_whole (s.held cmuHolding) s.tlu.frame
    have hended : (if (s.frameEnd false).isData = true then s.cmu.frameEnd (s.held cmuHolding) false s.tlu.frame else s.cmu).pos = s.cmu.pos ∧
        (if (s.frameEnd false).isData = true then s.cmu.frameEnd (s.held cmuHolding) false s.tlu.frame else s.cmu).queue = queue := by
      by_cases hdata : 1 ≤ s.tlu.frame
      · rw [if_pos (FrameEnd.isData_frameEnd.2 hdata)]
        refine ⟨hpos, ?_⟩
        cases hh : s.held cmuHolding with
        | true =>
          obtain ⟨hgone, hkept⟩ := hheld hdata hh
          obtain ⟨hgone', hkept'⟩ := htaken hh
          rw [hh] at hgone' hkept'
          by_cases hsent : ∃ q rest, s.cmu.queue = q :: rest ∧ q.sentIn = some s.tlu.frame
          · obtain ⟨q, rest, hqueue, hq⟩ := hsent
            rw [hgone q rest hqueue hq, hgone' q rest hqueue hq]
          · have hnot : ∀ q rest, s.cmu.queue = q :: rest → q.sentIn ≠ some s.tlu.frame :=
              fun q rest hqueue hq => hsent ⟨q, rest, hqueue, hq⟩
            rw [hkept hnot, hkept' hnot]
        | false =>
          rw [hh] at hrest
          rw [hrest rfl, hstill (.inr hh)]
      · rw [if_neg (by rwa [FrameEnd.isData_frameEnd])]
        exact ⟨rfl, (hstill (.inl (by omega))).symm⟩
    rw [hlate horder]
    rw [hended.1, hended.2] at hspec
    exact hspec
  case cut =>
    intro n fixes busy
    have hpos : 0 < start := hlow
    have htrunk : s.onTrunk = true := State.onTrunk_iff.2 hlink
    have hne : s.tlu.link ≠ .loading := by rcases hlink with h | h <;> simp [h]
    have hmid : isMidFrame start = true := isMidFrame_iff.2 ⟨hlow, hhigh⟩
    have hexec := (exec_markRecognised hdue (Nat.le_trans hhigh (by decide)) (run := run) (fs := fs)).trans (congrArg _
      (State.markOutcome_starts hrun hne (State.isOpeningMark_late hpos)
        (fun ⟨_, _, hignore⟩ => nomatch hfollow.symm.trans hignore)))
    have hbegun : FrameBegun s (s.markBegun (runForm run) start) n := by
      have hnum : frameAfter (runForm run) s.tlu.frame = n := frameAfter_run _ _
      rw [← hnum]
      exact markBegun_begun _ _ _
    have hwas : (s.frameEnd (isMidFrame start)).wasListen = false := by rcases hlink with h | h <;> simp [State.frameEnd, h]
    have hdata : (s.frameEnd (isMidFrame start)).isData = true := FrameEnd.isData_frameEnd.2 hframe
    have hcut : (s.frameEnd (isMidFrame start)).abandoned = true := hmid
    have hstill : (s.markBegun (runForm run) start).tlu.link ≠ .listen := by rcases hbegun.trunk hlink with h | h <;> rw [h] <;> nofun
    have hcmu : (s.markBegun (runForm run) start).cmu = s.cmu := hbegun.fields.2.2.2.2.2.2.1
    refine ⟨_, hexec, ?_⟩
    generalize s.frameEnd (isMidFrame start) = e at hwas hdata hcut ⊢
    generalize s.markBegun (runForm run) start = u at hbegun hstill hcmu ⊢
    by_cases hzero : n = 0
    · obtain ⟨hitems, hrests⟩ := State.startFrame_cutTick hplain (hbegun.frame.trans hzero) hstill hwas hdata hcut
      rw [hcmu] at hitems
      exact ⟨hitems, fun _ => hrests, fun h => absurd hzero h, fun h => absurd hzero h⟩
    · obtain ⟨hlate, hfirst⟩ := hbegun.start_cmu (e := e) hplain hzero
      simp only [hdata, if_true, hcut, Cmu.frameEnd_abandoned] at hlate hfirst
      cases horder : fs.order.cmuStartFirst with
      | false =>
        have hspec := s.cmu.rested.feed_spec (s.held cmuHolding) (s.tlu.silenced.get cmuHolding) n
        rw [hlate horder]
        refine ⟨(Cmu.items_feed _ _ _ _).trans s.cmu.items_rested, fun h => (nomatch h.resolve_left hzero), fun _ h => (nomatch h),
          fun _ _ => ⟨fun hbusy => ?_, fun hidle => ?_⟩⟩
        · have hrested : s.cmu.rested = s.cmu.restart := if_pos (s.cmu.busy_iff.2 hbusy)
          rw [hrested] at hspec ⊢
          exact hspec
        · have hnot : s.cmu.busy = false := Bool.eq_false_iff.2 fun h => hidle (s.cmu.busy_iff.1 h)
          have hrested : s.cmu.rested = s.cmu := if_neg (by simp [hnot])
          rw [hrested, (s.cmu.rests_of_idle hnot).1] at hspec
          rw [hrested]
          exact hspec
      | true =>
        have hspec := s.cmu.feed_spec (s.held cmuHolding) (s.tlu.silenced.get cmuHolding) n
        rw [hfirst horder]
        exact ⟨(Cmu.items_rested _).trans (Cmu.items_feed _ _ _ _), fun _ => Cmu.rests_rested _,
          fun _ _ => ⟨_, hspec, Cmu.rested_fixed _⟩, fun _ h => nomatch h⟩

end Sys2Proof.Machine
end

section
/-!
PROOFS. Records that the screens take (R178 to R180, R183, R187): KEY, DELTA, END and the records that are none of them (O48).
-/

namespace Sys2Proof.Machine

/-! ### A feed that takes a record (R180, R187) -/

/-- R180: a record joins the queue. -/
def Feed.appended (r : List Byte) (f : Feed) : Feed := { f with queue := f.queue ++ [r] }

/-- R180: a KEY begins the programme, behind the clear base. -/
def Feed.keyed (r : List Byte) (f : Feed) : Feed :=
  { (f.showsBase .none).appended r with state := .following, waitKey := none }

/-- R187: a record was dropped. -/
def Feed.dropped (f : Feed) : Feed := if f.state = .waitKey then f else { f with state := .waitKey, waitKey := some 3000 }

/-- R180: the END of the feed video. -/
def Feed.atEnd (f : Feed) : Feed := ({ f with state := .ended, waitKey := none } : Feed).showsBase .rest

/-- R187: a record fits behind what waits. -/
def Feed.fits (r : List Byte) (f : Feed) : Bool := decide (queueBytes f.queue + r.length ≤ queueLimit)

/-- R187: a KEY fits behind the clear base. -/
def Feed.keyFits (r : List Byte) (f : Feed) : Bool := decide (f.bytesAfterClear + r.length ≤ queueLimit)

section take
variable (b : Fin 4) (r : List Byte) (s : State)

/-- What a berth's part of a record's delivery leaves: another feed, and a count where a record was dropped. -/
structure FeedTaken (s t : State) (b : Fin 4) (g : Feed) (drops : Bool) : Prop where
  feed : t.feed b = g
  others : ∀ c, c ≠ b → t.feed c = s.feed c
  inbox : t.sfu.inbox = s.sfu.inbox
  counter : t.counter .queueDrops = if drops = true then satInc (s.counter .queueDrops) else s.counter .queueDrops

theorem State.setFeed_taken (g : Feed) : FeedTaken s (s.setFeed b g) b g false :=
  ⟨s.setFeed_feed_self b g, fun _ hc => s.setFeed_feed_other b hc g, rfl, rfl⟩

theorem State.dropRecord_taken : FeedTaken s (s.dropRecord b) b (s.feed b).dropped true := by
  obtain ⟨hfeed, hothers, hinbox, -⟩ := s.setFeed_taken b (s.feed b).dropped
  exact ⟨hfeed, hothers, hinbox, (State.counter_bump _ _ _).trans (if_pos rfl)⟩

theorem State.appendRecord_taken : FeedTaken s (s.appendRecord b r) b
    (if (s.feed b).fits r = true then (s.feed b).appended r else (s.feed b).dropped) (!(s.feed b).fits r) := by
  unfold State.appendRecord
  dsimp only
  cases hfits : (s.feed b).fits r with
  | true =>
    rw [if_pos (of_decide_eq_true hfits), if_pos rfl]
    exact s.setFeed_taken b _
  | false =>
    rw [if_neg (of_decide_eq_false hfits), if_neg Bool.false_ne_true]
    exact s.dropRecord_taken b

/-- A base card that fits, or that needs no room, drops nothing. -/
theorem State.showBase_taken (c : BaseCard) (hroom : (s.feed b).base ≠ c →
    (({ s.feed b with base := c } : Feed).placeCard (baseRecord c)).2 = 0) :
    FeedTaken s (s.showBase b c) b ((s.feed b).showsBase c) false := by
  refine ⟨s.showBase_feed b c, fun d hd => s.showBase_feed_other b hd c, s.showBase_inbox b c, ?_⟩
  by_cases hsame : (s.feed b).base = c
  · rw [s.showBase_same b hsame]
    rfl
  · rw [s.showBase_differs b hsame, State.placeCard]
    dsimp only
    rw [State.setFeed_feed_self, hroom hsame]
    rfl

theorem FeedTaken.trans {s u t : State} {b : Fin 4} {f g : Feed} {d : Bool} (h : FeedTaken s u b f false) (k : FeedTaken u t b g d) :
    FeedTaken s t b g d := by
  refine ⟨k.feed, fun c hc => (k.others c hc).trans (h.others c hc), k.inbox.trans h.inbox, ?_⟩
  rw [k.counter, h.counter]
  rfl

theorem State.beginAtKey_taken : FeedTaken s (s.beginAtKey b r) b
    (if (s.feed b).keyFits r = true then (s.feed b).keyed r else (s.feed b).dropped) (!(s.feed b).keyFits r) := by
  unfold State.beginAtKey
  cases hfits : (s.feed b).keyFits r with
  | true =>
    rw [if_pos (of_decide_eq_true hfits), if_pos rfl]
    have hroom : (s.feed b).base ≠ .none → (({ s.feed b with base := .none } : Feed).placeCard (baseRecord .none)).2 = 0 := fun hne => by
      have hle : (s.feed b).bytesAfterClear + r.length ≤ queueLimit := of_decide_eq_true hfits
      rw [Feed.bytesAfterClear, if_neg hne] at hle
      rw [Feed.placeCard_fits ({ s.feed b with base := .none } : Feed) (Nat.le_trans (Nat.le_add_right _ _) hle)]
    have hshown := s.showBase_taken b .none hroom
    refine hshown.trans ?_
    dsimp only
    rw [hshown.feed]
    exact State.setFeed_taken b _ _
  | false =>
    rw [if_neg (of_decide_eq_false hfits), if_neg Bool.false_ne_true]
    exact s.dropRecord_taken b

/-- R180: what a KEY makes of the feed of its video, and whether it is dropped. -/
def Feed.takesKey (r : List Byte) (f : Feed) : Feed × Bool :=
  match f.state with
  | .off => (f, false)
  | .following => (if f.fits r = true then f.appended r else f.dropped, !f.fits r)
  | .waitKey | .ended => (if f.keyFits r = true then f.keyed r else f.dropped, !f.keyFits r)

/-- R180: what a DELTA makes of the feed of its video, and whether it is dropped. -/
def Feed.takesDelta (r : List Byte) (f : Feed) : Feed × Bool :=
  if f.state = .following then (if f.fits r = true then f.appended r else f.dropped, !f.fits r) else (f, false)

theorem State.same_taken : FeedTaken s s b (s.feed b) false := ⟨rfl, fun _ _ => rfl, rfl, rfl⟩

theorem State.feedTake_key (h : r.getD 0 0 = typeKey) :
    FeedTaken s (s.feedTake b r) b ((s.feed b).takesKey r).1 ((s.feed b).takesKey r).2 := by
  have hne : ¬typeKey = typeEnd := by decide
  unfold State.feedTake Feed.takesKey
  dsimp only
  rw [h, if_neg hne, if_pos rfl]
  cases (s.feed b).state with
  | off => exact s.same_taken b
  | following => exact s.appendRecord_taken b r
  | waitKey => exact s.beginAtKey_taken b r
  | ended => exact s.beginAtKey_taken b r

theorem State.feedTake_delta (h : r.getD 0 0 = typeDelta) :
    FeedTaken s (s.feedTake b r) b ((s.feed b).takesDelta r).1 ((s.feed b).takesDelta r).2 := by
  have hend : ¬typeDelta = typeEnd := by decide
  have hkey : ¬typeDelta = typeKey := by decide
  unfold State.feedTake Feed.takesDelta
  dsimp only
  rw [h, if_neg hend, if_neg hkey, if_neg hend]
  cases (s.feed b).state with
  | off => exact s.same_taken b
  | following => exact s.appendRecord_taken b r
  | waitKey => exact s.same_taken b
  | ended => exact s.same_taken b

theorem State.feedTake_end (h : r.getD 0 0 = typeEnd) :
    (s.feedTake b r).feed b = (if (s.feed b).state = .following ∨ (s.feed b).state = .waitKey then (s.feed b).atEnd else s.feed b) ∧
      (∀ c, c ≠ b → (s.feedTake b r).feed c = s.feed c) ∧ (s.feedTake b r).sfu.inbox = s.sfu.inbox := by
  have hkey : ¬typeEnd = typeKey := by decide
  have hended : (s.endFeed b).feed b = (s.feed b).atEnd ∧ (∀ c, c ≠ b → (s.endFeed b).feed c = s.feed c) ∧
      (s.endFeed b).sfu.inbox = s.sfu.inbox := by
    unfold State.endFeed Feed.atEnd
    refine ⟨?_, fun c hc => ?_, ?_⟩
    · rw [State.showBase_feed, State.setFeed_feed_self]
    · rw [State.showBase_feed_other b _ hc, State.setFeed_feed_other b s hc]
    · rw [State.showBase_inbox]
      rfl
  unfold State.feedTake
  dsimp only
  rw [h, if_pos rfl, if_neg hkey, if_pos rfl]
  cases (s.feed b).state with
  | off => exact ⟨rfl, fun _ _ => rfl, rfl⟩
  | following => exact hended
  | waitKey => exact hended
  | ended => exact ⟨rfl, fun _ _ => rfl, rfl⟩

/-- R183: a KEY of the pending video taken into the feed. -/
def Feed.switched (tag : Byte) (r : List Byte) (f : Feed) : Feed :=
  { (f.dropProgramme.showsBase .none).appended r with video := some tag, state := .following, waitKey := none }

theorem State.keySwitchFeed_taken (tag : Byte) :
    FeedTaken s (s.keySwitchFeed b tag r) b ((s.feed b).switched tag r) false := by
  have hdropped := s.setFeed_taken b (s.feed b).dropProgramme
  have hself := s.setFeed_feed_self b (s.feed b).dropProgramme
  have hshown := (s.setFeed b (s.feed b).dropProgramme).showBase_taken b .none fun _ => by
    rw [hself, Feed.placeCard_of_cards ({ (s.feed b).dropProgramme with base := .none } : Feed) (isCardRecord_baseRecord _)
      (s.feed b).dropProgramme_cards]
  rw [hself] at hshown
  unfold State.keySwitchFeed
  refine (hdropped.trans hshown).trans ?_
  dsimp only
  rw [hshown.feed]
  exact State.setFeed_taken b _ _

end take

/-! ### The berth that is offered a record (R131, R179, R183) -/

/-- R183: a KEY of `tag` completes the berth's pending switch. -/
def State.switchesAt (s : State) (tag : Byte) (b : Fin 4) : Prop :=
  ∃ ch, (s.bcu.get b).pendingChoice = some ch ∧ s.cfg.videoOf ch = some tag

section offer
variable {tag : Byte} {r : List Byte} {b : Fin 4} {s : State}

theorem State.offerRecord_switch {ch : Choice} (hkey : r.getD 0 0 = typeKey) (hpending : (s.bcu.get b).pendingChoice = some ch)
    (hvideo : s.cfg.videoOf ch = some tag) : s.offerRecord tag r b = (s.keySwitchFeed b tag r).completeSwitch b ch .keyRecord := by
  unfold State.offerRecord
  rw [hpending]
  exact if_pos ⟨hkey, hvideo⟩

theorem State.offerRecord_take (hnot : ¬(r.getD 0 0 = typeKey ∧ s.switchesAt tag b)) (hvideo : (s.feed b).video = some tag) :
    s.offerRecord tag r b = s.feedTake b r := by
  unfold State.offerRecord
  cases hpending : (s.bcu.get b).pendingChoice with
  | none => exact if_pos hvideo
  | some ch => exact (if_neg fun h => hnot ⟨h.1, ch, hpending, h.2⟩).trans (if_pos hvideo)

theorem State.offerRecord_pass (hnot : ¬(r.getD 0 0 = typeKey ∧ s.switchesAt tag b)) (hvideo : (s.feed b).video ≠ some tag) :
    s.offerRecord tag r b = s := by
  unfold State.offerRecord
  cases hpending : (s.bcu.get b).pendingChoice with
  | none => exact if_neg hvideo
  | some ch => exact (if_neg fun h => hnot ⟨h.1, ch, hpending, h.2⟩).trans (if_neg hvideo)

/-- The three ways in which a berth is offered a record. -/
theorem State.offerRecord_ways (tag : Byte) (r : List Byte) (b : Fin 4) (s : State) :
    (r.getD 0 0 = typeKey ∧ s.switchesAt tag b) ∨
    (¬(r.getD 0 0 = typeKey ∧ s.switchesAt tag b) ∧ (s.feed b).video = some tag ∧ s.offerRecord tag r b = s.feedTake b r) ∨
    (¬(r.getD 0 0 = typeKey ∧ s.switchesAt tag b) ∧ (s.feed b).video ≠ some tag ∧ s.offerRecord tag r b = s) := by
  by_cases hswitch : r.getD 0 0 = typeKey ∧ s.switchesAt tag b
  · exact .inl hswitch
  · by_cases hvideo : (s.feed b).video = some tag
    · exact .inr (.inl ⟨hswitch, hvideo, State.offerRecord_take hswitch hvideo⟩)
    · exact .inr (.inr ⟨hswitch, hvideo, State.offerRecord_pass hswitch hvideo⟩)

/-- R183: a berth whose switch a KEY completes. -/
theorem State.offerRecord_switched {ch : Choice} (hkey : r.getD 0 0 = typeKey) (hpending : (s.bcu.get b).pendingChoice = some ch)
    (hvideo : s.cfg.videoOf ch = some tag) : FeedTaken s (s.offerRecord tag r b) b ((s.feed b).switched tag r) false ∧
      (s.offerRecord tag r b).bcu = s.bcu.set b ((s.bcu.get b).switched ch) := by
  obtain ⟨hfeed, hothers, hinbox, hcounter⟩ := s.keySwitchFeed_taken b r tag
  rw [State.offerRecord_switch hkey hpending hvideo]
  refine ⟨⟨hfeed, hothers, hinbox, hcounter⟩, ?_⟩
  rw [State.completeSwitch_bcu]
  simp

/-- A record of a type that the feeds take. -/
def takenType (r : List Byte) : Prop := r.getD 0 0 = typeKey ∨ r.getD 0 0 = typeDelta ∨ r.getD 0 0 = typeEnd

theorem State.feedTake_others (h : takenType r) (b : Fin 4) (s : State) :
    (∀ c, c ≠ b → (s.feedTake b r).feed c = s.feed c) ∧ (s.feedTake b r).sfu.inbox = s.sfu.inbox := by
  rcases h with h | h | h
  · exact ⟨(s.feedTake_key b r h).others, (s.feedTake_key b r h).inbox⟩
  · exact ⟨(s.feedTake_delta b r h).others, (s.feedTake_delta b r h).inbox⟩
  · exact (s.feedTake_end b r h).2

theorem State.offerRecord_other (h : takenType r) (s : State) (a b : Fin 4) (hab : b ≠ a) :
    (s.offerRecord tag r a).switchView b = s.switchView b := by
  rcases State.offerRecord_ways tag r a s with ⟨hkey, ch, hpending, hvideo⟩ | ⟨-, -, heq⟩ | ⟨-, -, heq⟩
  · obtain ⟨⟨-, hothers, -, -⟩, hbcu⟩ := State.offerRecord_switched hkey hpending hvideo
    rw [State.switchView, hbcu, Table.get_set_of_ne _ _ (Ne.symm hab), hothers b hab]
    simp [State.switchView]
  · rw [heq, State.switchView, (State.feedTake_others h a s).1 b hab]
    simp [State.switchView]
  · rw [heq]

theorem State.offerRecord_inbox (h : takenType r) (s : State) (a : Fin 4) : (s.offerRecord tag r a).sfu.inbox = s.sfu.inbox := by
  rcases State.offerRecord_ways tag r a s with ⟨hkey, ch, hpending, hvideo⟩ | ⟨-, -, heq⟩ | ⟨-, -, heq⟩
  · exact (State.offerRecord_switched hkey hpending hvideo).1.inbox
  · rw [heq]
    exact (State.feedTake_others h a s).2
  · rw [heq]

theorem State.offerRecord_bcu (hnot : r.getD 0 0 ≠ typeKey) (s : State) (a : Fin 4) : (s.offerRecord tag r a).bcu = s.bcu := by
  rcases State.offerRecord_ways tag r a s with ⟨hkey, -⟩ | ⟨-, -, heq⟩ | ⟨-, -, heq⟩
  · exact absurd hkey hnot
  · rw [heq]
    simp
  · rw [heq]

end offer

/-! ### The delivery to every configured berth (R179) -/

/-- R179: the state in which a delivered record has left the inbox. -/
def State.inboxTaken (s : State) (rest : List (Byte × List Byte)) : State := { s with sfu := { s.sfu with inbox := rest } }

/-- R179: the record is offered to every configured berth. -/
def State.recordOffered (s : State) (tag : Byte) (r : List Byte) : State := s.configuredBerths.foldl (fun s b => s.offerRecord tag r b) s

section delivery
variable {tag : Byte} {r : List Byte} {rest : List (Byte × List Byte)} {s : State}

theorem State.recordOffered_eq : s.recordOffered tag r = s.configuredBerths.foldl (fun s b => s.offerRecord tag r b) s := rfl

theorem exec_recordDelivered (h : s.sfu.inbox = (tag, r) :: rest) : exec .recordDelivered s =
    .next (if deliverable r = true then (s.inboxTaken rest).recordOffered tag r else (s.inboxTaken rest).bump .recordCheckErrors) := by
  rw [exec_of_event (e := .recordDelivered) rfl]
  refine congrArg _ ?_
  rw [State.recordOffered_eq]
  simp only [takeEvent, State.takeRecord, h]
  rfl

theorem State.offerRecord_only (t : State) (tag : Byte) (r : List Byte) (b : Fin 4) : t.offerRecord tag r b = { t with
    bcu := (t.offerRecord tag r b).bcu, sfu := (t.offerRecord tag r b).sfu, counters := (t.offerRecord tag r b).counters } := by
  ext1 <;> simp

/-- What the delivery leaves of the rest of the state. -/
theorem State.recordOffered_rest (h : takenType r) : s.recordOffered tag r = { s with
      bcu := (s.recordOffered tag r).bcu, sfu := (s.recordOffered tag r).sfu, counters := (s.recordOffered tag r).counters } ∧
    (s.recordOffered tag r).sfu.inbox = s.sfu.inbox ∧ (r.getD 0 0 ≠ typeKey → (s.recordOffered tag r).bcu = s.bcu) := by
  rw [State.recordOffered_eq]
  refine ⟨?_, ?_, fun hnot => ?_⟩
  · exact foldl_keeps (I := fun t : State => t = { s with bcu := t.bcu, sfu := t.sfu, counters := t.counters })
      (fun t b ht => (t.offerRecord_only tag r b).trans (congrArg (fun v : State => { v with
        bcu := (t.offerRecord tag r b).bcu, sfu := (t.offerRecord tag r b).sfu
        counters := (t.offerRecord tag r b).counters }) ht)) s.configuredBerths rfl
  · exact foldl_keeps (I := fun t : State => t.sfu.inbox = s.sfu.inbox) (fun t b ht => (State.offerRecord_inbox h t b).trans ht)
      s.configuredBerths rfl
  · exact foldl_keeps (I := fun t : State => t.bcu = s.bcu) (fun t b ht => (State.offerRecord_bcu hnot t b).trans ht)
      s.configuredBerths rfl

/-- Each berth is offered the record as it stands. -/
theorem State.recordOffered_at (h : takenType r) (b : Fin 4) :
    (s.configured b = false → (s.recordOffered tag r).switchView b = s.switchView b) ∧
    (s.configured b = true → ∃ u : State, u.switchView b = s.switchView b ∧
      (s.recordOffered tag r).switchView b = (u.offerRecord tag r b).switchView b) := by
  obtain ⟨hout, hin⟩ := foldl_at (V := State.switchView) (f := fun s b => s.offerRecord tag r b)
    (fun t a c hc => State.offerRecord_other h t a c hc) (configuredBerths_nodup s) s b
  rw [← State.recordOffered_eq] at hout hin
  exact ⟨fun hconf => hout (by rw [mem_configuredBerths, hconf]; nofun), fun hconf => hin (mem_configuredBerths.2 hconf)⟩

theorem State.switchView_fields {u : State} {b : Fin 4} (h : u.switchView b = s.switchView b) :
    u.bcu.get b = s.bcu.get b ∧ u.feed b = s.feed b ∧ u.cfl = s.cfl := by
  obtain ⟨h1, h2⟩ := Prod.mk.inj h
  exact ⟨h1, Prod.mk.inj h2⟩

theorem State.switchesAt_congr {u : State} {b : Fin 4} (h : u.switchView b = s.switchView b) :
    u.switchesAt tag b ↔ s.switchesAt tag b := by
  obtain ⟨hbcu, -, hcfl⟩ := State.switchView_fields h
  rw [State.switchesAt, State.switchesAt, hbcu, State.cfg_congr hcfl]

/-- R183: a berth whose pending video the KEY carries. -/
theorem State.recordOffered_switches (hkey : r.getD 0 0 = typeKey) {b : Fin 4} {ch : Choice} (hconf : s.configured b = true)
    (hpending : (s.bcu.get b).pendingChoice = some ch) (hvideo : s.cfg.videoOf ch = some tag) :
    (s.recordOffered tag r).bcu.get b = (s.bcu.get b).switched ch ∧ (s.recordOffered tag r).feed b = (s.feed b).switched tag r := by
  obtain ⟨u, hu, hend⟩ := (State.recordOffered_at (tag := tag) (.inl hkey) b).2 hconf
  obtain ⟨hbcu, hfeed, hcfl⟩ := State.switchView_fields hu
  obtain ⟨htaken, hset⟩ := State.offerRecord_switched (s := u) (b := b) (tag := tag) hkey (by rw [hbcu]; exact hpending)
    (by rw [State.cfg_congr hcfl]; exact hvideo)
  obtain ⟨hb, hf, -⟩ := State.switchView_fields hend
  rw [hb, hf, hset, Table.get_set_self, htaken.feed, hbcu, hfeed]
  exact ⟨rfl, rfl⟩

/-- A berth that is not configured, or whose feed shows another video, keeps its feed. -/
theorem State.recordOffered_passes (h : takenType r) {b : Fin 4} (hpass : s.configured b = false ∨
    (¬(r.getD 0 0 = typeKey ∧ s.switchesAt tag b) ∧ (s.feed b).video ≠ some tag)) :
    (s.recordOffered tag r).feed b = s.feed b ∧ (s.recordOffered tag r).bcu.get b = s.bcu.get b := by
  obtain ⟨hout, hin⟩ := State.recordOffered_at (s := s) (tag := tag) h b
  by_cases hconf : s.configured b = true
  · obtain ⟨u, hu, hend⟩ := hin hconf
    obtain ⟨hnot, hvideo⟩ := hpass.resolve_left (by simp [hconf])
    obtain ⟨-, hfeed, -⟩ := State.switchView_fields hu
    rw [State.offerRecord_pass (by rwa [State.switchesAt_congr hu]) (by rwa [hfeed]), hu] at hend
    obtain ⟨hb, hf, -⟩ := State.switchView_fields hend
    exact ⟨hf, hb⟩
  · obtain ⟨hb, hf, -⟩ := State.switchView_fields (hout (by simpa using hconf))
    exact ⟨hf, hb⟩

/-- A configured berth whose feed shows the record's video takes it. -/
theorem State.recordOffered_takes (h : takenType r) {b : Fin 4} (hconf : s.configured b = true)
    (hnot : ¬(r.getD 0 0 = typeKey ∧ s.switchesAt tag b)) (hvideo : (s.feed b).video = some tag) :
    (s.recordOffered tag r).bcu.get b = s.bcu.get b ∧
    (r.getD 0 0 = typeKey → (s.recordOffered tag r).feed b = ((s.feed b).takesKey r).1) ∧
    (r.getD 0 0 = typeDelta → (s.recordOffered tag r).feed b = ((s.feed b).takesDelta r).1) ∧
    (r.getD 0 0 = typeEnd → (s.recordOffered tag r).feed b =
      if (s.feed b).state = .following ∨ (s.feed b).state = .waitKey then (s.feed b).atEnd else s.feed b) := by
  obtain ⟨u, hu, hend⟩ := (State.recordOffered_at (s := s) (tag := tag) h b).2 hconf
  obtain ⟨hbcu, hfeed, -⟩ := State.switchView_fields hu
  rw [State.offerRecord_take (by rwa [State.switchesAt_congr hu]) (by rwa [hfeed])] at hend
  obtain ⟨hb, hf, -⟩ := State.switchView_fields hend
  rw [hb, hf, ← hbcu, ← hfeed]
  exact ⟨by simp, fun hkey => (u.feedTake_key b r hkey).feed, fun hdelta => (u.feedTake_delta b r hdelta).feed,
    fun hat => (u.feedTake_end b r hat).1⟩

/-- R187: what decides that a berth drops the record. -/
def dropsAt (tag : Byte) (r : List Byte) (v : Berth × Feed × Loader) : Bool :=
  !(decide (r.getD 0 0 = typeKey) && v.1.pendingChoice.any fun ch => decide (v.2.2.config.videoOf ch = some tag)) &&
    decide (v.2.1.video = some tag) &&
    if r.getD 0 0 = typeKey then (v.2.1.takesKey r).2 else (v.2.1.takesDelta r).2

theorem dropsAt_iff {b : Fin 4} : dropsAt tag r (s.switchView b) = true ↔ ¬(r.getD 0 0 = typeKey ∧ s.switchesAt tag b) ∧
    (s.feed b).video = some tag ∧
    (if r.getD 0 0 = typeKey then ((s.feed b).takesKey r).2 else ((s.feed b).takesDelta r).2) = true := by
  have hswitch : ((s.bcu.get b).pendingChoice.any fun ch => decide (s.cfl.config.videoOf ch = some tag)) = true ↔
      s.switchesAt tag b := by
    simp [State.switchesAt, Option.any_eq_true, State.cfg]
  rw [dropsAt, Bool.and_eq_true, Bool.and_eq_true, Bool.not_eq_true', ← Bool.not_eq_true, Bool.and_eq_true, decide_eq_true_eq,
    decide_eq_true_eq, and_assoc]
  exact and_congr_left' (not_congr (and_congr_right fun _ => hswitch))

/-- R187: the records dropped in a delivery of a KEY or a DELTA. -/
theorem State.recordOffered_drops (h : r.getD 0 0 = typeKey ∨ r.getD 0 0 = typeDelta) :
    (s.recordOffered tag r).counter .queueDrops =
      satInc^[(s.configuredBerths.filter fun b => dropsAt tag r (s.switchView b)).length] (s.counter .queueDrops) := by
  have htaken : takenType r := h.imp id .inl
  have hcount : ∀ (t : State) b, (t.offerRecord tag r b).counter .queueDrops =
      if dropsAt tag r (t.switchView b) = true then satInc (t.counter .queueDrops) else t.counter .queueDrops := fun t b => by
    have hiff := dropsAt_iff (s := t) (tag := tag) (r := r) (b := b)
    rcases State.offerRecord_ways tag r b t with ⟨hkey, ch, hpending, hvideo⟩ | ⟨hnot, hvideo, heq⟩ | ⟨-, hvideo, heq⟩
    · rw [if_neg fun hd => (hiff.1 hd).1 ⟨hkey, ch, hpending, hvideo⟩]
      exact (State.offerRecord_switched hkey hpending hvideo).1.counter
    · rw [heq]
      by_cases hkey : r.getD 0 0 = typeKey
      · rw [(t.feedTake_key b r hkey).counter]
        refine if_congr (hiff.trans ?_).symm rfl rfl
        rw [if_pos hkey]
        exact (and_iff_right hnot).trans (and_iff_right hvideo)
      · rw [(t.feedTake_delta b r (h.resolve_left hkey)).counter]
        refine if_congr (hiff.trans ?_).symm rfl rfl
        rw [if_neg hkey]
        exact (and_iff_right hnot).trans (and_iff_right hvideo)
    · rw [heq, if_neg fun hd => hvideo (hiff.1 hd).2.1]
  rw [State.recordOffered_eq]
  exact foldl_counts (f := fun (s : State) b => s.offerRecord tag r b) (V := State.switchView) (P := dropsAt tag r)
    (fun t a c hc => State.offerRecord_other htaken t a c hc) (fun t b hP => (hcount t b).trans (if_pos hP))
    (fun t b hP => (hcount t b).trans (if_neg (by simp [hP]))) (configuredBerths_nodup s) s

end delivery

/-! ### What becomes of the feeds, in the obligation's words -/

section feed
variable (f : Feed) (r : List Byte)

/-- The first waiting card record of the layer of `r`. -/
def sameLayer (r x : List Byte) : Bool := isCardRecord x && decide (recordLayer x = recordLayer r)

theorem queueBytes_append (p q : List (List Byte)) : queueBytes (p ++ q) = queueBytes p + queueBytes q := by
  simp [queueBytes]

theorem queueBytes_replaceLayer (q : List (List Byte)) (h : hasLayer r q = true) :
    queueBytes (replaceLayer r q) + ((q.find? (sameLayer r)).getD []).length = queueBytes q + r.length := by
  induction q with
  | nil => exact absurd h (by simp [hasLayer])
  | cons x q ih =>
    cases hx : sameLayer r x with
    | true =>
      rw [replaceLayer, if_pos (by simpa [sameLayer] using hx), List.find?_cons_of_pos hx]
      simp only [queueBytes, List.map_cons, List.sum_cons, Option.getD_some]
      omega
    | false =>
      have hnot : ¬(isCardRecord x = true ∧ recordLayer x = recordLayer r) := by simpa [sameLayer] using hx
      have hrest := ih (((hasLayer_cons r x q).1 h).resolve_left hnot)
      rw [replaceLayer, if_neg hnot, List.find?_cons_of_neg (by simp [hx])]
      simp only [queueBytes, List.map_cons, List.sum_cons] at hrest ⊢
      omega

/-- R186: the bytes that placing a card record adds: its own, less those of the record it replaces. -/
theorem queueBytes_insertCard (q : List (List Byte)) :
    queueBytes (insertCard r q) + ((q.find? (sameLayer r)).getD []).length = queueBytes q + r.length := by
  unfold insertCard
  split
  · next h => exact queueBytes_replaceLayer r q h
  · next h =>
    have hnone : q.find? (sameLayer r) = none := by
      rw [List.find?_eq_none]
      intro x hx hsame
      exact h (List.any_eq_true.2 ⟨x, hx, hsame⟩)
    have hwhole := congrArg queueBytes (List.takeWhile_append_dropWhile (p := isCardRecord) (l := q))
    rw [queueBytes_append] at hwhole
    rw [hnone, queueBytes_append]
    simp only [queueBytes, List.map_cons, List.sum_cons, Option.getD_none, List.length_nil] at hwhole ⊢
    omega

theorem Feed.bytesAfterClear_eq : f.bytesAfterClear = if f.base = .none then queueBytes f.queue
    else queueBytes f.queue + 5 - ((f.notStarted.find? (sameLayer (baseRecord .none))).getD []).length := by
  have hlength : (baseRecord .none).length = 5 := rfl
  have hinsert := queueBytes_insertCard (baseRecord .none) f.notStarted
  have hwhole := congrArg queueBytes f.inTransit_append_notStarted
  rw [queueBytes_append] at hwhole
  unfold Feed.bytesAfterClear
  split
  · rfl
  · rw [queueBytes_append]
    omega

/-- R180, R187: a feed that takes a KEY. -/
theorem Feed.takesKey_spec : let drops := (f.state = .following ∧ 4096 < queueBytes f.queue + r.length) ∨
      ((f.state = .waitKey ∨ f.state = .ended) ∧ 4096 < f.bytesAfterClear + r.length)
    let g := (f.takesKey r).1
    ((f.takesKey r).2 = true ↔ drops) ∧ (drops → g = f.dropped) ∧
    (¬drops → f.state = .following → g = { f with queue := f.queue ++ [r] }) ∧
    (¬drops → f.state = .waitKey ∨ f.state = .ended →
      g = { f with state := .following, waitKey := none, base := .none, queue := g.queue } ∧
      g.queue.getLast? = some r ∧ (f.base = .none → g.queue = f.queue ++ [r]) ∧ (f.base ≠ .none → clearRecord 0 ∈ g.queue)) ∧
    (f.state = .off → g = f) := by
  have hkeyed : f.state ≠ .following → f.keyed r =
        { f with state := .following, waitKey := none, base := .none, queue := (f.keyed r).queue } ∧
      (f.keyed r).queue.getLast? = some r ∧ (f.base = .none → (f.keyed r).queue = f.queue ++ [r]) ∧
      (f.base ≠ .none → clearRecord 0 ∈ (f.keyed r).queue) := fun hquiet => by
    unfold Feed.keyed Feed.appended Feed.showsBase
    by_cases hbase : f.base = .none
    · rw [if_pos hbase]
      refine ⟨by rw [← hbase], by simp, fun _ => rfl, fun hne => absurd hbase hne⟩
    · rw [if_neg hbase]
      have honly := ({ f with base := .none } : Feed).placeCard_quiet hquiet (baseRecord .none)
      have hmem := ({ f with base := .none } : Feed).mem_placeCard (isCardRecord_baseRecord .none)
      refine ⟨by rw [honly], by simp, fun h => absurd h hbase, fun _ => List.mem_append_left _ hmem⟩
  dsimp only
  unfold Feed.takesKey
  cases hstate : f.state with
  | off => simp
  | following =>
    have hfits : f.fits r = decide (queueBytes f.queue + r.length ≤ 4096) := rfl
    by_cases hroom : queueBytes f.queue + r.length ≤ 4096
    · simp [hfits, hroom, Feed.appended, hstate]
    · simp [hfits, hroom, Nat.lt_of_not_le hroom]
  | waitKey =>
    have hfits : f.keyFits r = decide (f.bytesAfterClear + r.length ≤ 4096) := rfl
    obtain ⟨honly, hlast, hsame, hclear⟩ := hkeyed (by simp [hstate])
    by_cases hroom : f.bytesAfterClear + r.length ≤ 4096
    · simp only [hfits, hroom, decide_true, if_true]
      refine ⟨by simp [hroom], fun h => ?_, nofun, fun _ _ => ⟨honly, hlast, hsame, hclear⟩, nofun⟩
      exact absurd h (by simp [hroom])
    · simp [hfits, hroom, Nat.lt_of_not_le hroom]
  | ended =>
    have hfits : f.keyFits r = decide (f.bytesAfterClear + r.length ≤ 4096) := rfl
    obtain ⟨honly, hlast, hsame, hclear⟩ := hkeyed (by simp [hstate])
    by_cases hroom : f.bytesAfterClear + r.length ≤ 4096
    · simp only [hfits, hroom, decide_true, if_true]
      refine ⟨by simp [hroom], fun h => ?_, nofun, fun _ _ => ⟨honly, hlast, hsame, hclear⟩, nofun⟩
      exact absurd h (by simp [hroom])
    · simp [hfits, hroom, Nat.lt_of_not_le hroom]

/-- R180: a feed that takes a DELTA. -/
theorem Feed.takesDelta_spec : ((f.takesDelta r).2 = true ↔ f.state = .following ∧ 4096 < queueBytes f.queue + r.length) ∧
    (f.state = .following → queueBytes f.queue + r.length ≤ 4096 → (f.takesDelta r).1 = { f with queue := f.queue ++ [r] }) ∧
    (f.state = .following → 4096 < queueBytes f.queue + r.length →
      (f.takesDelta r).1 = { f with state := .waitKey, waitKey := some 3000 }) ∧
    (f.state ≠ .following → (f.takesDelta r).1 = f) := by
  have hfits : f.fits r = decide (queueBytes f.queue + r.length ≤ 4096) := rfl
  unfold Feed.takesDelta
  by_cases hstate : f.state = .following
  · by_cases hroom : queueBytes f.queue + r.length ≤ 4096
    · simp [hstate, hfits, hroom, Feed.appended]
    · simp [hstate, hfits, hroom, Nat.lt_of_not_le hroom, Feed.dropped]
  · simp [hstate]

/-- R180: a feed at the END of its video. -/
theorem Feed.atEnd_spec : f.atEnd = { f with state := .ended, waitKey := none, base := .rest, queue := f.atEnd.queue } ∧
    (f.base = .rest → f.atEnd.queue = f.queue) ∧ (f.base ≠ .rest → cardRecord 0 3 [] ∈ f.atEnd.queue) := by
  unfold Feed.atEnd Feed.showsBase
  by_cases hbase : f.base = .rest
  · rw [if_pos hbase]
    exact ⟨by rw [← hbase], fun _ => rfl, fun hne => absurd hbase hne⟩
  · rw [if_neg hbase]
    have hquiet : ({ f with state := .ended, waitKey := none, base := .rest } : Feed).state ≠ .following := nofun
    exact ⟨Feed.placeCard_quiet _ hquiet _, fun h => absurd h hbase, fun _ => Feed.mem_placeCard _ (isCardRecord_baseRecord .rest)⟩

/-- R183: a feed whose pending video's KEY has arrived. -/
theorem Feed.switched_spec (tag : Byte) (hr : isCardRecord r = false) : let g := f.switched tag r
    g.state = .following ∧ g.video = some tag ∧ g.waitKey = none ∧ g.base = .none ∧ g.queue.getLast? = some r ∧
    (g.queue.filter fun x => !isCardRecord x) = (f.inTransit.filter fun x => !isCardRecord x) ++ [r] ∧
    (f.base ≠ .none → clearRecord 0 ∈ g.queue) ∧
    (f.base = .none → g.queue = f.inTransit ++ f.notStarted.filter isCardRecord ++ [r]) := by
  have hqueue : ∀ q, (∀ x ∈ q, isCardRecord x = true) → ((f.inTransit ++ q ++ [r]).filter fun x => !isCardRecord x) =
      (f.inTransit.filter fun x => !isCardRecord x) ++ [r] := fun q hq => by
    have hnone : (q.filter fun x => !isCardRecord x) = [] := List.filter_eq_nil_iff.2 fun x hx => by simp [hq x hx]
    rw [List.filter_append, List.filter_append, hnone, List.append_nil]
    simp [hr]
  have hwaiting : f.dropProgramme.queue = f.inTransit ++ f.notStarted.filter isCardRecord := rfl
  have hcards := f.dropProgramme_cards
  have hbase : f.dropProgramme.base = f.base := rfl
  dsimp only
  unfold Feed.switched Feed.appended Feed.showsBase
  by_cases hnone : f.base = .none
  · rw [if_pos (hbase.trans hnone)]
    refine ⟨rfl, rfl, rfl, hnone, by simp, ?_, fun hne => absurd hnone hne, fun _ => by rw [← hwaiting]⟩
    rw [hwaiting]
    exact hqueue _ fun x hx => (List.mem_filter.1 hx).2
  · rw [if_neg (by rwa [hbase]), Feed.placeCard_of_cards ({ f.dropProgramme with base := .none } : Feed)
      (isCardRecord_baseRecord .none) hcards]
    have htransit : ({ f.dropProgramme with base := .none } : Feed).inTransit = f.inTransit := f.dropProgramme_inTransit
    dsimp only
    rw [htransit]
    refine ⟨rfl, rfl, rfl, rfl, by simp, hqueue _ (insertCard_cards (isCardRecord_baseRecord .none) hcards), fun _ => ?_,
      fun h => absurd h hnone⟩
    exact List.mem_append_left _ (List.mem_append_right _ (mem_insertCard _ _))

end feed

theorem Feed.drop_inTransit (f : Feed) : f.queue.drop f.inTransit.length = f.notStarted := by
  unfold Feed.inTransit Feed.notStarted
  cases f.tx with
  | false => rfl
  | true => cases f.queue <;> rfl

theorem getD_of_head? {r : List Byte} {x : Byte} (h : r.head? = some x) : r.getD 0 0 = x := by
  cases r with
  | nil => cases h
  | cons y r => exact Option.some.inj h

/-- Settles O48: a record is offered to each configured berth as it stands (`recordOffered_at`), and what a feed makes of it is a
function of the feed alone. -/
theorem recordsFeedTheScreens : Obligations.RecordsFeedTheScreens := by
  intro tag r rest s hinbox size switches drops waits
  have hexec := exec_recordDelivered hinbox
  have hstart : ∀ b, (s.inboxTaken rest).switchesAt tag b ↔ switches b := fun b => Iff.rfl
  have htype : takenType r → deliverable r = true → ∃ t, exec .recordDelivered s = .next t ∧ t = (s.inboxTaken rest).recordOffered tag r ∧
      t.sfu.inbox = rest ∧ t = { s with bcu := t.bcu, sfu := t.sfu, counters := t.counters } ∧
      (r.getD 0 0 ≠ typeKey → t = { s with sfu := t.sfu, counters := t.counters }) := fun h hd => by
    obtain ⟨hrest, hin, hbcu⟩ := (State.recordOffered_rest (tag := tag) (s := s.inboxTaken rest) h)
    rw [if_pos hd] at hexec
    refine ⟨_, hexec, rfl, hin, hrest, fun hkey => ?_⟩
    have hsame := hbcu hkey
    generalize (s.inboxTaken rest).recordOffered tag r = t at hrest hsame ⊢
    rw [hrest, hsame]
    rfl
  refine ⟨fun f => ?room, fun b ch hkey hconf hpending hvideo => ?switch, fun hkey => ?key, fun hdelta => ?delta,
    fun hend hlength => ?finish, fun hbad => ?bad⟩
  case room =>
    have hlayer : ∀ x, sameLayer (baseRecord .none) x = decide ((x.head? = some 0x10 ∨ x.head? = some 0x11) ∧ x.getD 3 0 = 0) := fun x => by
      rw [sameLayer, isCardRecord_iff, ← Bool.decide_and]
      rfl
    have heq := f.bytesAfterClear_eq
    rw [funext hlayer] at heq
    exact heq
  case switch =>
    have hget : r.getD 0 0 = typeKey := getD_of_head? hkey
    obtain ⟨t, hexec, ht, hin, hrest, -⟩ := htype (.inl hget) (decide_eq_true (.inl hget))
    obtain ⟨hbcu, hfeed⟩ := State.recordOffered_switches (s := s.inboxTaken rest) (tag := tag) hget hconf hpending hvideo
    have hcard : isCardRecord r = false := by
      rw [isCardRecord_iff, hkey]
      decide
    have hspec := ((s.inboxTaken rest).feed b).switched_spec r tag hcard
    rw [← ht] at hbcu hfeed
    rw [← hfeed] at hspec
    obtain ⟨hstate, hv, hwait, hbase, hlast, hfilter, hclear, hqueue⟩ := hspec
    have hcards : ∀ x, decide (x.head? = some (0x10 : Byte) ∨ x.head? = some 0x11) = isCardRecord x := fun x => (isCardRecord_iff x).symm
    refine ⟨t, hexec, hrest, hin, hbcu, hstate, hv, hwait, hbase, hlast, ?_⟩
    simp only [hcards]
    refine ⟨hfilter, hclear, fun hnone => (hqueue hnone).trans ?_⟩
    rw [← Feed.drop_inTransit]
    rfl
  case key =>
    have hget : r.getD 0 0 = typeKey := getD_of_head? hkey
    have htaken : takenType r := .inl hget
    obtain ⟨t, hexec, ht, hin, hrest, -⟩ := htype htaken (decide_eq_true (.inl hget))
    subst ht
    have hnotSwitch : ∀ b, ¬switches b → ¬(r.getD 0 0 = typeKey ∧ (s.inboxTaken rest).switchesAt tag b) := fun b h k => h k.2
    refine ⟨_, hexec, hin, hrest, fun dropped hnodup hmem => ?_, fun b => ⟨fun hconf hnot hvideo => ?_, fun hpass => ?_⟩⟩
    · rw [State.recordOffered_drops (.inl hget), length_eq_of_mem_iff hnodup ((configuredBerths_nodup _).filter _) fun b => ?_]
      · rfl
      · rw [hmem, List.mem_filter, mem_configuredBerths, dropsAt_iff, if_pos hget, (Feed.takesKey_spec _ r).1]
        exact and_congr_right fun _ => and_congr_left fun _ => not_congr (and_iff_right hget).symm
    · obtain ⟨hbcu, hfeed, -, -⟩ := State.recordOffered_takes (s := s.inboxTaken rest) htaken hconf (hnotSwitch b hnot) hvideo
      refine ⟨hbcu, ?_⟩
      rw [hfeed hget]
      exact (Feed.takesKey_spec (s.feed b) r).2
    · exact State.recordOffered_passes (s := s.inboxTaken rest) htaken (hpass.imp id fun h => ⟨hnotSwitch b h.1, h.2⟩)
  case delta =>
    have hget : r.getD 0 0 = typeDelta := getD_of_head? hdelta
    have hne : r.getD 0 0 ≠ typeKey := by rw [hget]; decide
    have htaken : takenType r := .inr (.inl hget)
    have hnotSwitch : ∀ b, ¬(r.getD 0 0 = typeKey ∧ (s.inboxTaken rest).switchesAt tag b) := fun b h => hne h.1
    obtain ⟨t, hexec, ht, hin, -, hrest⟩ := htype htaken (decide_eq_true (.inr (.inl hget)))
    subst ht
    refine ⟨_, hexec, hin, hrest hne, ?_, fun b => ⟨fun hconf hvideo => ?_, fun hconf hvideo => ?_, fun hpass => ?_⟩⟩
    · rw [State.recordOffered_drops (.inr hget), length_eq_of_mem_iff ((configuredBerths_nodup _).filter _)
        ((List.nodup_finRange 4).filter _) fun b => ?_]
      · rfl
      · rw [List.mem_filter, List.mem_filter, mem_configuredBerths, dropsAt_iff, if_neg hne, (Feed.takesDelta_spec _ r).1,
          and_iff_right (hnotSwitch b), and_iff_right (List.mem_finRange b), decide_eq_true_eq]
        rfl
    · obtain ⟨-, -, hfeed, -⟩ := State.recordOffered_takes (s := s.inboxTaken rest) htaken hconf (hnotSwitch b) hvideo
      rw [hfeed hget]
      exact (Feed.takesDelta_spec (s.feed b) r).2.1
    · obtain ⟨-, -, hfeed, -⟩ := State.recordOffered_takes (s := s.inboxTaken rest) htaken hconf (hnotSwitch b) hvideo
      rw [hfeed hget]
      exact (Feed.takesDelta_spec (s.feed b) r).2.2.1
    · by_cases htakes : s.configured b = true ∧ (s.feed b).video = some tag
      · obtain ⟨hconf, hvideo⟩ := htakes
        obtain ⟨-, -, hfeed, -⟩ := State.recordOffered_takes (s := s.inboxTaken rest) htaken hconf (hnotSwitch b) hvideo
        rw [hfeed hget]
        exact (Feed.takesDelta_spec (s.feed b) r).2.2.2 ((hpass.resolve_left (by simp [hconf])).resolve_left (not_not_intro hvideo))
      · refine (State.recordOffered_passes (s := s.inboxTaken rest) htaken ?_).1
        by_cases hconf : s.configured b = true
        · exact .inr ⟨hnotSwitch b, fun hvideo => htakes ⟨hconf, hvideo⟩⟩
        · exact .inl (Bool.eq_false_iff.2 hconf)
  case finish =>
    have hget : r.getD 0 0 = typeEnd := getD_of_head? hend
    have hne : r.getD 0 0 ≠ typeKey := by rw [hget]; decide
    have htaken : takenType r := .inr (.inr hget)
    have hnotSwitch : ∀ b, ¬(r.getD 0 0 = typeKey ∧ (s.inboxTaken rest).switchesAt tag b) := fun b h => hne h.1
    obtain ⟨t, hexec, ht, hin, -, hrest⟩ := htype htaken (decide_eq_true (.inr (.inr ⟨hget, hlength⟩)))
    subst ht
    refine ⟨_, hexec, hin, hrest hne, fun b => ⟨fun hconf hvideo hstate => ?_, fun hpass => ?_⟩⟩
    · obtain ⟨-, -, -, hfeed⟩ := State.recordOffered_takes (s := s.inboxTaken rest) htaken hconf (hnotSwitch b) hvideo
      rw [(hfeed hget).trans (if_pos hstate)]
      exact (s.feed b).atEnd_spec
    · by_cases htakes : s.configured b = true ∧ (s.feed b).video = some tag
      · obtain ⟨hconf, hvideo⟩ := htakes
        obtain ⟨-, -, -, hfeed⟩ := State.recordOffered_takes (s := s.inboxTaken rest) htaken hconf (hnotSwitch b) hvideo
        have hquiet := (hpass.resolve_left (by simp [hconf])).resolve_left (not_not_intro hvideo)
        rw [hfeed hget]
        refine if_neg fun h => ?_
        rcases hquiet with hq | hq
        · exact h.elim (fun h => nomatch hq.symm.trans h) fun h => nomatch hq.symm.trans h
        · exact h.elim (fun h => nomatch hq.symm.trans h) fun h => nomatch hq.symm.trans h
      · refine (State.recordOffered_passes (s := s.inboxTaken rest) htaken ?_).1
        by_cases hconf : s.configured b = true
        · exact .inr ⟨hnotSwitch b, fun hvideo => htakes ⟨hconf, hvideo⟩⟩
        · exact .inl (Bool.eq_false_iff.2 hconf)
  case bad =>
    rw [hexec, if_neg fun hd => ?_]
    · rfl
    · have hread : ∀ x : Byte, x ≠ 0 → r.getD 0 0 = x → r.head? = some x := fun x hx h => by
        cases r with
        | nil => exact absurd h.symm hx
        | cons y r => exact congrArg some h
      rcases of_decide_eq_true hd with h | h | ⟨h, hzero⟩
      · have hhead := hread typeKey (by decide) h
        rcases hbad with ⟨hend, -⟩ | ⟨hnot, -, -⟩
        · exact nomatch hhead.symm.trans hend
        · exact hnot hhead
      · have hhead := hread typeDelta (by decide) h
        rcases hbad with ⟨hend, -⟩ | ⟨-, hnot, -⟩
        · exact nomatch hhead.symm.trans hend
        · exact hnot hhead
      · have hhead := hread typeEnd (by decide) h
        rcases hbad with ⟨-, hne⟩ | ⟨-, -, hnot⟩
        · exact hne hzero
        · exact hnot hhead

end Sys2Proof.Machine
end

section
/-!
PROOFS. The end of LOADING (R195 to R201): the configuration handed to every block, the entry to LISTEN and its first frame (O6).
-/

namespace Sys2Proof.Machine

/-! ### A frame 0 that begins in LISTEN (R12, R18) -/

/-- A TLU in which no link expiry is due. -/
def Tlu.settledListen (t : Tlu) : Prop := t.link = .listen ∧ t.inListen < 76

theorem takeEvent_tlu_settled {s : State} (h : s.tlu.settledListen) (e : Event) : (takeEvent e s).tlu = s.tlu := by
  obtain ⟨hlink, hcount⟩ := h
  have hnot : ¬s.tlu.link = .locked := by rw [hlink]; nofun
  cases e with
  | framesSinceForeign =>
    have hdue : s.foreignDue = false := decide_eq_false fun hd => hnot hd.1
    simp [takeEvent, State.takeFramesSinceForeign, hdue]
  | framesInListen =>
    have hdue : s.listenDue = false := by simp [State.listenDue, hcount]
    simp [takeEvent, State.takeFramesInListen, hdue]
  | command k => cases k <;> simp [takeEvent]
  | _ => simp [takeEvent]

theorem takeLink_tlu_settled {s : State} (h : s.tlu.settledListen) : s.takeLink.tlu = s.tlu := by
  have hforeign := takeEvent_tlu_settled h .framesSinceForeign
  exact (takeEvent_tlu_settled (s := s.takeFramesSinceForeign) (hforeign ▸ h) .framesInListen).trans hforeign

theorem takeAll_tlu_settled {t : Tlu} (h : t.settledListen) (es : List Event) {s : State} (hs : s.tlu = t) : (takeAll es s).tlu = t :=
  foldl_keeps (I := fun s : State => s.tlu = t) (fun s e hs => (takeEvent_tlu_settled (by rw [hs]; exact h) e).trans hs) es hs

/-- Whatever is asked to come first at the start of a frame 0 in LISTEN, the TLU takes its tick alone. -/
theorem State.startFrame_tlu_listen (fs : FrameStart) (e : FrameEnd) {s : State} (h : s.tlu.settledListen) (hframe : s.tlu.frame = 0) :
    (s.startFrame fs e).tlu = s.tlu.tick := by
  have htick : s.tlu.tick.settledListen := h
  have hoff : ∀ u : State, u.tlu = s.tlu.tick → ¬(u.tlu.frame = 13 ∧ u.onTrunk = true) := fun u hu hd => by
    have hnumber : u.tlu.frame = 0 := by rw [hu]; exact hframe
    exact nomatch hnumber.symm.trans hd.1
  have hkeep : ∀ (c : Prop) [Decidable c] (u v : State), u.tlu = s.tlu.tick → v.tlu = s.tlu.tick → (if c then v else u).tlu = s.tlu.tick :=
    fun c _ u v hu hv => by split <;> assumption
  unfold State.startFrame
  dsimp only
  simp only [hframe, decide_true, if_true, Bool.true_and]
  have h0 : (s.discardCollected.cycleTick fs).tlu = s.tlu.tick := by simp
  generalize s.discardCollected.cycleTick fs = u at h0
  have h1 := hkeep (fs.order.linkFirst = true) u u.takeLink h0 ((takeLink_tlu_settled (by rw [h0]; exact htick)).trans h0)
  generalize (if fs.order.linkFirst = true then u.takeLink else u) = u at h1
  have h2 := hkeep (u.listens e fs.order.bcuOld = true) u u.bcuCompletions h1 (by simp [h1])
  generalize (if u.listens e fs.order.bcuOld = true then u.bcuCompletions else u) = u at h2
  have h3 := hkeep (e.isData = true) u (u.lcuFrameEnd e.abandoned e.done) h2 (by simp [h2])
  generalize (if e.isData = true then u.lcuFrameEnd e.abandoned e.done else u) = u at h3
  have h4 := takeAll_tlu_settled htick fs.order.beforeEnd h3
  generalize takeAll fs.order.beforeEnd u = u at h4
  have h5 := hkeep (fs.order.alrtLate = true) u (u.sampleAlrt fs.pins.alrtPeer) h4 (by simp [h4])
  generalize (if fs.order.alrtLate = true then u.sampleAlrt fs.pins.alrtPeer else u) = u at h5
  have h6 := hkeep (e.isData = true) u (u.dataFrameEnd e fs.order) h5 (by simp [h5])
  generalize (if e.isData = true then u.dataFrameEnd e fs.order else u) = u at h6
  have h7 := takeAll_tlu_settled htick fs.order.beforeTick h6
  generalize takeAll fs.order.beforeTick u = u at h7
  have h8 : ((u.tablesTick (u.listens e fs.order.anuOld)).feedFrame e fs.order).tlu = s.tlu.tick := by simp [h7]
  rw [if_neg (hoff _ h8)]
  exact h8

/-- The first frame of a node ends no frame. -/
def FrameEnd.first : FrameEnd := ⟨0, false, 0, false⟩

/-- The stages of a plain start of frame 0 in LISTEN that ends no data frame. -/
theorem State.startFrame_first {fs : FrameStart} {u : State} (hplain : fs.plain) (hframe : u.tlu.frame = 0) (hlink : u.tlu.link = .listen) :
    ∃ v : State, v = ((u.discardCollected.cycleTick fs).bcuCompletions.startAlert fs true).smuTick.evaluate ∧
      u.startFrame fs .first = { v with asp := { v.asp with afs := false }, bfs := false } := by
  have hcompleted : (u.discardCollected.cycleTick fs).startCompleted fs .first true = (u.discardCollected.cycleTick fs).bcuCompletions := by
    have hlisten : (u.discardCollected.cycleTick fs).listens .first fs.order.bcuOld = true := by
      simp [State.listens, Tlu.tick, hlink]
    rw [State.startCompleted, hlisten]
    rfl
  have hprepared : u.startPrepared fs .first true = (u.discardCollected.cycleTick fs).bcuCompletions.startAlert fs true := by
    rw [← hcompleted]
    rfl
  have hzero : (u.startPrepared fs .first true).smuTick.evaluate.tlu.frame = 0 := by
    simpa [State.startPrepared, Tlu.tick] using hframe
  refine ⟨_, rfl, ?_⟩
  rw [State.startFrame_listen hplain hframe hlink, State.feedFrame_zero _ hzero, ← hprepared]
  generalize (u.startPrepared fs .first true).smuTick.evaluate = v at hzero
  have hoff : ¬v.tlu.frame = 13 := by rw [hzero]; decide
  exact if_neg fun h => hoff h.1

/-! ### An evaluation that finds nothing -/

/-- A table that no berth can follow, and that an evaluation leaves so. -/
structure State.TableQuiet (s : State) : Prop where
  heard : s.heardTags = []
  alert : s.anu.alert.active = false
  idle : (s.anu.entries.get 0).state = .idle
  free : ∀ i, i ≠ 0 → (s.anu.entries.get i).state = .free
  follow : ∀ b, s.anu.follow.get b = .nothing

theorem State.admission_eq_none_of_state {s : State} {b : Fin 4} {i : Fin 16}
    (h : ¬((s.anu.entries.get i).state = .active ∨ (s.anu.entries.get i).state = .fading)) : s.admission b i = none := by
  unfold State.admission
  dsimp only
  split
  · exact if_neg fun hd => h hd.1
  · rfl

theorem AnnEntry.takeStamp_state (cycle : BitVec 32) (e : AnnEntry) : (e.takeStamp cycle).state = e.state := by
  rw [AnnEntry.takeStamp_eq]

theorem AnnEntry.alertUpdate_idle (cycle : BitVec 32) {e : AnnEntry} (h : e.state = .idle) : e.alertUpdate false cycle = e := by
  unfold AnnEntry.alertUpdate
  rw [h]

theorem AnnEntry.update_free (cycle : BitVec 32) (heard : Bool) {e : AnnEntry} (h : e.state = .free) : e.update heard cycle = e := by
  unfold AnnEntry.update
  rw [h]

namespace State.TableQuiet
variable {s : State} (h : s.TableQuiet)
include h

theorem evaluateTable_states (i : Fin 16) : ¬((s.evaluateTable.anu.entries.get i).state = .active ∨
    (s.evaluateTable.anu.entries.get i).state = .fading) := by
  have htable : s.evaluateTable = s.entriesUpdated := by
    rw [State.evaluateTable_eq, h.heard]
    generalize s.entriesUpdated = u
    rfl
  obtain ⟨hzero, hrest⟩ := s.entriesUpdated_entries
  rw [htable]
  by_cases hi : i = 0
  · subst hi
    have hidle : ((s.anu.entries.get 0).takeStamp s.tlu.cycleCount).state = .idle := (AnnEntry.takeStamp_state _ _).trans h.idle
    rw [hzero, h.heard, h.alert]
    have hsame := AnnEntry.alertUpdate_idle s.tlu.cycleCount hidle
    simp [hsame, hidle]
  · have hfree : ((s.anu.entries.get i).takeStamp s.tlu.cycleCount).state = .free := (AnnEntry.takeStamp_state _ _).trans (h.free i hi)
    rw [hrest i hi, AnnEntry.updated, AnnEntry.update_free _ _ hfree]
    simp [hfree]

theorem followBerth (b : Fin 4) : s.evaluateTable.followBerth b = s.evaluateTable := by
  have hnew : s.evaluateTable.selectFollow b = .nothing :=
    State.selectFollow_nothing fun i => State.admission_eq_none_of_state (h.evaluateTable_states i)
  have hold : s.evaluateTable.anu.follow.get b = .nothing := by rw [State.evaluateTable_follow, h.follow]
  unfold State.followBerth
  dsimp only
  rw [hnew, hold]
  exact if_pos ⟨rfl, rfl⟩

theorem evaluate : s.evaluate.bcu = s.bcu ∧ s.evaluate.mix = s.mix ∧ s.evaluate.wku = s.wku ∧ s.evaluate.sfu = s.sfu := by
  have hfold : s.evaluateTable.configuredBerths.foldl (fun s b => s.followBerth b) s.evaluateTable = s.evaluateTable :=
    foldl_keeps (I := fun t => t = s.evaluateTable) (fun t b ht => by rw [ht, h.followBerth]) _ rfl
  have heq : s.evaluate = s.evaluateTable.clearMarks := congrArg State.clearMarks hfold
  rw [heq]
  simp [State.clearMarks]

end State.TableQuiet

/-! ### The configuration of the blocks (R200) -/

/-- What the end of LOADING gives a berth. -/
def State.loadView (s : State) (b : Fin 4) : Berth × MixBerth × Wake × Feed × Loader :=
  (s.bcu.get b, s.mix.get b, s.wku.get b, s.feed b, s.cfl)

theorem State.loadBerth_other (s : State) (a b : Fin 4) (h : b ≠ a) : (s.loadBerth a).loadView b = s.loadView b := by
  have hne := Ne.symm h
  unfold State.loadBerth
  split
  · simp [State.loadView, State.bcuReset, State.mixReset, State.wkuReset, State.sfuReset, State.setBerth, State.setMix, State.setWake,
      State.setFeed, State.feed, Table.get_set_of_ne _ _ hne]
  · simp [State.loadView, State.wkuReset, State.setWake, State.feed, Table.get_set_of_ne _ _ hne]

theorem State.loadBerth_self (s : State) (b : Fin 4) : (s.loadBerth b).loadView b =
    if s.configured b = true then
      ({ Berth.unconfigured with choice := (s.berthCfg b).defaultChoice, userLevel := (s.berthCfg b).resetLevel },
        (s.mix.get b).berthReset (s.berthCfg b).resetLevel, .unconfigured s.cfg.w0,
        (s.feed b).berthReset s.cfg (s.berthCfg b).defaultChoice, s.cfl)
    else (s.bcu.get b, s.mix.get b, .unconfigured s.cfg.w0, s.feed b, s.cfl) := by
  unfold State.loadBerth
  split
  · simp [State.loadView, State.bcuReset, State.mixReset, State.wkuReset, State.sfuReset, State.setBerth, State.setMix, State.setWake,
      State.setFeed, State.feed, State.berthCfg, State.cfg]
  · simp [State.loadView, State.wkuReset, State.setWake, State.feed, State.cfg]

/-- R200: the state whose berths the end of LOADING loads. -/
def State.zonesLoaded (image : List Byte) (straps : BitVec 6) (s : State) : State :=
  let t := { s with cfl := s.cfl.finish image straps }.bumpN .configurationFixes (loadImage image).2
  { t with anu := { t.anu with zones := zonesOf t.cfg.nightMask } }

theorem State.configure_eq (image : List Byte) (straps : BitVec 6) (s : State) :
    s.configure image straps = (indices 4).foldl (fun s b => s.loadBerth b) (s.zonesLoaded image straps) := rfl

section configure
variable (image : List Byte) (straps : BitVec 6) (s : State)

theorem State.configure_loaded : (s.configure image straps).pending = s.pending ∧ (s.configure image straps).lcu = s.lcu ∧
    (s.configure image straps).cfl = s.cfl.finish image straps ∧
    (s.configure image straps).tlu = s.tlu ∧
    (s.configure image straps).anu = { s.anu with zones := zonesOf (s.cfl.finish image straps).config.nightMask } ∧
    (s.configure image straps).counters = (s.zonesLoaded image straps).counters := by
  rw [State.configure_eq]
  refine foldl_keeps (I := fun t : State => t.pending = s.pending ∧ t.lcu = s.lcu ∧ t.cfl = s.cfl.finish image straps ∧ t.tlu = s.tlu ∧
    t.anu = { s.anu with zones := zonesOf (s.cfl.finish image straps).config.nightMask } ∧
    t.counters = (s.zonesLoaded image straps).counters) (fun t b ht => by simpa using ht) (indices 4) ?_
  simp [State.zonesLoaded, State.cfg]

theorem State.zonesLoaded_loadView (b : Fin 4) : (s.zonesLoaded image straps).loadView b =
    (s.bcu.get b, s.mix.get b, s.wku.get b, s.feed b, s.cfl.finish image straps) := by
  simp [State.loadView, State.zonesLoaded, State.feed]

theorem State.configure_loadView (b : Fin 4) : (s.configure image straps).loadView b =
    ((s.zonesLoaded image straps).loadBerth b).loadView b := by
  obtain ⟨u, hu, hend⟩ := (foldl_at (V := State.loadView) (f := fun s b => s.loadBerth b) (fun t a c hc => t.loadBerth_other a c hc)
    (indices_nodup 4) (s.zonesLoaded image straps) b).2 (mem_indices b)
  rw [State.configure_eq, hend, State.loadBerth_self, State.loadBerth_self]
  obtain ⟨h1, h⟩ := Prod.mk.inj hu
  obtain ⟨h2, h⟩ := Prod.mk.inj h
  obtain ⟨h3, h⟩ := Prod.mk.inj h
  obtain ⟨h4, h5⟩ := Prod.mk.inj h
  have hcfg := State.cfg_congr h5
  rw [State.configured_of_cfl h5, h1, h2, h4, h5, State.berthCfg, State.berthCfg, hcfg]

end configure

end Sys2Proof.Machine
end

section
/-!
PROOFS. The end of LOADING: what its first frame leaves of the counters, the zones and the berths (O6).
-/

namespace Sys2Proof.Machine

/-! ### The counters and the zones -/

section kept
variable {s : State}

theorem State.freeNow_counter (i : Fin 16) (s : State) {c : Counter} (hc : c ≠ .queueDrops) : (s.freeNow i).counter c = s.counter c := by
  unfold State.freeNow State.endFollows
  refine foldl_keeps (I := fun t : State => t.counter c = s.counter c) (fun t b ht => ?_) (indices 4) rfl
  split
  · exact (t.publish_counter b .nothing hc).trans ht
  · exact ht

theorem State.enterListen_counter (s : State) {c : Counter} (hc : c ≠ .queueDrops) : s.enterListen.counter c = s.counter c := by
  have hbefore : ({ s with tlu := s.tlu.listen } : State).smuTeardown.lcuTeardown.counter c = s.counter c := by simp [State.counter]
  unfold State.enterListen
  generalize ({ s with tlu := s.tlu.listen } : State).smuTeardown.lcuTeardown = u at hbefore
  have hteardown : u.anuTeardown.counter c = s.counter c := by
    rw [State.anuTeardown_eq]
    refine foldl_keeps (I := fun t : State => t.counter c = s.counter c) (fun t i ht => ?_) announcementIndices hbefore
    unfold State.entryTeardown
    split
    · exact ht
    · exact (t.freeNow_counter i hc).trans ht
  generalize u.anuTeardown = v at hteardown ⊢
  exact hteardown

theorem State.followBerth_zones (b : Fin 4) (s : State) : (s.followBerth b).anu.zones = s.anu.zones := by
  rcases s.followBerth_cases b with h | h
  · exact congrArg (fun t => t.anu.zones) h
  · rw [h, State.publish_anu]

theorem State.evaluate_zones (s : State) : s.evaluate.anu.zones = s.anu.zones := by
  have hupdated : s.entriesUpdated.anu.zones = s.anu.zones := by
    unfold State.entriesUpdated
    exact foldl_keeps (I := fun t : State => t.anu.zones = s.anu.zones) (fun t i ht => by simpa using ht) announcementIndices rfl
  have htable : s.evaluateTable.anu.zones = s.anu.zones := by
    rw [State.evaluateTable_eq]
    refine foldl_keeps (I := fun t : State => t.anu.zones = s.anu.zones) (fun t g ht => ?_) (announcementTags s.heardTags) hupdated
    rcases t.allocateHeard_cases g with ⟨hsame, -⟩ | ⟨i, -, -, heq⟩
    · rw [hsame]
      exact ht
    · rw [heq]
      exact ht
  exact foldl_keeps (I := fun t : State => t.anu.zones = s.anu.zones) (fun t b ht => (t.followBerth_zones b).trans ht)
    s.evaluateTable.configuredBerths htable

end kept

/-- What a plain first frame in LISTEN keeps of the corrections and the zones. -/
theorem State.startFrame_first_keeps {fs : FrameStart} {u : State} (hplain : fs.plain) (hframe : u.tlu.frame = 0)
    (hlink : u.tlu.link = .listen) : (u.startFrame fs .first).counter .configurationFixes = u.counter .configurationFixes ∧
      (u.startFrame fs .first).anu.zones = u.anu.zones := by
  obtain ⟨v, hv, ht⟩ := State.startFrame_first hplain hframe hlink
  obtain ⟨-, -, -, -, -, -, -, hanu⟩ := u.discardCollected.cycleTick_fields fs
  have hcounted : (u.discardCollected.cycleTick fs).counter .configurationFixes = u.counter .configurationFixes := by simp [State.counter]
  have hzones : (u.discardCollected.cycleTick fs).anu.zones = u.anu.zones := by
    rw [hanu]
    split <;> rfl
  generalize u.discardCollected.cycleTick fs = w at hv hcounted hzones
  have halert : ∀ x : State, (x.startAlert fs true).anu.zones = x.anu.zones := fun x => by
    unfold State.startAlert
    split <;> rfl
  have hsmu : ∀ x : State, (x.startAlert fs true).smuTick.counter .configurationFixes = x.counter .configurationFixes := fun x => by
    simp [State.counter]
  have hanuTick : ∀ x : State, x.smuTick.anu = x.anu := fun x => by simp
  have hanuCompleted : w.bcuCompletions.anu = w.anu := by simp
  rw [ht]
  refine ⟨?_, ?_⟩
  · have hcounter : v.counter .configurationFixes = u.counter .configurationFixes := by
      rw [hv, State.evaluate_counter _ (c := .configurationFixes) (by decide) (by decide), State.entriesUpdated_counter,
        if_neg (by decide), hsmu, State.bcuCompletions_counter, hcounted]
    exact hcounter
  · have hzone : v.anu.zones = u.anu.zones := by
      rw [hv, State.evaluate_zones, hanuTick, halert, hanuCompleted, hzones]
    exact hzone

/-! ### The berths of a LOADING after reset -/

/-- An entry to LISTEN that finds no grant and no announcement. -/
theorem State.enterListen_idle {s : State} (hlcu : s.lcu.active = []) (hfree : ∀ i, i ≠ 0 → (s.anu.entries.get i).state = .free) :
    s.enterListen.bcu = s.bcu ∧ s.enterListen.mix = s.mix ∧ s.enterListen.wku = s.wku ∧ s.enterListen.sfu = s.sfu ∧
      s.enterListen.anu = s.anu := by
  have hbefore : ({ s with tlu := s.tlu.listen } : State).smuTeardown.lcu = s.lcu ∧
      ({ s with tlu := s.tlu.listen } : State).smuTeardown.anu = s.anu ∧
      ({ s with tlu := s.tlu.listen } : State).smuTeardown.bcu = s.bcu ∧
      ({ s with tlu := s.tlu.listen } : State).smuTeardown.mix = s.mix ∧
      ({ s with tlu := s.tlu.listen } : State).smuTeardown.wku = s.wku ∧
      ({ s with tlu := s.tlu.listen } : State).smuTeardown.sfu = s.sfu := by simp
  unfold State.enterListen
  generalize ({ s with tlu := s.tlu.listen } : State).smuTeardown = u at hbefore
  obtain ⟨hulcu, huanu, hbcu, hmix, hwku, hsfu⟩ := hbefore
  have hlost : u.lcuTeardown = { u with lcu := .reset } := by
    rw [State.lcuTeardown_eq, State.videosLost, hulcu, hlcu]
    rfl
  have hkept : u.lcuTeardown.anuTeardown = u.lcuTeardown := by
    rw [State.anuTeardown_eq]
    refine foldl_keeps_mem (I := fun t => t = u.lcuTeardown) (fun i hi t ht => ?_) rfl
    rw [ht, State.entryTeardown, if_pos]
    rw [hlost]
    dsimp only
    rw [huanu]
    exact hfree i (mem_announcementIndices.1 hi)
  rw [hkept, hlost, ← hbcu, ← hmix, ← hwku, ← hsfu, ← huanu]
  exact ⟨rfl, rfl, rfl, rfl, rfl⟩

theorem State.bcuCompletions_idle {s : State} (h : ∀ b, (s.bcu.get b).pendingChoice = none) (b : Fin 4) :
    s.bcuCompletions.bcu.get b = s.bcu.get b ∧ s.bcuCompletions.feed b = s.feed b := by
  refine (s.bcuCompletions_berth b).2 (.inr fun ch hcompletes => ?_)
  exact nomatch (h b).symm.trans hcompletes.1

theorem State.TableQuiet.congr {s t : State} (h : s.TableQuiet) (hlocator : t.smu.locator = s.smu.locator)
    (hentries : t.anu.entries = s.anu.entries) (halert : t.anu.alert.active = s.anu.alert.active)
    (hfollow : t.anu.follow = s.anu.follow) : t.TableQuiet where
  heard := by rw [State.heardTags, hlocator]; exact h.heard
  alert := by rw [halert]; exact h.alert
  idle := by rw [hentries]; exact h.idle
  free := by rw [hentries]; exact h.free
  follow := by rw [hfollow]; exact h.follow

theorem State.cycleTick_anu (fs : FrameStart) (s : State) : (s.cycleTick fs).anu.entries = s.anu.entries ∧
    (s.cycleTick fs).anu.alert.active = s.anu.alert.active ∧ (s.cycleTick fs).anu.follow = s.anu.follow := by
  obtain ⟨-, -, -, -, -, -, -, hanu⟩ := s.cycleTick_fields fs
  rw [hanu]
  split
  · exact ⟨rfl, rfl, rfl⟩
  · exact ⟨rfl, Debouncer.sample_active _ _, rfl⟩

theorem State.startAlert_anu (fs : FrameStart) (tick : Bool) (s : State) : (s.startAlert fs tick).anu.entries = s.anu.entries ∧
    (s.startAlert fs tick).anu.alert.active = s.anu.alert.active ∧ (s.startAlert fs tick).anu.follow = s.anu.follow := by
  unfold State.startAlert
  split
  · exact ⟨rfl, Debouncer.sample_active _ _, rfl⟩
  · exact ⟨rfl, rfl, rfl⟩

/-- The berths after a first frame whose table is quiet and whose berths wait for no switch: they have taken the tick. -/
theorem State.startFrame_first_berths {fs : FrameStart} {u : State} (hplain : fs.plain) (hframe : u.tlu.frame = 0)
    (hlink : u.tlu.link = .listen) (hquiet : u.TableQuiet) (hpending : ∀ b, (u.bcu.get b).pendingChoice = none) (b : Fin 4) : let t := u.startFrame fs .first
    t.bcu.get b = (if u.configured b = true then
      ((u.bcu.get b).sample (u.berthCfg b).polarityHigh (fs.pins.panelHigh.get b)).tick else u.bcu.get b) ∧
    t.mix.get b = (u.mix.get b).tick ∧ t.wku.get b = { u.wku.get b with hold := holdTick (u.wku.get b).hold } ∧
    t.feed b = { u.feed b with waitKey := countDown (u.feed b).waitKey, overlay := (u.feed b).overlay.map Overlay.tick } := by
  obtain ⟨v, hv, ht⟩ := State.startFrame_first hplain hframe hlink
  obtain ⟨-, hbcu, hmix, hwku, hsfu, -, -, -⟩ := u.discardCollected.cycleTick_fields fs
  obtain ⟨hentries, halert, hfollow⟩ := u.discardCollected.cycleTick_anu fs
  have hlocator : (u.discardCollected.cycleTick fs).smu.locator = u.smu.locator := by simp [State.discardCollected]
  generalize u.discardCollected.cycleTick fs = w at hv hbcu hmix hwku hsfu hentries halert hfollow hlocator
  obtain ⟨hentries', halert', hfollow'⟩ := w.bcuCompletions.startAlert_anu fs true
  have hnone : ∀ c, (w.bcu.get c).pendingChoice = none := fun c => by
    rw [hbcu, State.bcuTick]
    dsimp only
    rw [Table.get_mapIdx]
    split
    · exact hpending c
    · exact hpending c
  obtain ⟨hbcu', hfeed'⟩ := State.bcuCompletions_idle hnone b
  have hcompleted : w.bcuCompletions.anu = w.anu ∧ w.bcuCompletions.smu = w.smu ∧ w.bcuCompletions.mix = w.mix ∧
      w.bcuCompletions.wku = w.wku := by simp
  generalize w.bcuCompletions = x at hv hbcu' hfeed' hcompleted hentries' halert' hfollow'
  obtain ⟨hxanu, hxsmu, hxmix, hxwku⟩ := hcompleted
  have hticked : (x.startAlert fs true).smuTick.anu = (x.startAlert fs true).anu ∧ (x.startAlert fs true).smuTick.bcu = x.bcu ∧
      (x.startAlert fs true).smuTick.mix = x.mix ∧ (x.startAlert fs true).smuTick.wku = x.wku ∧
      (x.startAlert fs true).smuTick.sfu = x.sfu := by simp
  have hheard : (x.startAlert fs true).smuTick.smu.locator = x.smu.locator := by
    rw [State.smuTick_only]
    simp
  generalize (x.startAlert fs true).smuTick = y at hv hticked hheard
  obtain ⟨hyanu, hybcu, hymix, hywku, hysfu⟩ := hticked
  have hytable : y.TableQuiet := hquiet.congr (hheard.trans ((congrArg Smu.locator hxsmu).trans hlocator))
    (by rw [hyanu, hentries', hxanu, hentries]; rfl) (by rw [hyanu, halert', hxanu, halert]; rfl)
    (by rw [hyanu, hfollow', hxanu, hfollow]; rfl)
  obtain ⟨hvbcu, hvmix, hvwku, hvsfu⟩ := hytable.evaluate
  rw [ht]
  dsimp only
  rw [hv, hvbcu, hvmix, hvwku, hybcu, hymix, hywku, hbcu', hxmix, hxwku, hbcu, hmix, hwku]
  refine ⟨?_, ?_, ?_, ?_⟩
  · rw [State.bcuTick]
    dsimp only
    rw [Table.get_mapIdx]
    rfl
  · exact Table.get_map _ _ _
  · exact Table.get_map _ _ _
  · have hfeeds : w.feed b = { u.feed b with
        waitKey := countDown (u.feed b).waitKey, overlay := (u.feed b).overlay.map Overlay.tick } := by
      rw [State.feed, hsfu, State.sfuTick]
      exact Table.get_map _ _ _
    rw [← hfeeds, ← hfeed', State.feed, State.feed, ← hysfu, ← hvsfu]

end Sys2Proof.Machine
end

section
/-!
PROOFS. The start and the end of LOADING, in the obligation's words (O6).
-/

namespace Sys2Proof.Machine

/-- The frame start that ends LOADING. -/
theorem exec_loadingEnd {image : List Byte} {s : State} (hlength : image.length = 128) (hreading : s.cfl.reading = true)
    (straps : BitVec 6) (fs : FrameStart) :
    exec (.loadingEnd image straps fs) s = .next ((s.loadingBegun image straps).startFrame fs .first) := by
  show execLoadingEnd image straps fs s = _
  unfold execLoadingEnd
  rw [if_pos (show imageWf image from hlength), if_pos hreading]
  rfl

/-- R197: the configuration without an address. -/
theorem Config.withoutAddress_spec (c : Config) : c.withoutAddress = { c with
    eligible := false, asp := c.withoutAddress.asp, rsp := c.withoutAddress.rsp } ∧
    (∀ i, c.withoutAddress.asp.get i = { c.asp.get i with enabled := false }) ∧
    ∀ r, c.withoutAddress.rsp.get r = { c.rsp.get r with enabled := false } :=
  ⟨rfl, fun _ => Table.get_map _ _ _, fun _ => Table.get_map _ _ _⟩

theorem loadImage_eq (image : List Byte) : (loadImage image).1 = (if imageGood image = true then (readImage image).1 else Config.defaults) ∧
    (loadImage image).2 = if imageGood image = true then (readImage image).2 else 0 := by
  unfold loadImage
  split <;> exact ⟨rfl, rfl⟩

theorem noAddress_iff (straps : BitVec 6) : noAddress straps = true ↔ straps = 0 ∨ straps = 63 := decide_eq_true_iff

/-- The zones and the counter of corrections when the first frame begins. -/
theorem State.loadingBegun_keeps (image : List Byte) (straps : BitVec 6) (s : State) :
    (s.loadingBegun image straps).counter .configurationFixes =
        satInc^[(loadImage image).2] (s.counter .configurationFixes) ∧
      (s.loadingBegun image straps).anu.zones = zonesOf (s.cfl.finish image straps).config.nightMask := by
  obtain ⟨-, -, -, -, hanu, hcounters⟩ := s.configure_loaded image straps
  have hcounter := (s.configure image straps).enterListen_counter (c := .configurationFixes) (by decide)
  have hzones := (s.configure image straps).enterListen_dropped.alert.2
  unfold State.loadingBegun
  dsimp only
  generalize (s.configure image straps).enterListen = v at hcounter hzones ⊢
  refine ⟨?_, ?_⟩
  · have hfixes : (s.zonesLoaded image straps).counter .configurationFixes = satInc^[(loadImage image).2] (s.counter .configurationFixes) :=
      State.counter_bumpN _ _ _ _
    have hconfigured : (s.configure image straps).counter .configurationFixes = (s.zonesLoaded image straps).counter .configurationFixes := by
      rw [State.counter, State.counter, hcounters]
    exact (hcounter.trans hconfigured).trans hfixes
  · exact hzones.trans (by rw [hanu])

/-- R200: the berths of a node loaded after reset, when its first frame begins. -/
theorem State.loadingBegun_reset {s : State} {image : List Byte} {straps : BitVec 6} (hs : s = { State.reset with
      pending := s.pending, cfl := { Loader.reset with reading := true, period := s.cfl.period } }) :
    (s.loadingBegun image straps).TableQuiet ∧ ∀ b, (s.loadingBegun image straps).loadView b =
      ((s.zonesLoaded image straps).loadBerth b).loadView b := by
  obtain ⟨-, hlcu, -, -, hanu, -⟩ := s.configure_loaded image straps
  have hanus : s.anu = .reset := by rw [hs]; rfl
  have hentries : ∀ i, i ≠ 0 → (Anu.reset.entries.get i).state = .free := by decide
  have hview := s.configure_loadView image straps
  have hlcus : s.lcu = .reset := by rw [hs]; rfl
  rw [hanus] at hanu
  rw [hlcus] at hlcu
  have hbegun : s.loadingBegun image straps = { (s.configure image straps).enterListen with
      tlu := { ((s.configure image straps).enterListen.tlu.newFrame 0 0 false) with inListen := 1 } } := rfl
  rw [hbegun]
  generalize s.configure image straps = u at hanu hlcu hview ⊢
  obtain ⟨hbcu, hmix, hwku, hsfu, hkept⟩ := State.enterListen_idle (s := u) (by rw [hlcu]; rfl) (by rw [hanu]; exact hentries)
  obtain ⟨-, ⟨-, hcfl, -⟩, -, ⟨-, -, -, hlocator⟩, -⟩ := u.enterListen_dropped
  generalize u.enterListen = v at *
  rw [hanu] at hkept
  refine ⟨⟨?_, ?_, ?_, ?_, ?_⟩, fun b => ?_⟩
  · rw [State.heardTags]
    dsimp only
    rw [hlocator]
    rfl
  · dsimp only
    rw [hkept]
    rfl
  · dsimp only
    rw [hkept]
    exact (show (Anu.reset.entries.get 0).state = .idle by decide)
  · dsimp only
    rw [hkept]
    exact hentries
  · dsimp only
    rw [hkept]
    exact fun b => Table.get_replicate _ _
  · rw [← hview, State.loadView, State.loadView, ← hbcu, ← hmix, ← hwku, ← hcfl, State.feed, State.feed, ← hsfu]

/-- R96, R140, R161, R175, R194, R207: the berths of a node loaded after reset, at the end of a plain first frame's start. -/
theorem berthsLoaded_of {s : State} {image : List Byte} {straps : BitVec 6} {fs : FrameStart} (hplain : fs.plain)
    (hs : s = { State.reset with pending := s.pending, cfl := { Loader.reset with reading := true, period := s.cfl.period } }) :
    BerthsLoaded fs s ((s.loadingBegun image straps).startFrame fs .first) := by
  obtain ⟨hquiet, hview⟩ := State.loadingBegun_reset (image := image) (straps := straps) hs
  have htlu := s.loadingBegun_tlu image straps
  generalize s.loadingBegun image straps = u at hquiet hview htlu ⊢
  have hreset : ∀ b, s.bcu.get b = .unconfigured ∧ s.mix.get b = .unconfigured ∧ s.feed b = .reset := fun b => by
    rw [hs]
    exact ⟨Table.get_replicate _ _, Table.get_replicate _ _, Table.get_replicate _ _⟩
  have hloaded : ∀ b, u.loadView b = if (s.zonesLoaded image straps).configured b = true then
      ({ Berth.unconfigured with
          choice := ((s.zonesLoaded image straps).berthCfg b).defaultChoice
          userLevel := ((s.zonesLoaded image straps).berthCfg b).resetLevel },
        MixBerth.unconfigured.berthReset ((s.zonesLoaded image straps).berthCfg b).resetLevel,
        .unconfigured (s.zonesLoaded image straps).cfg.w0,
        Feed.reset.berthReset (s.zonesLoaded image straps).cfg ((s.zonesLoaded image straps).berthCfg b).defaultChoice,
        (s.zonesLoaded image straps).cfl)
      else (.unconfigured, .unconfigured, .unconfigured (s.zonesLoaded image straps).cfg.w0, .reset, (s.zonesLoaded image straps).cfl) :=
    fun b => by
      obtain ⟨hbcu, hmix, hfeed⟩ := hreset b
      have hbefore := s.zonesLoaded_loadView image straps b
      rw [hbcu, hmix, hfeed] at hbefore
      obtain ⟨h1, h⟩ := Prod.mk.inj hbefore
      obtain ⟨h2, h⟩ := Prod.mk.inj h
      obtain ⟨h3, h⟩ := Prod.mk.inj h
      obtain ⟨h4, h5⟩ := Prod.mk.inj h
      rw [hview, State.loadBerth_self, h1, h2, h4]
  generalize s.zonesLoaded image straps = z at hloaded
  have hcfl : u.cfl = z.cfl := by
    have hsame := congrArg (fun v => v.2.2.2.2) (hloaded 0)
    refine hsame.trans ?_
    split <;> rfl
  have hpending : ∀ b, (u.bcu.get b).pendingChoice = none := fun b => by
    refine (congrArg (fun v => v.1.pendingChoice) (hloaded b)).trans ?_
    split <;> rfl
  have hframe : u.tlu.frame = 0 := by rw [htlu]; rfl
  have hlink : u.tlu.link = .listen := by rw [htlu]; rfl
  have hcfg : (u.startFrame fs .first).cfg = z.cfg := State.cfg_congr ((u.startFrame_frame fs .first).2.trans hcfl)
  have hconfigured : ∀ b, u.configured b = z.configured b := State.configured_of_cfl hcfl
  intro b
  have hticked := State.startFrame_first_berths (fs := fs) hplain hframe hlink hquiet hpending b
  have hbefore := hloaded b
  have hcfgs : ∀ b, (u.startFrame fs .first).configured b = z.configured b :=
    State.configured_of_cfl ((u.startFrame_frame fs .first).2.trans hcfl)
  obtain ⟨hbcu, hmix, hwku, hfeed⟩ := hticked
  generalize u.startFrame fs .first = t at *
  rw [hcfg, hcfgs]
  rw [hconfigured, State.berthCfg, State.cfg_congr hcfl] at hbcu
  cases hconf : z.configured b with
  | true =>
    rw [hconf, if_pos rfl] at hbefore hbcu
    obtain ⟨h1, h⟩ := Prod.mk.inj hbefore
    obtain ⟨h2, h⟩ := Prod.mk.inj h
    obtain ⟨h3, h⟩ := Prod.mk.inj h
    obtain ⟨h4, -⟩ := Prod.mk.inj h
    rw [h1] at hbcu
    rw [h2] at hmix
    rw [h3] at hwku
    rw [h4] at hfeed
    refine ⟨fun _ => ⟨?_, ?_, hwku, ?_⟩, nofun⟩
    · rw [hbcu]
      refine ⟨rfl, rfl, rfl, rfl, rfl, rfl, rfl, rfl, rfl, fun i => ?_⟩
      simp only [Berth.tick, Berth.sample, Berth.unconfigured, Table.get_mapIdx, Table.get_replicate, Debouncer.sample_eq]
      rfl
    · rw [hmix]
      refine ⟨fun l => ?_, rfl, rfl, rfl, rfl⟩
      cases l <;> exact ⟨rfl, rfl, rfl⟩
    · rw [hfeed]
      refine ⟨rfl, rfl, rfl, rfl, rfl, fun hnone => ?_, fun hsome => ?_⟩
      · have hv : z.cfg.videoOf (z.berthCfg b).defaultChoice = none := hnone
        simp [Feed.berthReset, hv, countDown]
      · obtain ⟨v, hv⟩ : ∃ v, z.cfg.videoOf (z.berthCfg b).defaultChoice = some v := Option.ne_none_iff_exists'.1 hsome
        simp [Feed.berthReset, hv, countDown]
  | false =>
    rw [hconf, if_neg Bool.false_ne_true] at hbefore hbcu
    obtain ⟨h1, h⟩ := Prod.mk.inj hbefore
    obtain ⟨h2, h⟩ := Prod.mk.inj h
    obtain ⟨h3, h⟩ := Prod.mk.inj h
    obtain ⟨h4, -⟩ := Prod.mk.inj h
    obtain ⟨k1, k2, k4⟩ := hreset b
    rw [h1] at hbcu
    rw [h2] at hmix
    rw [h3] at hwku
    rw [h4] at hfeed
    rw [k1, k2, k4]
    exact ⟨nofun, fun _ => ⟨hbcu, hmix, hfeed, hwku⟩⟩

/-- Settles O6: the corrections, the zones and the berths as LOADING hands them over (`loadingBegun_keeps`, `berthsLoaded_of`), and a
first frame that keeps them. -/
theorem loadingConfiguresTheNode : Obligations.LoadingConfiguresTheNode := by
  intro s
  refine ⟨fun hnode hreading => ?_, fun hhigh => ?_, ⟨rfl, fun hreading hperiod => ?_, fun hoff => ?_⟩, fun image straps fs hlength hreading => ?_⟩
  · show execLoadingStart s = _
    unfold execLoadingStart
    rw [if_neg]
    · rfl
    · simp [State.running, hnode, hreading]
  · show execLoadingStart s = _
    unfold execLoadingStart
    refine if_pos (hhigh.imp (fun h => ?_) id)
    simp [State.running, h]
  · rw [State.cdat, if_pos ⟨hreading, hperiod⟩]
    generalize s.cfl.period = p at hperiod ⊢
    exact congrArg some (by revert p; decide)
  · rw [State.cdat, if_neg]
    rintro ⟨hreading, hperiod⟩
    rcases hoff with h | h
    · exact nomatch h.symm.trans hreading
    · omega
  · obtain ⟨hfixes, hzones⟩ := s.loadingBegun_keeps image straps
    have htlu := s.loadingBegun_tlu image straps
    have hcfl := s.loadingBegun_cfl image straps
    have hberths := fun h1 h2 => berthsLoaded_of (s := s) (image := image) (straps := straps) (fs := fs) h1 h2
    have hpending : (s.loadingBegun image straps).pending = s.pending := by simp [State.loadingBegun, State.enterListen]
    have hexec := exec_loadingEnd hlength hreading straps fs
    generalize s.loadingBegun image straps = u at hfixes hzones htlu hcfl hberths hpending hexec
    have hframe : u.tlu.frame = 0 := by rw [htlu]; rfl
    have hlink : u.tlu.link = .listen := by rw [htlu]; rfl
    have hcount : u.tlu.inListen = 1 := by rw [htlu]
    have hticked := u.startFrame_tlu_listen fs .first ⟨hlink, by omega⟩ hframe
    have hkept := fun h : fs.plain => State.startFrame_first_keeps (fs := fs) h hframe hlink
    obtain ⟨hpend, hcfl'⟩ := u.startFrame_frame fs .first
    generalize u.startFrame fs .first = t at *
    rw [hcfl] at hcfl'
    obtain ⟨hloaded, hcount'⟩ := loadImage_eq image
    have hnode : t.running = true := by rw [State.running, hcfl']; rfl
    have hconfig : t.cfl.config = if noAddress straps = true then (loadImage image).1.withoutAddress else (loadImage image).1 := by
      rw [hcfl']
      rfl
    have hreadingEnds : t.cfl.reading = false := by rw [hcfl']; rfl
    have hlistens : t.tlu.link = .listen := by rw [hticked]; exact hlink
    have hdriven : t.abckDriven = decide (t.cfg.aspTiming = .node) := by rw [State.abckDriven, hnode, Bool.true_and]
    refine ⟨t, hexec, hpend.trans hpending, by rw [hcfl']; rfl, hreadingEnds, by rw [hcfl']; rfl, ?_, ?_, ⟨fun h0 h63 => ?_, fun h => ?_⟩,
      fun hplain => ⟨?_, fun z => ?_⟩, hberths, hreadingEnds, ?_, hnode, hnode, ?_, ?_, hlistens, ?_, ?_, ?_, ?_, ?_⟩
    · rw [hcfl']
      simp [Loader.finish, noAddress]
    · rw [State.faultAsserted, hnode, hlistens]
      simp
    · rw [hconfig, if_neg (by rw [noAddress_iff]; exact not_or.2 ⟨h0, h63⟩), hloaded]
    · rw [hconfig, if_pos ((noAddress_iff straps).2 h), hloaded]
      exact Config.withoutAddress_spec _
    · rw [(hkept hplain).1, hfixes, hcount']
    · rw [(hkept hplain).2, hzones, hcfl', zonesOf, Table.get_ofFn]
    · rw [State.cdat, if_neg (by rw [hreadingEnds]; nofun)]
    · rw [hdriven, decide_eq_true_eq]
    · rw [State.afsPin, hdriven]
      by_cases htiming : t.cfg.aspTiming = .node <;> simp [htiming]
    · rw [hticked]
      exact hframe
    · rw [hticked]
      exact hcount
    · rw [hticked, htlu]
      rfl
    · rw [hticked, htlu]
      rfl
    · rw [hticked, htlu]
      rfl

end Sys2Proof.Machine
end

section
/-!
PROOFS. The configuration image (R43, R56, R196, R198 to R200): its fields, their ranges and the corrections (O7).
-/

namespace Sys2Proof.Machine

/-! ### One field (R199) -/

section field
variable (lo hi v : Nat)

theorem clampField_value (h : lo ≤ hi) : (clampField lo hi v).1 = max lo (min hi v) := by
  unfold clampField
  split
  · show lo = _
    omega
  · split
    · show hi = _
      omega
    · show v = _
      omega

theorem clampField_fixes : (clampField lo hi v).2 = outOf lo hi v := by
  unfold clampField outOf
  by_cases hlo : v < lo
  · simp [hlo]
  · by_cases hhi : hi < v <;> simp [hlo, hhi]

theorem clampField_mem (h : lo ≤ hi) : lo ≤ (clampField lo hi v).1 ∧ (clampField lo hi v).1 ≤ hi := by
  rw [clampField_value lo hi v h]
  omega

end field

theorem tagField_value {k : TagKind} (hk : k ≠ .idle) (v : Byte) : (tagField k v).1 = if tagKind v = k then some v else none := by
  unfold tagField
  by_cases hv : v = 0xFF
  · rw [if_pos hv, if_neg]
    rw [hv]
    exact fun h => hk (h.symm.trans (by decide))
  · rw [if_neg hv]
    split <;> rfl

theorem tagField_fixes (k : TagKind) (v : Byte) : (tagField k v).2 = if v = 0xFF ∨ tagKind v = k then 0 else 1 := by
  unfold tagField
  by_cases hv : v = 0xFF
  · simp [hv]
  · rw [if_neg hv]
    by_cases hk : tagKind v = k
    · rw [if_pos hk, if_pos (.inr hk)]
    · rw [if_neg hk, if_neg (not_or.2 ⟨hv, hk⟩)]

theorem tagKind_of_tagField {k : TagKind} {v t : Byte} (h : (tagField k v).1 = some t) : tagKind t = k := by
  unfold tagField at h
  split at h
  · cases h
  · split at h
    · next hk =>
      cases h
      exact hk
    · cases h

theorem choiceField_value {n : Nat} (hn : n ≤ 16) (v : Byte) : (choiceField n v).1 = if v.toNat < n then .entry v.toNat else .off := by
  unfold choiceField
  by_cases hv : v = 0xFF
  · have hbig : v.toNat = 255 := by rw [hv]; rfl
    rw [if_pos hv, if_neg (by omega)]
  · rw [if_neg hv]
    split <;> rfl

theorem choiceField_fixes (n : Nat) (v : Byte) : (choiceField n v).2 = if v = 0xFF ∨ v.toNat < n then 0 else 1 := by
  unfold choiceField
  by_cases hv : v = 0xFF
  · simp [hv]
  · rw [if_neg hv]
    by_cases hn : v.toNat < n
    · rw [if_pos hn, if_pos (.inr hn)]
    · rw [if_neg hn, if_neg (not_or.2 ⟨hv, hn⟩)]

theorem choiceField_mem {n i : Nat} {v : Byte} (h : (choiceField n v).1 = .entry i) : i < n := by
  unfold choiceField at h
  split at h
  · cases h
  · split at h
    · next hn =>
      cases h
      exact hn
    · cases h

/-! ### The fields of the channels (R43, R56) -/

theorem classField_value {c : Nat} (h : c < 4) : (classField c).1 = (if c = 2 then .wake else if c = 3 then .service else .crew) ∧
    (classField c).2 = outOf 1 3 c ∧ (classField c).1 ≠ .alert := by
  revert c
  decide

theorem targetField_value (kind : Nat) {v : Nat} : (targetField kind v).1 = if kind = 0 then .all
    else if kind = 1 then .zones (BitVec.ofNat 16 (max 1 v)) else .stop (max 1 (min 250 v)) := by
  unfold targetField
  split
  · rfl
  · split
    · split
      · next h => rw [h]; rfl
      · next h => rw [Nat.max_eq_right (Nat.one_le_iff_ne_zero.2 h)]
    · exact congrArg Target.stop (clampField_value 1 250 v (by omega))

theorem targetField_fixes (kind : Nat) {v : Nat} (h : v < 65536) : (targetField kind v).2 =
    if kind = 0 then outOf 0 0 v else if kind = 1 then outOf 1 65535 v else outOf 1 250 v + if kind = 3 then 1 else 0 := by
  unfold targetField
  split
  · by_cases hv : v = 0
    · simp [hv, outOf]
    · simp [hv, outOf, Nat.pos_of_ne_zero hv]
  · split
    · by_cases hv : v = 0
      · simp [hv, outOf]
      · rw [if_neg hv, outOf, if_neg (by omega)]
    · exact congrArg (· + _) (clampField_fixes 1 250 v)

theorem targetField_mem (kind : Nat) {v : Nat} (h : v < 65536) : (∀ m, (targetField kind v).1 = .zones m → m ≠ 0) ∧
    ∀ st, (targetField kind v).1 = .stop st → 1 ≤ st ∧ st ≤ 250 := by
  rw [targetField_value]
  split
  · exact ⟨nofun, nofun⟩
  · split
    · refine ⟨fun m hm => ?_, nofun⟩
      cases hm
      intro hzero
      have hmod : max 1 v % 2 ^ 16 = 0 := congrArg BitVec.toNat hzero
      omega
    · refine ⟨nofun, fun st hst => ?_⟩
      cases hst
      omega

/-- R43: the channel may carry the tag. -/
def mayCarry (c : Fin 8) (t : Byte) : Bool :=
  match tagKind t with
  | .audio => true
  | .alert | .announcement => decide (c.val < 4)
  | _ => false

theorem mayCarry_iff (c : Fin 8) (t : Byte) : mayCarry c t = true ↔ MayCarry c t := by
  unfold mayCarry MayCarry
  cases tagKind t <;> simp

section channels
variable (im : List Byte)

theorem aspField_value (c : Fin 8) : let x := (aspField im c).1; let o := 68 + 4 * c.val
    x.enabled = ((imageByte im (o + 1)).getLsbD 0 && mayCarry c (imageByte im o)) ∧ x.tag = imageByte im o ∧
    x.autoDescribe = (imageByte im (o + 1)).getLsbD 1 ∧
    ((imageByte im (o + 1)).getLsbD 0 = true → (imageByte im (o + 1)).getLsbD 1 = true →
      x.cls = (classField ((imageByte im (o + 1)).toNat / 4 % 4)).1 ∧
      x.target = (targetField ((imageByte im (o + 1)).toNat / 16 % 4) (of16 (imageByte im (o + 2)) (imageByte im (o + 3)))).1) := by
  refine ⟨rfl, rfl, rfl, fun henabled hauto => ?_⟩
  simp only [aspField, henabled, hauto, Bool.and_self, if_true]
  exact ⟨trivial, trivial⟩

theorem aspField_fixes (c : Fin 8) : let o := 68 + 4 * c.val
    (aspField im c).2 = if (imageByte im (o + 1)).getLsbD 0 = false then 0
      else (if mayCarry c (imageByte im o) = true then 0 else 1) +
        if (imageByte im (o + 1)).getLsbD 1 = true then (classField ((imageByte im (o + 1)).toNat / 4 % 4)).2 +
          (targetField ((imageByte im (o + 1)).toNat / 16 % 4) (of16 (imageByte im (o + 2)) (imageByte im (o + 3)))).2
        else 0 := by
  have hfixes : (aspField im c).2 = (if ((imageByte im (68 + 4 * c.val + 1)).getLsbD 0 && (imageByte im (68 + 4 * c.val + 1)).getLsbD 1) = true
      then classField ((imageByte im (68 + 4 * c.val + 1)).toNat / 4 % 4) else (.crew, 0)).2 +
      (if ((imageByte im (68 + 4 * c.val + 1)).getLsbD 0 && (imageByte im (68 + 4 * c.val + 1)).getLsbD 1) = true
        then targetField ((imageByte im (68 + 4 * c.val + 1)).toNat / 16 % 4)
          (of16 (imageByte im (68 + 4 * c.val + 2)) (imageByte im (68 + 4 * c.val + 3))) else (.all, 0)).2 +
      (if ((imageByte im (68 + 4 * c.val + 1)).getLsbD 0 && !mayCarry c (imageByte im (68 + 4 * c.val))) = true then 1 else 0) := rfl
  dsimp only
  rw [hfixes]
  cases (imageByte im (68 + 4 * c.val + 1)).getLsbD 0 with
  | false => rfl
  | true =>
    cases (imageByte im (68 + 4 * c.val + 1)).getLsbD 1 with
    | false => cases mayCarry c (imageByte im (68 + 4 * c.val)) <;> rfl
    | true => cases mayCarry c (imageByte im (68 + 4 * c.val)) <;> simp [Nat.add_comm]

theorem rspField_value (r : Fin 2) : let x := (rspField im r).1; let o := 100 + 2 * r.val
    x.enabled = ((imageByte im (o + 1)).getLsbD 7 && isVideo (imageByte im o)) ∧ x.tag = imageByte im o ∧
    ((imageByte im (o + 1)).getLsbD 7 = true → x.run = max 1 (min 8 ((imageByte im (o + 1)).toNat % 16))) ∧
    (1 ≤ x.run ∧ x.run ≤ 8) := by
  refine ⟨rfl, rfl, fun henabled => ?_, ?_⟩
  · simp only [rspField, henabled, if_true]
    exact clampField_value _ _ _ (by omega)
  · simp only [rspField]
    split
    · exact clampField_mem _ _ _ (by omega)
    · exact ⟨Nat.le_refl _, by omega⟩

theorem rspField_fixes (r : Fin 2) : let o := 100 + 2 * r.val
    (rspField im r).2 = if (imageByte im (o + 1)).getLsbD 7 = true then
      (if tagKind (imageByte im o) = .video then 0 else 1) + outOf 1 8 ((imageByte im (o + 1)).toNat % 16) else 0 := by
  dsimp only
  cases henabled : (imageByte im (100 + 2 * r.val + 1)).getLsbD 7 with
  | false => simp only [rspField, henabled, Bool.false_and, Bool.false_eq_true, if_false]
  | true =>
    simp only [rspField, henabled, Bool.true_and, if_true, clampField_fixes]
    by_cases hvideo : tagKind (imageByte im (100 + 2 * r.val)) = .video
    · simp [isVideo, hvideo]
    · simp [isVideo, Nat.add_comm]

/-! ### The programme list and the berths -/

theorem progField_value (i : Nat) : let p := (progField im i).1; let o := 20 + 3 * i
    p.audio = (if tagKind (imageByte im o) = .audio then some (imageByte im o) else none) ∧
    p.video = (if tagKind (imageByte im (o + 1)) = .video then some (imageByte im (o + 1)) else none) ∧
    (p.video ≠ none → p.run = max 1 (min 8 (imageByte im (o + 2)).toNat)) ∧ (1 ≤ p.run ∧ p.run ≤ 8) := by
  refine ⟨tagField_value (by decide) _, tagField_value (by decide) _, fun hvideo => ?_, ?_⟩
  · have hsome : (tagField .video (imageByte im (20 + 3 * i + 1))).1.isSome = true := Option.isSome_iff_ne_none.2 hvideo
    simp only [progField, hsome, if_true]
    exact clampField_value _ _ _ (by omega)
  · simp only [progField]
    split
    · exact clampField_mem _ _ _ (by omega)
    · exact ⟨Nat.le_refl _, by omega⟩

theorem progField_fixes (i : Nat) : let o := 20 + 3 * i
    (progField im i).2 = (if imageByte im o = 0xFF ∨ tagKind (imageByte im o) = .audio then 0 else 1) +
      (if imageByte im (o + 1) = 0xFF ∨ tagKind (imageByte im (o + 1)) = .video then 0 else 1) +
      if tagKind (imageByte im (o + 1)) = .video then outOf 1 8 (imageByte im (o + 2)).toNat else 0 := by
  simp only [progField, tagField_fixes, tagField_value (k := .video) (by decide)]
  by_cases hvideo : tagKind (imageByte im (20 + 3 * i + 1)) = .video <;> simp [hvideo, clampField_fixes]

theorem berthField_value {n : Nat} (hn : n ≤ 16) (b : Fin 4) : let o := 3 + 4 * b.val
    (berthField im n b).1 = ⟨max 1 (min 16 (imageByte im o).toNat),
      if (imageByte im (o + 1)).toNat < n then .entry (imageByte im (o + 1)).toNat else .off,
      max 0 (min 48 ((imageByte im (o + 2)).toNat % 64)), (imageByte im (o + 2)).getLsbD 7,
      max 0 (min 48 (imageByte im (o + 3)).toNat)⟩ := by
  simp only [berthField, clampField_value _ _ _ (show 1 ≤ 16 by omega), clampField_value _ _ _ (show 0 ≤ 48 by omega),
    choiceField_value hn]

theorem berthField_fixes (n : Nat) (b : Fin 4) : let o := 3 + 4 * b.val
    (berthField im n b).2 = outOf 1 16 (imageByte im o).toNat +
      (if imageByte im (o + 1) = 0xFF ∨ (imageByte im (o + 1)).toNat < n then 0 else 1) +
      outOf 0 48 ((imageByte im (o + 2)).toNat % 64) + outOf 0 48 (imageByte im (o + 3)).toNat := by
  simp only [berthField, clampField_fixes, choiceField_fixes]

theorem berthField_mem (n : Nat) (b : Fin 4) : let x := (berthField im n b).1
    (1 ≤ x.zone ∧ x.zone ≤ 16) ∧ x.defaultLevel ≤ 48 ∧ x.maxLevel ≤ 48 ∧ ∀ i, x.defaultChoice = .entry i → i < n :=
  ⟨clampField_mem _ _ _ (by omega), (clampField_mem _ _ _ (by omega)).2, (clampField_mem _ _ _ (by omega)).2,
    fun _ h => choiceField_mem h⟩

end channels

/-! ### The sums of the corrections -/

theorem map_ofFn_eq_range {α β : Type} {n : Nat} {f : Fin n → α} {g : α → β} {h : Nat → β} (hg : ∀ i, g (f i) = h i.val) :
    (List.ofFn f).map g = (List.range n).map h := by
  refine List.ext_getElem (by simp) fun i h1 h2 => ?_
  simp [hg]

end Sys2Proof.Machine
end

section
/-!
PROOFS. The configuration that an image gives, in the obligation's words (O7).
-/

namespace Sys2Proof.Machine

theorem imageGood_iff {image : List Byte} (hlength : image.length = 128) :
    imageGood image = true ↔ image.getD 0 0 = 0x01 ∧ image.getD 127 0 = xorAll (image.take 127) := by
  have hget : ∀ k, k < 128 → image.getD k 0 = imageByte image k := fun k hk => by
    have hin : k < image.length := hlength ▸ hk
    rw [imageByte, List.getD_eq_getElem _ _ hin, List.getD_eq_getElem _ _ hin]
  have htake : image.take 127 = (List.range 127).map (imageByte image) := by
    refine List.ext_getElem (by simp [hlength]) fun i h1 h2 => ?_
    have hi : i < 127 := by simpa using h2
    rw [List.getElem_take, List.getElem_map, List.getElem_range, ← hget i (by omega), List.getD_eq_getElem]
  rw [imageGood, decide_eq_true_eq, hget 0 (by omega), hget 127 (by omega), htake]

section image
variable (image : List Byte)

/-- The number of entries of the programme list. -/
def imageEntries : Nat := (clampField 0 16 (imageByte image 19).toNat).1

theorem imageEntries_le : imageEntries image ≤ 16 := (clampField_mem 0 16 _ (by omega)).2

theorem readImage_programme : (readImage image).1.programme = (List.range (imageEntries image)).map fun i => (progField image i).1 :=
  List.map_map

theorem readImage_berth (b : Fin 4) : (readImage image).1.berths.get b = (berthField image (imageEntries image) b).1 :=
  (Table.get_map _ _ _).trans (congrArg Prod.fst (Table.get_ofFn _ _))

theorem readImage_asp (c : Fin 8) : (readImage image).1.asp.get c = (aspField image c).1 :=
  (Table.get_map _ _ _).trans (congrArg Prod.fst (Table.get_ofFn _ _))

theorem readImage_rsp (r : Fin 2) : (readImage image).1.rsp.get r = (rspField image r).1 :=
  (Table.get_map _ _ _).trans (congrArg Prod.fst (Table.get_ofFn _ _))

theorem readImage_entry {i : Nat} {p : ProgEntry} (h : (readImage image).1.programme[i]? = some p) :
    i < imageEntries image ∧ p = (progField image i).1 := by
  rw [readImage_programme, List.getElem?_map] at h
  by_cases hi : i < imageEntries image
  · rw [List.getElem?_range hi] at h
    exact ⟨hi, (Option.some.inj h).symm⟩
  · rw [List.getElem?_eq_none (by simpa using hi)] at h
    cases h

theorem imageLaidOut_readImage : ImageLaidOut image (readImage image).1 := by
  have hpolicy : ∀ x : Bool, policyOf x = .ignore ↔ x = true := by decide
  have htiming : ∀ x : Bool, (if x = true then AspTiming.device else .node) = .device ↔ x = true := by decide
  have hword : ∀ k, of16 (imageByte image k) (imageByte image (k + 1)) =
      256 * (image.getD k 0xFF).toNat + (image.getD (k + 1) 0xFF).toNat := fun k => by
    rw [of16, Nat.mul_comm]
    rfl
  have hn := imageEntries_le image
  have hentries : imageEntries image = max 0 (min 16 (image.getD 19 0xFF).toNat) := clampField_value _ _ _ (by omega)
  unfold ImageLaidOut
  intro at_ byte word bit within tag n
  refine ⟨⟨rfl, hpolicy _, hpolicy _, htiming _, rfl, clampField_value _ _ _ (by omega)⟩, fun b hb => ?_, ⟨?_, fun i p hp => ?_⟩,
    fun ch => ?_, fun r => ?_, ?_⟩
  · intro o
    rw [readImage_berth, berthField_value image hn, hentries]
    rfl
  · rw [readImage_programme, List.length_map, List.length_range, hentries]
  · obtain ⟨-, rfl⟩ := readImage_entry image hp
    obtain ⟨haudio, hvideo, hrun, -⟩ := progField_value image i
    exact ⟨haudio, hvideo, hrun⟩
  · obtain ⟨henabled, htag, hauto, hfields⟩ := aspField_value image ch
    have henabledIff : (aspField image ch).1.enabled = true ↔
        (imageByte image (68 + 4 * ch.val + 1)).getLsbD 0 = true ∧ MayCarry ch (imageByte image (68 + 4 * ch.val)) := by
      rw [henabled, Bool.and_eq_true, mayCarry_iff]
    rw [readImage_asp]
    refine ⟨henabledIff, fun _ => ⟨htag, hauto⟩, fun hon hdescribes => ?_⟩
    obtain ⟨hcls, htarget⟩ := hfields (henabledIff.1 hon).1 (hauto ▸ hdescribes)
    rw [hcls, htarget, (classField_value (Nat.mod_lt _ (by omega))).1, targetField_value, hword]
    exact ⟨rfl, rfl⟩
  · obtain ⟨henabled, htag, hrun, -⟩ := rspField_value image r
    have henabledIff : (rspField image r).1.enabled = true ↔
        (imageByte image (100 + 2 * r.val + 1)).getLsbD 7 = true ∧ tagKind (imageByte image (100 + 2 * r.val)) = .video := by
      rw [henabled, Bool.and_eq_true, isVideo, decide_eq_true_eq]
    rw [readImage_rsp]
    exact ⟨henabledIff, fun hon => ⟨htag, hrun (henabledIff.1 hon).1⟩⟩
  · have hclamp : ∀ lo hi v, lo ≤ hi → (clampField lo hi v).1 = within lo hi v := fun lo hi v h => clampField_value lo hi v h
    have hclampWord : ∀ lo hi k, lo ≤ hi → (clampField lo hi (of16 (imageByte image k) (imageByte image (k + 1)))).1 = within lo hi (word k) :=
      fun lo hi k h => (clampField_value lo hi _ h).trans (by rw [hword])
    refine ⟨hclamp _ _ _ (by omega), hclamp _ _ _ (by omega), hclampWord _ _ 106 (by omega), hclamp _ _ _ (by omega), ?_,
      hclamp _ _ _ (by omega), hclamp _ _ _ (by omega), hclampWord _ _ 112 (by omega), hclamp _ _ _ (by omega),
      hclamp _ _ _ (by omega), hclamp _ _ _ (by omega), hclamp _ _ _ (by omega), ?_⟩
    · have hw0 := (clampField_mem 0 48 (imageByte image 108).toNat (by omega)).2
      refine (clampField_value _ 48 (imageByte image 109).toNat hw0).trans ?_
      show max (clampField 0 48 (imageByte image 108).toNat).1 (min 48 (byte 109)) = max _ (max 0 (min 48 (byte 109)))
      rw [Nat.zero_max]
      rfl
    · have hmask : (readImage image).1.nightMask = BitVec.ofNat 16 (of16 (imageByte image 118) (imageByte image 119)) := rfl
      rw [hmask, BitVec.toNat_ofNat, Nat.mod_eq_of_lt (of16_lt _ _)]
      exact hword 118

/-- R199: every field of the configuration is in its range. -/
theorem readImage_ranges : let c := (readImage image).1
    c.berthCount ≤ 4 ∧ c.programme.length ≤ 16 ∧ c.duckDepth ≤ 49 ∧ (1 ≤ c.duckRate ∧ c.duckRate ≤ 255) ∧
    c.duckHold ≤ 2000 ∧ (c.w0 ≤ c.w1 ∧ c.w1 ≤ 48) ∧ c.escalation ≤ 16 ∧ (1 ≤ c.wakeRate ∧ c.wakeRate ≤ 255) ∧
    (30 ≤ c.wakeHold ∧ c.wakeHold ≤ 600) ∧ c.crewHeadset ≤ 48 ∧ c.crewPillow ≤ 48 ∧ c.wakeHeadset ≤ 48 ∧
    c.serviceHeadset ≤ 48 := by
  have hle : ∀ lo hi v, lo ≤ hi → (clampField lo hi v).1 ≤ hi := fun lo hi v h => (clampField_mem lo hi v h).2
  refine ⟨hle _ _ _ (by omega), ?_, hle _ _ _ (by omega), clampField_mem _ _ _ (by omega), hle _ _ _ (by omega),
    clampField_mem _ _ _ (hle _ _ _ (by omega)), hle _ _ _ (by omega), clampField_mem _ _ _ (by omega), clampField_mem _ _ _ (by omega),
    hle _ _ _ (by omega), hle _ _ _ (by omega), hle _ _ _ (by omega), hle _ _ _ (by omega)⟩
  rw [readImage_programme, List.length_map, List.length_range]
  exact imageEntries_le image

/-- The corrections of the image, field by field. -/
theorem readImage_corrections : (readImage image).2 =
    outOf 0 4 (imageByte image 2).toNat + outOf 0 16 (imageByte image 19).toNat +
    (((List.range (imageEntries image)).map (progField image)).map (·.2)).sum +
    (((List.ofFn (berthField image (imageEntries image))).take (clampField 0 4 (imageByte image 2).toNat).1).map (·.2)).sum +
    ((List.ofFn (aspField image)).map (·.2)).sum + ((List.ofFn (rspField image)).map (·.2)).sum +
    outOf 0 49 (imageByte image 104).toNat + outOf 1 255 (imageByte image 105).toNat +
    outOf 0 2000 (of16 (imageByte image 106) (imageByte image 107)) + outOf 0 48 (imageByte image 108).toNat +
    outOf (clampField 0 48 (imageByte image 108).toNat).1 48 (imageByte image 109).toNat +
    outOf 0 16 (imageByte image 110).toNat + outOf 1 255 (imageByte image 111).toNat +
    outOf 30 600 (of16 (imageByte image 112) (imageByte image 113)) + outOf 0 48 (imageByte image 114).toNat +
    outOf 0 48 (imageByte image 115).toNat + outOf 0 48 (imageByte image 116).toNat + outOf 0 48 (imageByte image 117).toNat := by
  simp only [← clampField_fixes]
  rfl

theorem readImage_fixes : (readImage image).2 = imageFixes image := by
  have hzero : ∀ hi v, (clampField 0 hi v).1 = min hi v := fun hi v => (clampField_value 0 hi v (Nat.zero_le _)).trans (Nat.zero_max _)
  have hword : ∀ k, of16 (imageByte image k) (imageByte image (k + 1)) =
      256 * (imageByte image k).toNat + (imageByte image (k + 1)).toNat := fun k => by rw [of16, Nat.mul_comm]
  rw [readImage_corrections, hword 106, hword 112, hzero, hzero]
  unfold imageFixes
  extract_lets at_ byte word bit n w0 choice tag berth entry target carries asp rsp sum
  have hentries : imageEntries image = n := hzero _ _
  have hcarries : ∀ c : Fin 8, ∀ t, carries c.val t = mayCarry c t := fun c t => by
    rw [Bool.eq_iff_iff, mayCarry_iff, decide_eq_true_eq]
    rfl
  have hprogrammes : (((List.range n).map (progField image)).map (·.2)).sum = sum n entry := by
    rw [List.map_map]
    exact congrArg List.sum (List.map_congr_left fun i _ => progField_fixes image i)
  have hberths : (((List.ofFn (berthField image n)).take (min 4 (imageByte image 2).toNat)).map (·.2)).sum = sum (min 4 (byte 2)) berth := by
    rw [List.map_take, map_ofFn_eq_range (h := berth) fun b => berthField_fixes image n b, ← List.map_take, List.take_range]
    exact congrArg (fun k => sum k berth) (Nat.min_eq_left (Nat.min_le_left _ _))
  have hasps : ((List.ofFn (aspField image)).map (·.2)).sum = sum 8 asp := by
    refine congrArg List.sum (map_ofFn_eq_range fun c => (aspField_fixes image c).trans ?_)
    rw [← hcarries, (classField_value (Nat.mod_lt _ (by omega))).2.1, targetField_fixes _ (of16_lt _ _), hword]
    rfl
  have hrsps : ((List.ofFn (rspField image)).map (·.2)).sum = sum 2 rsp :=
    congrArg List.sum (map_ofFn_eq_range fun r => rspField_fixes image r)
  rw [hentries, hprogrammes, hberths, hasps, hrsps, Nat.add_right_comm _ (sum n entry) (sum (min 4 (byte 2)) berth)]
  rfl

end image

/-- Settles O7: each field is read by its own function, whose value, range and count of corrections stand above. -/
theorem imageFieldsEndInRange : Obligations.ImageFieldsEndInRange := by
  refine ⟨fun image hlength => ⟨imageGood_iff hlength, imageLaidOut_readImage image, readImage_fixes image⟩, by decide, fun image => ?_⟩
  obtain ⟨hcount, hlength, hdepth, hduckRate, hduckHold, hbases, hescalation, hwakeRate, hwakeHold, hcrewHeadset, hcrewPillow,
    hwakeHeadset, hserviceHeadset⟩ := readImage_ranges image
  refine ⟨hcount, hlength, hdepth, hduckRate, hduckHold, hbases, hescalation, hwakeRate, hwakeHold, hcrewHeadset, hcrewPillow,
    hwakeHeadset, hserviceHeadset, fun b => ?_, fun p hp => ?_, fun ch => ?_, fun r => ?_⟩
  · obtain ⟨hzone, hdefault, hmax, hchoice⟩ := berthField_mem image (imageEntries image) b
    rw [readImage_berth, readImage_programme, List.length_map, List.length_range]
    exact ⟨hzone, hdefault, hmax, hchoice⟩
  · rw [readImage_programme, List.mem_map] at hp
    obtain ⟨i, -, rfl⟩ := hp
    obtain ⟨-, -, -, hrun⟩ := progField_value image i
    exact ⟨fun a h => tagKind_of_tagField h, fun v h => tagKind_of_tagField h, hrun⟩
  · obtain ⟨henabled, htag, hauto, hfields⟩ := aspField_value image ch
    rw [readImage_asp]
    intro a
    have hon : a.enabled = true → (imageByte image (68 + 4 * ch.val + 1)).getLsbD 0 = true ∧
        MayCarry ch (imageByte image (68 + 4 * ch.val)) := fun h => by
      rw [henabled, Bool.and_eq_true, mayCarry_iff] at h
      exact h
    refine ⟨fun h => htag ▸ (hon h).2, fun h hdescribes => ?_⟩
    obtain ⟨hcls, htarget⟩ := hfields (hon h).1 (hauto ▸ hdescribes)
    obtain ⟨hzones, hstops⟩ := targetField_mem ((imageByte image (68 + 4 * ch.val + 1)).toNat / 16 % 4)
      (of16_lt (imageByte image (68 + 4 * ch.val + 2)) (imageByte image (68 + 4 * ch.val + 3)))
    rw [← htarget] at hzones hstops
    exact ⟨hcls ▸ (classField_value (Nat.mod_lt _ (by omega))).2.2, hzones, hstops⟩
  · obtain ⟨henabled, htag, -, hrun⟩ := rspField_value image r
    rw [readImage_rsp]
    refine ⟨hrun, fun h => ?_⟩
    rw [henabled, Bool.and_eq_true, isVideo, decide_eq_true_eq] at h
    exact htag ▸ h.2

end Sys2Proof.Machine
end

section
/-!
PROOFS. An event that is not due changes nothing (O4): what each event's row asks for puts the event among those due.
-/

namespace Sys2Proof.Machine

/-! ### Where the events stand among those due -/

theorem mem_dueIf {c : Bool} {e : Event} (h : c = true) : e ∈ dueIf c e := by
  rw [dueIf, if_pos h]
  exact List.mem_singleton_self e

section due
variable {s : State} {e : Event}

theorem State.mem_dueEvents : e ∈ s.dueEvents ↔ ((e ∈ s.dueTrunk ∨ e ∈ s.dueTables) ∨ e ∈ s.dueBerths) ∨ e ∈ s.dueLink := by
  simp only [State.dueEvents, List.mem_append]

theorem due_of_trunk (h : e ∈ s.dueTrunk) : e ∈ s.dueEvents := State.mem_dueEvents.2 (.inl (.inl (.inl h)))

theorem due_of_tables (h : e ∈ s.dueTables) : e ∈ s.dueEvents := State.mem_dueEvents.2 (.inl (.inl (.inr h)))

theorem due_of_berths (h : e ∈ s.dueBerths) : e ∈ s.dueEvents := State.mem_dueEvents.2 (.inl (.inr h))

theorem due_of_link (h : e ∈ s.dueLink) : e ∈ s.dueEvents := State.mem_dueEvents.2 (.inr h)

theorem due_of_foreign (h : s.foreignDue = true) : .framesSinceForeign ∈ s.dueEvents :=
  due_of_trunk (List.mem_append_left _ (List.mem_append_left _ (List.mem_append_left _ (mem_dueIf h))))

theorem due_of_listen (h : s.listenDue = true) : .framesInListen ∈ s.dueEvents :=
  due_of_trunk (List.mem_append_left _ (List.mem_append_left _ (List.mem_append_right _ (mem_dueIf h))))

theorem due_of_record {x : Byte × List Byte} {rest : List (Byte × List Byte)} (h : s.sfu.inbox = x :: rest) :
    .recordDelivered ∈ s.dueEvents := by
  refine due_of_trunk (List.mem_append_left _ (List.mem_append_right _ ?_))
  rw [h]
  exact List.mem_cons_self

theorem due_of_message {m : Message} {rest : List Message} (h : s.cmu.dispatch = m :: rest) : messageEvent m ∈ s.dueEvents := by
  refine due_of_trunk (List.mem_append_right _ ?_)
  rw [h]
  exact List.mem_cons_self

theorem due_of_entry {i : Fin 16} (hi : i ≠ 0) (h : e ∈ (s.anu.entries.get i).due i) : e ∈ s.dueEvents := by
  refine due_of_tables ?_
  simp only [State.dueTables, List.mem_append, List.mem_flatMap]
  exact .inl (.inl (.inl (.inl (.inl (.inl ⟨i, mem_announcementIndices.2 hi, h⟩)))))

theorem due_of_entry0 (h : (s.anu.entries.get 0).state = .fading ∧ 8 ≤ (s.anu.entries.get 0).absence) :
    .entry0Fade ∈ s.dueEvents := by
  refine due_of_tables ?_
  simp only [State.dueTables, List.mem_append]
  exact .inl (.inl (.inl (.inl (.inl (.inr (mem_dueIf (decide_eq_true h)))))))

theorem due_of_lane {l : Fin 24} (h : (s.lcu.lanes.get l).missDue = true) : .missCount l ∈ s.dueEvents := by
  refine due_of_tables ?_
  simp only [State.dueTables, List.mem_append, List.mem_flatMap]
  exact .inl (.inl (.inl (.inl (.inr ⟨l, mem_indices l, mem_dueIf h⟩))))

theorem due_of_backoff {h : Fin 11} (hdue : (s.holding h).backoffDue = true ∧ (s.holding h).state = .backoff) :
    .backoff h ∈ s.dueEvents := by
  refine due_of_tables ?_
  simp only [State.dueTables, List.mem_append, List.mem_flatMap]
  refine .inl (.inl (.inl (.inr ⟨h, mem_indices h, mem_dueIf ?_⟩)))
  rw [hdue.1, Bool.true_and]
  exact decide_eq_true hdue.2

theorem due_of_prescaler (h : s.cmu.prescaler = 0) : .secondsPrescaler ∈ s.dueEvents := by
  refine due_of_tables ?_
  simp only [State.dueTables, List.mem_append]
  exact .inl (.inl (.inr (mem_dueIf (decide_eq_true h))))

theorem due_of_talk {c : Fin 4} (h : e ∈ (s.asp.talk.get c).due c) : e ∈ s.dueEvents := by
  refine due_of_tables ?_
  simp only [State.dueTables, List.mem_append, List.mem_flatMap]
  exact .inl (.inr ⟨c, mem_indices c, h⟩)

theorem due_of_alert (h : s.anu.alert.due = true) : .alertAccepted ∈ s.dueEvents :=
  due_of_tables (List.mem_append_right _ (mem_dueIf h))

theorem due_of_panel {b : Fin 4} (h : e ∈ (s.bcu.get b).due b) : e ∈ s.dueEvents := by
  refine due_of_berths ?_
  simp only [State.dueBerths, List.mem_append, List.mem_flatMap]
  exact .inl (.inl (.inl ⟨b, mem_indices b, h⟩))

theorem due_of_mixer {b : Fin 4} (h : e ∈ (s.mix.get b).due b) : e ∈ s.dueEvents := by
  refine due_of_berths ?_
  simp only [State.dueBerths, List.mem_append, List.mem_flatMap]
  exact .inl (.inl (.inr ⟨b, mem_indices b, h⟩))

theorem due_of_hold {b : Fin 4} (h : (s.wku.get b).holdOver = true) : .holdTimer b ∈ s.dueEvents := by
  refine due_of_berths ?_
  simp only [State.dueBerths, List.mem_append, List.mem_flatMap]
  exact .inl (.inr ⟨b, mem_indices b, mem_dueIf h⟩)

theorem due_of_screen {b : Fin 4} (h : e ∈ (s.feed b).due b) : e ∈ s.dueEvents := by
  refine due_of_berths ?_
  simp only [State.dueBerths, List.mem_append, List.mem_flatMap]
  exact .inr ⟨b, mem_indices b, h⟩

theorem due_of_gap (h : expired s.svl.gap = true) : .gapTimer ∈ s.dueEvents :=
  due_of_link (List.mem_append_left _ (mem_dueIf h))

theorem due_of_command {c : List Byte} (h : s.svl.command = some c) : .command (classify c) ∈ s.dueEvents := by
  refine due_of_link (List.mem_append_right _ ?_)
  rw [h]
  exact List.mem_singleton_self _

/-! ### The inputs and timers of a berth (R126) -/

theorem mem_panelInputs (i : PanelInput) : i ∈ panelInputs := by cases i <;> decide

theorem due_of_inputTurn {b : Fin 4} {i : PanelInput} (h : (s.bcu.get b).inputTurn i = true) :
    inputEvent b i (!((s.bcu.get b).input i).active) ∈ s.dueEvents := by
  obtain ⟨hdue, -⟩ := Bool.and_eq_true_iff.1 h
  refine due_of_panel (b := b) ?_
  simp only [Berth.due, List.mem_append, List.mem_flatMap]
  exact .inl (.inl (.inl (.inl ⟨i, mem_panelInputs i, mem_dueIf hdue⟩)))

theorem due_of_inputDue {b : Fin 4} {i : PanelInput} {level : Bool} (h : s.inputDue b i level = true) :
    inputEvent b i level ∈ s.dueEvents := by
  obtain ⟨hturn, hactive⟩ := Bool.and_eq_true_iff.1 h
  have hmem := due_of_inputTurn hturn
  rwa [of_decide_eq_true hactive, Bool.not_not] at hmem

theorem due_of_repeat {b : Fin 4} {d : Dir} (h : (s.bcu.get b).repeatDue d = true) : .repeatTimer b d ∈ s.dueEvents := by
  obtain ⟨hboth, -⟩ := Bool.and_eq_true_iff.1 h
  obtain ⟨-, hexpired⟩ := Bool.and_eq_true_iff.1 hboth
  refine due_of_panel (b := b) ?_
  simp only [Berth.due, List.mem_append]
  cases d with
  | up => exact .inl (.inl (.inl (.inr (mem_dueIf hexpired))))
  | down => exact .inl (.inl (.inr (mem_dueIf hexpired)))

theorem due_of_pending {b : Fin 4} (h : (s.bcu.get b).pendingDue = true) : .pendingTimer b ∈ s.dueEvents := by
  obtain ⟨-, hexpired⟩ := Bool.and_eq_true_iff.1 h
  refine due_of_panel (b := b) ?_
  simp only [Berth.due, List.mem_append]
  exact .inl (.inr (mem_dueIf hexpired))

theorem due_of_flash {b : Fin 4} (h : (s.bcu.get b).flashDue = true) : .flashPhase b ∈ s.dueEvents := by
  obtain ⟨-, hexpired⟩ := Bool.and_eq_true_iff.1 h
  refine due_of_panel (b := b) ?_
  simp only [Berth.due, List.mem_append]
  exact .inr (mem_dueIf hexpired)

theorem due_of_ramp {b : Fin 4} {l : LevelName} (h : expired ((s.mix.get b).level l).counter = true) :
    .rampStep b l ∈ s.dueEvents := by
  refine due_of_mixer (b := b) ?_
  simp only [MixBerth.due, List.mem_append]
  cases l with
  | programme => exact .inl (.inl (.inl (mem_dueIf h)))
  | headset => exact .inl (.inl (.inr (mem_dueIf h)))
  | pillow => exact .inl (.inr (mem_dueIf h))

/-! ### The rows (O4) -/

theorem takeCommand_not_due {k : ServiceCommand} (h : .command k ∉ s.dueEvents) (effect : List Byte → State → State) :
    s.takeCommand k effect = s := by
  unfold State.takeCommand
  split
  · rfl
  · next c hc =>
    refine if_neg fun hk => h ?_
    rw [← hk]
    exact due_of_command hc

end due

/-- Settles O4: each row acts only where its event stands among those due. -/
theorem eventsNotDueChangeNothing : Obligations.EventsNotDueChangeNothing := by
  intro e s h
  cases e with
  | framesSinceForeign => exact if_neg fun hd => h (due_of_foreign hd)
  | framesInListen => exact if_neg fun hd => h (due_of_listen hd)
  | recordDelivered =>
    show s.takeRecord = s
    unfold State.takeRecord
    split
    · rfl
    · next hinbox => exact absurd (due_of_record hinbox) h
  | present | withdraw | berthSet | zoneMode | card | wakeMissed | wakeClear =>
    simp only [takeEvent, State.takePresent, State.takeWithdraw, State.takeBerthSet, State.takeZoneMode, State.takeCard,
      State.takeWakeMissed, State.takeWakeClear]
    split
    · next hm => exact absurd (due_of_message hm) h
    · rfl
  | fading i =>
    exact if_neg fun hd => h (due_of_entry hd.1 (List.mem_append_left _ (mem_dueIf (decide_eq_true hd.2))))
  | descriptionAge i =>
    exact if_neg fun hd => h (due_of_entry hd.1 (List.mem_append_right _ (mem_dueIf (decide_eq_true hd.2))))
  | entry0Fade => exact if_neg fun hd => h (due_of_entry0 hd)
  | missCount l => exact if_neg fun hd => h (due_of_lane hd)
  | backoff x => exact if_neg fun hd => h (due_of_backoff hd)
  | secondsPrescaler => exact if_neg fun hd => h (due_of_prescaler hd)
  | talkActivation c =>
    refine if_neg fun hd => h (due_of_talk (c := c) ?_)
    rw [Talk.due, hd.2]
    exact mem_dueIf hd.1
  | talkDeactivation c =>
    refine if_neg fun hd => h (due_of_talk (c := c) ?_)
    rw [Talk.due, hd.2]
    exact mem_dueIf hd.1
  | alertAccepted => exact if_neg fun hd => h (due_of_alert hd)
  | headsetDetect b => exact if_neg fun hd => h (due_of_inputTurn hd)
  | volPress b d => exact if_neg fun hd => h (by cases d <;> exact due_of_inputDue hd)
  | volRelease b d => exact if_neg fun hd => h (by cases d <;> exact due_of_inputDue hd)
  | channelPress b d => exact if_neg fun hd => h (by cases d <;> exact due_of_inputDue hd)
  | ackPress b => exact if_neg fun hd => h (due_of_inputDue hd)
  | buttonRelease b k => exact if_neg fun hd => h (by cases k <;> exact due_of_inputDue hd)
  | repeatTimer b d => exact if_neg fun hd => h (due_of_repeat hd)
  | pendingTimer b => exact if_neg fun hd => h (due_of_pending hd)
  | flashPhase b => exact if_neg fun hd => h (due_of_flash hd)
  | rampStep b l => exact if_neg fun hd => h (due_of_ramp hd)
  | duckHold b => exact if_neg fun hd => h (due_of_mixer (List.mem_append_right _ (mem_dueIf hd)))
  | holdTimer b => exact if_neg fun hd => h (due_of_hold hd)
  | waitKeyTimer b =>
    exact if_neg fun hd => h (due_of_screen (List.mem_append_left _ (List.mem_append_left _ (mem_dueIf hd))))
  | cardDuration b =>
    show s.takeCardDuration b = s
    unfold State.takeCardDuration
    split
    · next o ho =>
      refine if_neg fun hd => h (due_of_screen (List.mem_append_left _ (List.mem_append_right _ (mem_dueIf ?_))))
      rw [ho]
      exact hd
    · rfl
  | linger b =>
    show s.takeLinger b = s
    unfold State.takeLinger
    split
    · next o ho =>
      refine if_neg fun hd => h (due_of_screen (List.mem_append_right _ (mem_dueIf ?_)))
      rw [ho]
      exact hd
    · rfl
  | gapTimer => exact if_neg fun hd => h (due_of_gap hd)
  | command k => exact (takeEvent_command k s).trans (takeCommand_not_due h _)

end Sys2Proof.Machine
end

section
/-!
PROOFS. The demand list and the grants (R107 to R109, O35).
-/

namespace Sys2Proof.Machine

/-! ### Granting (R109) -/

section grant
variable {loc : List LocItem}

theorem skips_iff {g : Grant} : skips loc g = true ↔
    locate loc g.tag = none ∨ (isVideo g.tag = true ∧ ∀ i, locate loc g.tag = some i → i.run ≠ g.run) := by
  unfold skips
  cases hloc : locate loc g.tag with
  | none => simp
  | some i => simp

theorem grantDown_skip {g : Grant} (h : skips loc g = true) (rest : List Grant) (p : List Grant × Nat) :
    grantDown loc (g :: rest) p = grantDown loc rest p := if_pos h

theorem grantDown_take {g : Grant} (h : skips loc g = false) (rest : List Grant) {got : List Grant} {n : Nat}
    (hfits : lanesUsed got + g.lanes ≤ 24 ∧ assemblersUsed got + g.assemblers ≤ 8) :
    grantDown loc (g :: rest) (got, n) = grantDown loc rest (got ++ [g], n) :=
  (if_neg (by simp [h])).trans (if_pos hfits)

theorem grantDown_deny {g : Grant} (h : skips loc g = false) (rest : List Grant) {got : List Grant} {n : Nat}
    (hfull : ¬(lanesUsed got + g.lanes ≤ 24 ∧ assemblersUsed got + g.assemblers ≤ 8)) :
    grantDown loc (g :: rest) (got, n) = grantDown loc rest (got, n + 1) :=
  (if_neg (by simp [h])).trans (if_neg hfull)

theorem grantedInOrder (loc : List LocItem) : GrantedInOrder loc := by
  refine ⟨fun _ => rfl, fun g rest got n => ?_⟩
  intro skipped fits
  have hskips : skips loc g = true ↔ skipped := skips_iff
  have hnot : ¬skipped → skips loc g = false := fun h => by
    rw [← Bool.not_eq_true, hskips]
    exact h
  refine ⟨fun h => ⟨if_pos h, if_pos h⟩, fun h => ⟨if_neg (by simp [h]), if_neg (by simp [h])⟩, fun h => ?_, fun h hfits => ?_,
    fun h hfull => ?_⟩
  · exact grantDown_skip (hskips.2 h) rest _
  · exact grantDown_take (hnot h) rest hfits
  · exact grantDown_deny (hnot h) rest hfull

theorem lanesUsed_append (p q : List Grant) : lanesUsed (p ++ q) = lanesUsed p + lanesUsed q := by simp [lanesUsed]

theorem assemblersUsed_append (p q : List Grant) : assemblersUsed (p ++ q) = assemblersUsed p + assemblersUsed q := by
  simp [assemblersUsed]

/-- What a list that begins with `g` uses. -/
theorem used_cons (g : Grant) (rest : List Grant) :
    lanesUsed (g :: rest) = g.lanes + lanesUsed rest ∧ assemblersUsed (g :: rest) = g.assemblers + assemblersUsed rest := by
  simp [lanesUsed, assemblersUsed]

/-- R109: what is granted is a part of the demands, located, and fits the pool; a list that fits whole is denied nothing. -/
theorem grantDown_spec (demands : List Grant) : ∀ (got : List Grant) (n : Nat), lanesUsed got ≤ 24 → assemblersUsed got ≤ 8 →
    ∃ more, (grantDown loc demands (got, n)).1 = got ++ more ∧ more.Sublist demands ∧ (∀ g ∈ more, skips loc g = false) ∧
      lanesUsed (got ++ more) ≤ 24 ∧ assemblersUsed (got ++ more) ≤ 8 ∧
      (lanesUsed got + lanesUsed demands ≤ 24 → assemblersUsed got + assemblersUsed demands ≤ 8 →
        (grantDown loc demands (got, n)).2 = n) := by
  induction demands with
  | nil => exact fun got n hlanes hasm => ⟨[], (List.append_nil got).symm, .slnil, nofun, by simpa, by simpa, fun _ _ => rfl⟩
  | cons g rest ih =>
    intro got n hlanes hasm
    obtain ⟨hglanes, hgasm⟩ := used_cons g rest
    have hone := used_cons g []
    cases hskips : skips loc g with
    | true =>
      obtain ⟨more, hmore, hsub, hin, hl, ha, hwhole⟩ := ih got n hlanes hasm
      rw [grantDown_skip hskips]
      exact ⟨more, hmore, hsub.cons g, hin, hl, ha, fun h1 h2 => hwhole (by omega) (by omega)⟩
    | false =>
      by_cases hfits : lanesUsed got + g.lanes ≤ 24 ∧ assemblersUsed got + g.assemblers ≤ 8
      · have hl := lanesUsed_append got [g]
        have ha := assemblersUsed_append got [g]
        have hnil : lanesUsed ([] : List Grant) = 0 ∧ assemblersUsed ([] : List Grant) = 0 := ⟨rfl, rfl⟩
        obtain ⟨more, hmore, hsub, hin, hl', ha', hwhole⟩ := ih (got ++ [g]) n (by omega) (by omega)
        rw [grantDown_take hskips rest hfits]
        have happend : got ++ [g] ++ more = got ++ (g :: more) := by simp
        rw [happend] at hmore hl' ha'
        refine ⟨g :: more, hmore, hsub.cons_cons g, fun x hx => ?_, hl', ha', fun h1 h2 => hwhole (by omega) (by omega)⟩
        rcases List.mem_cons.1 hx with rfl | hx
        · exact hskips
        · exact hin x hx
      · obtain ⟨more, hmore, hsub, hin, hl, ha, -⟩ := ih got (n + 1) hlanes hasm
        rw [grantDown_deny hskips rest hfits]
        exact ⟨more, hmore, hsub.cons g, hin, hl, ha, fun h1 h2 => absurd ⟨by omega, by omega⟩ hfits⟩

end grant

/-! ### The entries that berths follow, in order (R108) -/

/-- R108, step 2: the rank of an entry's class. -/
def State.demandRank (s : State) (i : Fin 16) : Nat := match (s.anu.entries.get i).cls with | some c => AnnClass.rank c | none => 4

/-- R108, step 2: the order of class rank, stamp and index, without equality. -/
def State.demandedBefore (s : State) (i j : Fin 16) : Prop := s.demandRank i < s.demandRank j ∨
  (s.demandRank i = s.demandRank j ∧ (s.stampOf i < s.stampOf j ∨ (s.stampOf i = s.stampOf j ∧ i < j)))

section order
variable {s : State}

theorem State.entryBefore_iff {i j : Fin 16} (h : i ≠ j) : s.entryBefore i j = true ↔ s.demandedBefore i j := by
  have hval : i.val ≠ j.val := fun hv => h (Fin.ext hv)
  unfold State.entryBefore
  rw [decide_eq_true_eq]
  unfold State.demandedBefore
  change (s.demandRank i < s.demandRank j ∨ _) ↔ _
  rw [Fin.lt_def]
  constructor
  · rintro (h | ⟨h1, h | ⟨h2, h3⟩⟩)
    · exact .inl h
    · exact .inr ⟨h1, .inl h⟩
    · exact .inr ⟨h1, .inr ⟨h2, by omega⟩⟩
  · rintro (h | ⟨h1, h | ⟨h2, h3⟩⟩)
    · exact .inl h
    · exact .inr ⟨h1, .inl h⟩
    · exact .inr ⟨h1, .inr ⟨h2, by omega⟩⟩

theorem State.demandedBefore_total {i j : Fin 16} (h : i ≠ j) : s.demandedBefore i j ∨ s.demandedBefore j i := by
  have hval : i.val ≠ j.val := fun hv => h (Fin.ext hv)
  unfold State.demandedBefore
  rw [Fin.lt_def, Fin.lt_def]
  omega

theorem State.demandedBefore_trans {i j k : Fin 16} (h1 : s.demandedBefore i j) (h2 : s.demandedBefore j k) : s.demandedBefore i k := by
  unfold State.demandedBefore at *
  rw [Fin.lt_def] at *
  omega

theorem mem_insertEntry {before : Fin 16 → Fin 16 → Bool} {i k : Fin 16} {l : List (Fin 16)} :
    k ∈ insertEntry before i l ↔ k = i ∨ k ∈ l := by
  induction l with
  | nil => simp [insertEntry]
  | cons j l ih =>
    unfold insertEntry
    split
    · simp
    · rw [List.mem_cons, ih, List.mem_cons]
      exact or_left_comm

/-- An entry that is inserted finds its place in the order. -/
theorem State.insertEntry_ordered {i : Fin 16} {l : List (Fin 16)} (hi : i ∉ l) (hl : l.Pairwise s.demandedBefore) :
    (insertEntry s.entryBefore i l).Pairwise s.demandedBefore := by
  induction l with
  | nil => exact List.pairwise_singleton _ _
  | cons j l ih =>
    obtain ⟨hj, hrest⟩ := List.pairwise_cons.1 hl
    obtain ⟨hij, hil⟩ := not_or.1 (mt List.mem_cons.2 hi)
    unfold insertEntry
    split
    · next hbefore =>
      have hfirst := (State.entryBefore_iff hij).1 hbefore
      refine List.pairwise_cons.2 ⟨fun k hk => ?_, hl⟩
      rcases List.mem_cons.1 hk with rfl | hk
      · exact hfirst
      · exact State.demandedBefore_trans hfirst (hj k hk)
    · next hafter =>
      have hnot := mt (State.entryBefore_iff hij).2 hafter
      refine List.pairwise_cons.2 ⟨fun k hk => ?_, ih hil hrest⟩
      rcases mem_insertEntry.1 hk with rfl | hk
      · exact (State.demandedBefore_total hij).resolve_left hnot
      · exact hj k hk

theorem State.insertEntries_ordered {l : List (Fin 16)} (hl : l.Nodup) :
    (∀ k, k ∈ l.foldr (insertEntry s.entryBefore) [] ↔ k ∈ l) ∧ (l.foldr (insertEntry s.entryBefore) []).Pairwise s.demandedBefore := by
  induction l with
  | nil => exact ⟨fun _ => Iff.rfl, .nil⟩
  | cons i l ih =>
    obtain ⟨hi, hrest⟩ := List.nodup_cons.1 hl
    obtain ⟨hmem, hordered⟩ := ih hrest
    refine ⟨fun k => ?_, State.insertEntry_ordered (mt (hmem i).1 hi) hordered⟩
    rw [List.foldr_cons, mem_insertEntry, hmem, List.mem_cons]

theorem State.followedEntries_ordered :
    (∀ i, i ∈ s.followedEntries ↔ ∃ b, s.configured b = true ∧ (s.anu.follow.get b).entry = some i) ∧
      s.followedEntries.Pairwise s.demandedBefore := by
  obtain ⟨hmem, hordered⟩ := State.insertEntries_ordered (s := s) ((indices_nodup 16).filter fun i =>
    s.configuredBerths.any fun b => decide ((s.anu.follow.get b).entry = some i))
  refine ⟨fun i => (hmem i).trans ?_, hordered⟩
  rw [List.mem_filter, and_iff_right (mem_indices i), List.any_eq_true]
  exact exists_congr fun b => by rw [mem_configuredBerths, decide_eq_true_eq]

end order

/-! ### The demand list (R107, R108) -/

theorem foldl_addDemand (l : List Grant) : l.foldl addDemand [] =
    l.foldl (fun list g => if g.tag ∈ list.map (·.tag) then list else list ++ [g]) [] := by
  refine congrArg (fun f => l.foldl f []) (funext fun list => funext fun g => ?_)
  unfold addDemand
  refine if_congr ?_ rfl rfl
  simp only [List.any_eq_true, decide_eq_true_eq, List.mem_map]

theorem demandsListed (s : State) : DemandsListed s := by
  obtain ⟨hmem, hordered⟩ := s.followedEntries_ordered
  have hrank : ∀ i, s.demandRank i = match (s.anu.entries.get i).cls with
      | some .alert => 0 | some .wake => 1 | some .crew => 2 | some .service => 3 | none => 4 := fun i => by
    unfold State.demandRank
    cases (s.anu.entries.get i).cls with
    | none => rfl
    | some c => cases c <;> rfl
  have hpending : ∀ b, ((s.bcu.get b).pendingChoice.bind s.cfg.audioOf).map audioDemand =
      (s.bcu.get b).pendingChoice.bind fun ch => (s.cfg.audioOf ch).map fun a => (⟨a, 1⟩ : Grant) := fun b => by
    cases (s.bcu.get b).pendingChoice <;> rfl
  have hvideo : ∀ ch, Config.videoDemand s.cfg ch = match ch with
      | .off => none
      | .entry i => (s.cfg.programme[i]?).bind fun p => p.video.map fun v => (⟨v, p.run⟩ : Grant) := fun ch => by cases ch <;> rfl
  refine ⟨s.followedEntries, hmem, hordered.imp fun h => ?_, ?_⟩
  · unfold State.demandedBefore at h
    rw [hrank, hrank] at h
    exact h
  · unfold State.demands
    dsimp only
    rw [foldl_addDemand]
    simp only [hpending, funext hvideo]
    rfl

end Sys2Proof.Machine
end

section
/-!
PROOFS. The grant point (R18, R110, O35).
-/

namespace Sys2Proof.Machine

/-- What the demand list is made of. -/
theorem State.demands_congr {s t : State} (hlocator : t.smu.locator = s.smu.locator) (hentries : t.anu.entries = s.anu.entries)
    (hfollow : t.anu.follow = s.anu.follow) (hcfl : t.cfl = s.cfl) (hbcu : t.bcu = s.bcu) (hfeeds : t.sfu.feeds = s.sfu.feeds) :
    t.demands = s.demands := by
  have hberths : t.configuredBerths = s.configuredBerths := by
    unfold State.configuredBerths
    rw [funext (State.configured_of_cfl hcfl)]
  have hbefore : t.entryBefore = s.entryBefore := by
    unfold State.entryBefore State.stampOf
    rw [hentries]
  have hfollowed : t.followedEntries = s.followedEntries := by
    unfold State.followedEntries
    rw [hberths, hbefore, hfollow]
  have hheard : t.headsetPresent = s.headsetPresent := by
    unfold State.headsetPresent
    rw [hbcu]
  unfold State.demands State.located State.feed
  rw [hberths, hfollowed, hheard, hlocator, hentries, State.cfg_congr hcfl, hbcu, hfeeds]

/-! ### Whether the link is on the trunk at a frame start -/

section starts
variable {s u : State} {fs : FrameStart} {e : FrameEnd} {n : Nat}

/-- A data frame that starts in LISTEN after a frame that no mark cut leaves the node in LISTEN. -/
theorem startsFrame_listens {c : Instr} (hdue : s.nothingDue) (hplain : fs.plain) (h : StartsFrame s fs n c) (hn : n ≠ 0)
    (hlink : s.tlu.link = .listen) (hexec : exec c s = .next (u.startFrame fs e)) (hframe : u.tlu.frame = n) :
    u.tlu.link = .listen := by
  have htlu : (u.startFrame fs e).tlu = u.tlu := by rw [State.startFrame_tlu fs e u hplain, if_neg (by rw [hframe]; exact hn)]
  rcases h with ⟨rfl, rfl, hlate, -⟩ | ⟨run, start, rfl, hrun, rfl, hstart⟩
  · have hflywheel := exec_flywheel_starts hdue (fs := fs) (late := .clear) (State.flywheels_of (.inl hlink)) nofun fun _ => hlate
    have hsame := congrArg State.tlu (Host.Outcome.next.inj (hexec.symm.trans hflywheel))
    rw [htlu, State.flywheelStart_tlu hplain, if_neg hn] at hsame
    rw [hsame, Tlu.flywheel_link, hlink]
  · have h12 : run = 12 := by
      by_contra hne
      exact hn (if_neg hne)
    obtain ⟨hlow, hhigh, -⟩ | ⟨-, -, htrunk⟩ := hstart
    · obtain ⟨t, ht, -, -, -, -, -, -, -, hlistens, -⟩ :=
        acquisitionFollowsTheTable run start fs s hdue hplain hrun (.inl (by omega)) hhigh hlink
      rw [← htlu, Host.Outcome.next.inj (hexec.symm.trans ht)]
      exact (hlistens h12).1
    · rcases htrunk with h | h <;> exact nomatch hlink.symm.trans h

/-! ### What a frame start leaves of the grants -/

/-- The grants and the count of denials. -/
def State.grantView (s : State) : Option (List Grant) × List Grant × BitVec 16 := (s.lcu.pendingSet, s.lcu.active, s.counter .laneDenials)

theorem State.grantView_congr {t : State} (hpending : t.lcu.pendingSet = s.lcu.pendingSet) (hactive : t.lcu.active = s.lcu.active)
    (hcounter : t.counter .laneDenials = s.counter .laneDenials) : t.grantView = s.grantView := by
  rw [State.grantView, State.grantView, hpending, hactive, hcounter]

theorem State.startLanes_grantView (hwhole : e.abandoned = false) (t : State) : (t.startLanes e).grantView = t.grantView := by
  unfold State.startLanes
  split
  · rw [State.lcuFrameEnd_whole hwhole]
    rfl
  · rfl

/-- Before the grant point a plain frame start after a whole frame leaves the grants. -/
theorem State.startPrepared_grantView (hwhole : e.abandoned = false) (tick : Bool) (t : State) :
    (t.startPrepared fs e tick).grantView = t.grantView := by
  have hcompleted : ∀ x : State, (x.startCompleted fs e tick).grantView = x.grantView := fun x => by
    unfold State.startCompleted
    split
    · exact State.grantView_congr (by simp) (by simp) (x.bcuCompletions_counter _)
    · rfl
  have hended : ∀ x : State, (x.startEnded fs e).grantView = x.grantView := fun x =>
    State.grantView_congr (by simp) (by simp) (by simp [State.counter])
  have halert : ∀ x : State, (x.startAlert fs tick).grantView = x.grantView := fun x =>
    State.grantView_congr (by simp) (by simp) (by simp [State.counter])
  have hcounted : ∀ x : State, (x.startCounted fs tick).grantView = x.grantView := fun x =>
    State.grantView_congr (by simp) (by simp) (by simp [State.counter])
  have hdiscarded : t.discardCollected.grantView = t.grantView := rfl
  rw [State.startPrepared, hended, halert, State.startLanes_grantView hwhole, hcompleted, hcounted, hdiscarded]

theorem State.startTabled_grantView (tick : Bool) (t : State) : (t.startTabled fs e tick).grantView = t.grantView := by
  have hsmu : t.smuTick.grantView = t.grantView := State.grantView_congr (by simp) (by simp) (by simp [State.counter])
  have hevaluate : t.smuTick.evaluate.grantView = t.smuTick.grantView := by
    refine State.grantView_congr (by simp) (by simp) ?_
    rw [State.evaluate_counter _ (c := .laneDenials) (by decide) (by decide), State.entriesUpdated_counter, if_neg (by decide)]
  unfold State.startTabled State.tablesTick
  dsimp only
  split
  · split
    · exact hevaluate.trans hsmu
    · exact hsmu
  · rfl

theorem State.feedFrame_grantView (o : FrameOrder) (t : State) : (t.feedFrame e o).grantView = t.grantView := by
  refine State.grantView_congr (by simp) (by simp) ?_
  rw [State.counter, State.feedFrame_counters]
  exact State.aspFrameStart_counter t (by decide)

/-- A plain start that does not reach the grant point. -/
theorem State.startFrame_noGrants (hplain : fs.plain) (hwhole : e.abandoned = false) (hoff : ¬(u.tlu.frame = 13 ∧ u.onTrunk = true)) :
    (u.startFrame fs e).grantView = u.grantView := by
  have htlu : ∀ tick : Bool, (((u.startPrepared fs e tick).startTabled fs e tick).feedFrame e fs.order).tlu =
      if tick then u.tlu.tick else u.tlu := fun tick => by simp [State.startPrepared]
  have hgranted : ∀ x : State, x.tlu = (if decide (u.tlu.frame = 0) = true then u.tlu.tick else u.tlu) → x.startGranted = x := fun x hx => by
    refine if_neg fun h => hoff ?_
    by_cases hzero : u.tlu.frame = 0
    · rw [if_pos (decide_eq_true hzero)] at hx
      exact nomatch hzero.symm.trans ((congrArg Tlu.frame hx).symm.trans h.1)
    · rw [if_neg (by simpa using hzero)] at hx
      rw [State.onTrunk, hx] at h
      exact h
  rw [State.startFrame_plain fs e u hplain, hgranted _ (htlu _), State.feedFrame_grantView, State.startTabled_grantView,
    State.startPrepared_grantView hwhole]

/-- The plain start of frame 13 on the trunk grants down the demand list. -/
theorem State.startFrame_grants (hplain : fs.plain) (hwhole : e.abandoned = false) (hframe : u.tlu.frame = 13) (htrunk : u.onTrunk = true) :
    let granted := grantDown u.smu.locator u.demands ([], 0)
    (u.startFrame fs e).grantView = (some granted.1, u.lcu.active, satInc^[granted.2] (u.counter .laneDenials)) := by
  have hne : u.tlu.frame ≠ 0 := by rw [hframe]; decide
  have hsfu := (State.startLanes_sfu (e := e) (.inr hwhole) u.discardCollected).1
  have hview : (((u.discardCollected.startLanes e).startEnded fs e).feedFrame e fs.order).grantView = u.grantView := by
    rw [State.feedFrame_grantView]
    refine Eq.trans ?_ (State.startLanes_grantView hwhole u.discardCollected)
    exact State.grantView_congr (by simp) (by simp) (by simp [State.counter])
  have hlocator : (((u.discardCollected.startLanes e).startEnded fs e).feedFrame e fs.order).smu.locator = u.smu.locator := by
    have hdiscarded : u.discardCollected.smu.locator = u.smu.locator := rfl
    simp [hdiscarded]
  have hdemands : (((u.discardCollected.startLanes e).startEnded fs e).feedFrame e fs.order).demands = u.demands :=
    State.demands_congr hlocator (by simp) (by simp) (by simp) (by simp) (by simp [hsfu])
  have htlu : (((u.discardCollected.startLanes e).startEnded fs e).feedFrame e fs.order).tlu = u.tlu := by simp
  dsimp only
  rw [State.startFrame_noTick hplain hne]
  generalize ((u.discardCollected.startLanes e).startEnded fs e).feedFrame e fs.order = v at hview hlocator hdemands htlu ⊢
  have hgranted : v.startGranted = v.grantPoint := if_pos (by rw [State.onTrunk, htlu]; exact ⟨hframe, htrunk⟩)
  rw [hgranted, State.grantPoint]
  dsimp only
  rw [hlocator, hdemands]
  generalize grantDown u.smu.locator u.demands ([], 0) = g
  obtain ⟨h1, h⟩ := Prod.mk.inj hview
  obtain ⟨h2, h3⟩ := Prod.mk.inj h
  rw [State.grantView, State.counter_bumpN, if_pos rfl, ← h2, ← h3, State.bumpN_eq]
  rfl

end starts

/-- R18, R109, R110: the grant point of a frame that a command starts, in the obligation's words. -/
theorem exec_grants {c : Instr} {n : Nat} {fs : FrameStart} {s : State} (hdue : s.nothingDue) (hplain : fs.plain) (h : StartsFrame s fs n c) :
    (s.tlu.link = .locked ∨ s.tlu.link = .leading → n = 13 → ∃ t, exec c s = .next t ∧
      let granted := grantDown s.smu.locator s.demands ([], 0)
      t.lcu.pendingSet = some granted.1 ∧ t.lcu.active = s.lcu.active ∧
        t.counter .laneDenials = satInc^[granted.2] (s.counter .laneDenials)) ∧
    (s.tlu.link = .listen ∨ n ≠ 13 → ∃ t, exec c s = .next t ∧ t.lcu.pendingSet = s.lcu.pendingSet ∧
        t.counter .laneDenials = s.counter .laneDenials) := by
  obtain ⟨u, hexec, hbegun⟩ := startsFrame_begins hdue h
  obtain ⟨-, hcfl, -, hsmu, -, -, -, hanu, hlcu, hbcu, -, -, -, hsfu⟩ := hbegun.fields
  have hdenials : u.counter .laneDenials = s.counter .laneDenials := hbegun.counters _ (by decide) (by decide)
  have hdemands : u.demands = s.demands := State.demands_congr (by rw [hsmu]) (by rw [hanu]) (by rw [hanu]) hcfl hbcu (by rw [hsfu])
  refine ⟨fun hlink hn => ⟨_, hexec, ?_⟩, fun hoff => ⟨_, hexec, ?_⟩⟩
  · have htrunk : u.onTrunk = true := by rcases hbegun.trunk hlink with h | h <;> simp [State.onTrunk, h]
    have hview := State.startFrame_grants (fs := fs) (e := s.frameEnd false) hplain rfl (hbegun.frame.trans hn) htrunk
    rw [hdemands, hsmu, hlcu, hdenials] at hview
    obtain ⟨h1, hrest⟩ := Prod.mk.inj hview
    obtain ⟨h2, h3⟩ := Prod.mk.inj hrest
    exact ⟨h1, h2, h3⟩
  · have hinert : ¬(u.tlu.frame = 13 ∧ u.onTrunk = true) := fun ⟨hframe, htrunk⟩ => by
      have hn : n = 13 := hbegun.frame.symm.trans hframe
      have hlistens := startsFrame_listens hdue hplain h (by omega) (hoff.resolve_right (not_not_intro hn)) hexec hbegun.frame
      rw [State.onTrunk_of_listen hlistens] at htrunk
      exact nomatch htrunk
    have hview := State.startFrame_noGrants (fs := fs) (e := s.frameEnd false) hplain rfl hinert
    obtain ⟨h1, hrest⟩ := Prod.mk.inj hview
    obtain ⟨-, h3⟩ := Prod.mk.inj hrest
    exact ⟨h1.trans (by rw [hlcu]), h3.trans hdenials⟩

end Sys2Proof.Machine
end

section
/-!
PROOFS. The lanes and assemblers at the application of the grants (R111, R112, R121, O35).
-/

namespace Sys2Proof.Machine

/-! ### A feed and the losses of its video (R181) -/

/-- The feed shows video `v`, and waits for a record or for its key. -/
def Feed.watches (v : Byte) (f : Feed) : Prop :=
  f.video = some v ∧ (f.state = .following ∨ (f.state = .waitKey ∧ f.waitKey = some 3000))

/-- The feed of video `v` has just begun to wait for its key. -/
def Feed.hasLost (v : Byte) (f : Feed) : Prop := f.video = some v ∧ f.state = .waitKey ∧ f.waitKey = some 3000

theorem Feed.hasLost.watches {v : Byte} {f : Feed} (h : f.hasLost v) : f.watches v := by
  obtain ⟨hvideo, hstate⟩ := h
  exact ⟨hvideo, .inr hstate⟩

theorem Feed.hasLost.afterLoss {v : Byte} {f : Feed} (h : f.hasLost v) (configured : Bool) (t : Byte) : (f.afterLoss configured t).hasLost v := by
  obtain ⟨hvideo, hstate, hwait⟩ := h
  rw [Feed.afterLoss, if_neg fun hd => by rw [hstate] at hd; cases hd.2.2]
  exact ⟨hvideo, hstate, hwait⟩

theorem Feed.watches.afterLoss {v : Byte} {f : Feed} (h : f.watches v) (configured : Bool) (t : Byte) :
    (f.afterLoss configured t).watches v := by
  obtain ⟨hvideo, hstate⟩ := h
  unfold Feed.afterLoss
  split
  · exact ⟨hvideo, .inr ⟨rfl, rfl⟩⟩
  · exact ⟨hvideo, hstate⟩

theorem Feed.watches.loses {v : Byte} {f : Feed} (h : f.watches v) : (f.afterLoss true v).hasLost v := by
  obtain ⟨hvideo, hstate⟩ := h
  unfold Feed.afterLoss
  rcases hstate with hstate | ⟨hstate, hwait⟩
  · rw [if_pos ⟨rfl, hvideo, hstate⟩]
    exact ⟨hvideo, rfl, rfl⟩
  · rw [if_neg fun hd => by rw [hstate] at hd; cases hd.2.2]
    exact ⟨hvideo, hstate, hwait⟩

/-! ### Streams that are dropped (R111, first step) -/

/-- R111: every stream of `ds` is dropped. -/
def State.streamsDropped (ds : List Grant) (s : State) : State := ds.foldl (fun s g => s.dropStream g) s

section drop
variable {s : State}

theorem State.dropStream_lcu (g : Grant) (s : State) :
    (s.dropStream g).lcu = { s.lcu with lanes := freeLanesOf s.lcu.lanes g.tag, asm := freeAsmOf s.lcu.asm g.tag } := by
  unfold State.dropStream
  dsimp only
  split
  · simp
  · rfl

theorem State.dropStream_feed (g : Grant) (s : State) (b : Fin 4) : (s.dropStream g).feed b =
    if isVideo g.tag = true then (s.feed b).afterLoss (s.configured b) g.tag else s.feed b := by
  unfold State.dropStream
  dsimp only
  split
  · rw [State.lossReport_feed]
    rfl
  · rfl

theorem State.streamsDropped_frame (ds : List Grant) (s : State) : (s.streamsDropped ds).cfl = s.cfl ∧ (s.streamsDropped ds).smu = s.smu := by
  unfold State.streamsDropped
  exact foldl_keeps (I := fun t : State => t.cfl = s.cfl ∧ t.smu = s.smu) (fun t g ht => by simpa using ht) ds ⟨rfl, rfl⟩

/-- A lane is freed where its stream is dropped, and stays otherwise. -/
theorem State.streamsDropped_lane (ds : List Grant) (l : Fin 24) : ∀ s : State,
    ((∃ g ∈ ds, (s.lcu.lanes.get l).tag = some g.tag) → (s.streamsDropped ds).lcu.lanes.get l = .free) ∧
      ((∀ g ∈ ds, (s.lcu.lanes.get l).tag ≠ some g.tag) → (s.streamsDropped ds).lcu.lanes.get l = s.lcu.lanes.get l) := by
  induction ds with
  | nil => exact fun s => ⟨nofun, fun _ => rfl⟩
  | cons d ds ih =>
    intro s
    obtain ⟨hfreed, hkept⟩ := ih (s.dropStream d)
    have hfirst : (s.dropStream d).lcu.lanes.get l = if (s.lcu.lanes.get l).tag = some d.tag then .free else s.lcu.lanes.get l := by
      rw [State.dropStream_lcu]
      exact Table.get_map _ _ _
    rw [hfirst] at hfreed hkept
    by_cases hd : (s.lcu.lanes.get l).tag = some d.tag
    · rw [if_pos hd] at hfreed hkept
      exact ⟨fun _ => hkept nofun, fun h => absurd hd (h d List.mem_cons_self)⟩
    · rw [if_neg hd] at hfreed hkept
      refine ⟨fun ⟨g, hg, htag⟩ => hfreed ⟨g, ?_, htag⟩, fun h => hkept fun g hg => h g (List.mem_cons_of_mem _ hg)⟩
      rcases List.mem_cons.1 hg with rfl | hg
      · exact absurd htag hd
      · exact hg

/-- An assembler is freed where its stream is dropped, and stays otherwise. -/
theorem State.streamsDropped_asm (ds : List Grant) (a : Fin 8) : ∀ s : State,
    ((∃ g ∈ ds, (s.lcu.asm.get a).tag = some g.tag) → (s.streamsDropped ds).lcu.asm.get a = .free) ∧
      ((∀ g ∈ ds, (s.lcu.asm.get a).tag ≠ some g.tag) → (s.streamsDropped ds).lcu.asm.get a = s.lcu.asm.get a) := by
  induction ds with
  | nil => exact fun s => ⟨nofun, fun _ => rfl⟩
  | cons d ds ih =>
    intro s
    obtain ⟨hfreed, hkept⟩ := ih (s.dropStream d)
    have hfirst : (s.dropStream d).lcu.asm.get a = if (s.lcu.asm.get a).tag = some d.tag then .free else s.lcu.asm.get a := by
      rw [State.dropStream_lcu]
      exact Table.get_map _ _ _
    rw [hfirst] at hfreed hkept
    by_cases hd : (s.lcu.asm.get a).tag = some d.tag
    · rw [if_pos hd] at hfreed hkept
      exact ⟨fun _ => hkept nofun, fun h => absurd hd (h d List.mem_cons_self)⟩
    · rw [if_neg hd] at hfreed hkept
      refine ⟨fun ⟨g, hg, htag⟩ => hfreed ⟨g, ?_, htag⟩, fun h => hkept fun g hg => h g (List.mem_cons_of_mem _ hg)⟩
      rcases List.mem_cons.1 hg with rfl | hg
      · exact absurd htag hd
      · exact hg

theorem State.streamsDropped_watches (ds : List Grant) (b : Fin 4) (v : Byte) : ∀ s : State,
    ((s.feed b).watches v → ((s.streamsDropped ds).feed b).watches v) ∧ ((s.feed b).hasLost v → ((s.streamsDropped ds).feed b).hasLost v) ∧
      (s.configured b = true → (s.feed b).watches v → ∀ g ∈ ds, g.tag = v → isVideo v = true → ((s.streamsDropped ds).feed b).hasLost v) := by
  induction ds with
  | nil => exact fun s => ⟨id, id, fun _ _ _ hg => nomatch hg⟩
  | cons d ds ih =>
    intro s
    obtain ⟨hwatches, hlost, hloses⟩ := ih (s.dropStream d)
    have hfeed := s.dropStream_feed d b
    have hconf : (s.dropStream d).configured b = s.configured b := State.configured_of_cfl (by simp) b
    have hstep : (s.feed b).watches v → ((s.dropStream d).feed b).watches v := fun h => by
      rw [hfeed]
      split
      · exact h.afterLoss _ _
      · exact h
    refine ⟨fun h => hwatches (hstep h), fun h => hlost ?_, fun hc h g hg htag hvideo => ?_⟩
    · rw [hfeed]
      split
      · exact h.afterLoss _ _
      · exact h
    · rcases List.mem_cons.1 hg with rfl | hg
      · refine hlost ?_
        rw [hfeed, htag, if_pos hvideo, hc]
        exact h.loses
      · exact hloses (hconf.trans hc) (hstep h) g hg htag hvideo

end drop

/-! ### Streams that are assigned (R111, third step) -/

/-- R111: every stream of `fs` is assigned. -/
def State.streamsAssigned (fs : List Grant) (s : State) : State := fs.foldl (fun s g => s.assignStream g) s

section assign

/-- A lane that is not free keeps its stream; a free one stays, or is taken. -/
theorem assignLanes_lane (t : Byte) (l : Fin 24) (n : Nat) : ∀ (pos : Nat) (lanes : Table 24 Lane),
    (assignLanes t n pos lanes).get l = lanes.get l ∨
      ((lanes.get l).tag = none ∧ ((assignLanes t n pos lanes).get l).tag = some t) := by
  induction n with
  | zero => exact fun _ _ => .inl rfl
  | succ n ih =>
    intro pos lanes
    unfold assignLanes
    split
    · next i hi =>
      have hfree : (lanes.get i).tag = none := by
        have hnone := List.find?_some hi
        exact Option.isNone_iff_eq_none.1 hnone
      have hnext := ih (pos + 1) (lanes.set i { Lane.free with tag := some t, position := pos })
      by_cases hl : l = i
      · subst hl
        rw [Table.get_set_self] at hnext
        refine .inr ⟨hfree, ?_⟩
        rcases hnext with heq | ⟨hnone, -⟩
        · rw [heq]
        · cases hnone
      · rw [Table.get_set_of_ne _ _ (Ne.symm hl)] at hnext
        exact hnext
    · exact .inl rfl

theorem assignAsm_asm (t : Byte) (asm : Table 8 Assembler) (a : Fin 8) :
    (assignAsm t asm).get a = asm.get a ∨ ((asm.get a).tag = none ∧ ((assignAsm t asm).get a).tag = some t) := by
  unfold assignAsm
  split
  · next i hi =>
    have hfree : (asm.get i).tag = none := by
      have hnone := List.find?_some hi
      exact Option.isNone_iff_eq_none.1 hnone
    by_cases ha : a = i
    · subst ha
      rw [Table.get_set_self]
      exact .inr ⟨hfree, rfl⟩
    · rw [Table.get_set_of_ne _ _ (Ne.symm ha)]
      exact .inl rfl
  · exact .inl rfl

theorem State.streamsAssigned_frame (fs : List Grant) (s : State) : (s.streamsAssigned fs).cfl = s.cfl ∧
    (s.streamsAssigned fs).smu = s.smu ∧ (s.streamsAssigned fs).sfu = s.sfu := by
  unfold State.streamsAssigned
  exact foldl_keeps (I := fun t : State => t.cfl = s.cfl ∧ t.smu = s.smu ∧ t.sfu = s.sfu) (fun t g ht => by simpa using ht) fs
    ⟨rfl, rfl, rfl⟩

theorem State.streamsAssigned_lane (fs : List Grant) (l : Fin 24) : ∀ s : State,
    (s.streamsAssigned fs).lcu.lanes.get l = s.lcu.lanes.get l ∨
      ((s.lcu.lanes.get l).tag = none ∧ ∃ g ∈ fs, ((s.streamsAssigned fs).lcu.lanes.get l).tag = some g.tag) := by
  induction fs with
  | nil => exact fun _ => .inl rfl
  | cons f fs ih =>
    intro s
    have hfirst : (s.assignStream f).lcu.lanes.get l = s.lcu.lanes.get l ∨
        ((s.lcu.lanes.get l).tag = none ∧ ((s.assignStream f).lcu.lanes.get l).tag = some f.tag) := assignLanes_lane f.tag l f.lanes 0 _
    have hrest : (s.streamsAssigned (f :: fs)).lcu.lanes.get l = (s.assignStream f).lcu.lanes.get l ∨
        (((s.assignStream f).lcu.lanes.get l).tag = none ∧ ∃ g ∈ fs, ((s.streamsAssigned (f :: fs)).lcu.lanes.get l).tag = some g.tag) :=
      ih (s.assignStream f)
    rcases hrest with heq | ⟨hnone, g, hg, htag⟩
    · rw [heq]
      exact hfirst.imp id fun ⟨hnone, htag⟩ => ⟨hnone, f, List.mem_cons_self, htag⟩
    · rcases hfirst with hsame | ⟨-, htaken⟩
      · rw [hsame] at hnone
        exact .inr ⟨hnone, g, List.mem_cons_of_mem _ hg, htag⟩
      · exact nomatch hnone.symm.trans htaken

theorem State.streamsAssigned_asm (fs : List Grant) (a : Fin 8) : ∀ s : State,
    (s.streamsAssigned fs).lcu.asm.get a = s.lcu.asm.get a ∨
      ((s.lcu.asm.get a).tag = none ∧ ∃ g ∈ fs, ((s.streamsAssigned fs).lcu.asm.get a).tag = some g.tag) := by
  induction fs with
  | nil => exact fun _ => .inl rfl
  | cons f fs ih =>
    intro s
    have hfirst : (s.assignStream f).lcu.asm.get a = s.lcu.asm.get a ∨
        ((s.lcu.asm.get a).tag = none ∧ ((s.assignStream f).lcu.asm.get a).tag = some f.tag) := by
      unfold State.assignStream
      dsimp only
      split
      · exact assignAsm_asm f.tag _ a
      · exact .inl rfl
    have hrest : (s.streamsAssigned (f :: fs)).lcu.asm.get a = (s.assignStream f).lcu.asm.get a ∨
        (((s.assignStream f).lcu.asm.get a).tag = none ∧ ∃ g ∈ fs, ((s.streamsAssigned (f :: fs)).lcu.asm.get a).tag = some g.tag) :=
      ih (s.assignStream f)
    rcases hrest with heq | ⟨hnone, g, hg, htag⟩
    · rw [heq]
      exact hfirst.imp id fun ⟨hnone, htag⟩ => ⟨hnone, f, List.mem_cons_self, htag⟩
    · rcases hfirst with hsame | ⟨-, htaken⟩
      · rw [hsame] at hnone
        exact .inr ⟨hnone, g, List.mem_cons_of_mem _ hg, htag⟩
      · exact nomatch hnone.symm.trans htaken

end assign

/-! ### Streams that are resolved (R112, R121) -/

/-- R112: every stream of `gs` is resolved. -/
def State.streamsResolved (fresh : List Byte) (gs : List Grant) (s : State) : State := gs.foldl (State.resolveStream fresh) s

/-- R112: the lanes after a stream is resolved. -/
def Lane.resolved (loc : List LocItem) (g : Grant) (l : Lane) : Lane :=
  if l.tag = some g.tag then { l with slot := (resolvedAt loc g).map (· + l.position) } else l

/-- R121: a kept stream whose lanes change their slots. -/
def State.retargets (fresh : List Byte) (s : State) (g : Grant) : Bool :=
  !(fresh.contains g.tag) && decide (laneSlots (s.lcu.lanes.map (Lane.resolved s.smu.locator g)) g.tag ≠ laneSlots s.lcu.lanes g.tag)

section resolve
variable {fresh : List Byte} {s : State}

theorem State.resolveStream_eq (fresh : List Byte) (s : State) (g : Grant) : s.resolveStream fresh g =
    if (s.retargets fresh g && isVideo g.tag) = true then
      ({ s with lcu := { s.lcu with
          lanes := s.lcu.lanes.map (Lane.resolved s.smu.locator g)
          asm := s.lcu.asm.map fun a => if a.tag = some g.tag then { Assembler.free with tag := some g.tag } else a } } : State).lossReport
        g.tag
    else { s with lcu := { s.lcu with lanes := s.lcu.lanes.map (Lane.resolved s.smu.locator g) } } := rfl

theorem State.resolveStream_lanes (fresh : List Byte) (s : State) (g : Grant) :
    (s.resolveStream fresh g).lcu.lanes = s.lcu.lanes.map (Lane.resolved s.smu.locator g) := by
  rw [State.resolveStream_eq]
  split
  · simp only [State.lossReport_frame]
  · rfl

theorem State.resolveStream_asm (fresh : List Byte) (s : State) (g : Grant) (a : Fin 8) : (s.resolveStream fresh g).lcu.asm.get a =
    if (s.retargets fresh g && isVideo g.tag) = true ∧ (s.lcu.asm.get a).tag = some g.tag then { Assembler.free with tag := some g.tag }
    else s.lcu.asm.get a := by
  rw [State.resolveStream_eq]
  split
  · next h =>
    rw [if_congr (and_iff_right h) rfl rfl]
    simp only [State.lossReport_frame]
    exact Table.get_map _ _ _
  · next h =>
    rw [if_neg fun hd => h hd.1]

theorem State.resolveStream_feed (fresh : List Byte) (s : State) (g : Grant) (b : Fin 4) : (s.resolveStream fresh g).feed b =
    if (s.retargets fresh g && isVideo g.tag) = true then (s.feed b).afterLoss (s.configured b) g.tag else s.feed b := by
  rw [State.resolveStream_eq]
  split
  · rw [State.lossReport_feed]
    rfl
  · rfl

theorem Lane.resolved_tag (loc : List LocItem) (g : Grant) (l : Lane) : (l.resolved loc g).tag = l.tag := by
  unfold Lane.resolved
  split <;> rfl

theorem Lane.resolved_slot_only (loc : List LocItem) (g : Grant) (l : Lane) : l.resolved loc g = { l with slot := (l.resolved loc g).slot } := by
  unfold Lane.resolved
  split <;> rfl

/-- R112: the lanes when every stream of `gs` has been resolved. -/
def Lane.resolvedAll (loc : List LocItem) (gs : List Grant) (l : Lane) : Lane := gs.foldl (fun l g => l.resolved loc g) l

theorem State.streamsResolved_frame (fresh : List Byte) (gs : List Grant) (s : State) :
    (s.streamsResolved fresh gs).cfl = s.cfl ∧ (s.streamsResolved fresh gs).smu = s.smu := by
  unfold State.streamsResolved
  exact foldl_keeps (I := fun t : State => t.cfl = s.cfl ∧ t.smu = s.smu) (fun t g ht => by simpa using ht) gs ⟨rfl, rfl⟩

theorem State.streamsResolved_lanes (fresh : List Byte) (gs : List Grant) : ∀ s : State,
    (s.streamsResolved fresh gs).lcu.lanes = s.lcu.lanes.map (Lane.resolvedAll s.smu.locator gs) := by
  induction gs with
  | nil => exact fun s => Table.ext_get fun l => (Table.get_map s.lcu.lanes (Lane.resolvedAll s.smu.locator []) l).symm
  | cons g gs ih =>
    intro s
    refine (ih (s.resolveStream fresh g)).trans ?_
    rw [State.resolveStream_lanes]
    refine Table.ext_get fun l => ?_
    rw [Table.get_map, Table.get_map, Table.get_map, (s.resolveStream_frame fresh g).2.2.2.2.2.1]
    rfl

theorem Lane.resolvedAll_slot_only (loc : List LocItem) (gs : List Grant) : ∀ l : Lane,
    l.resolvedAll loc gs = { l with slot := (l.resolvedAll loc gs).slot } := by
  induction gs with
  | nil => exact fun _ => rfl
  | cons g gs ih =>
    intro l
    have hrest := ih (l.resolved loc g)
    have hfirst := l.resolved_slot_only loc g
    have hstep : l.resolvedAll loc (g :: gs) = (l.resolved loc g).resolvedAll loc gs := rfl
    rw [hstep, hrest]
    dsimp only
    rw [hfirst]

theorem Lane.resolvedAll_tag (loc : List LocItem) (gs : List Grant) (l : Lane) : (l.resolvedAll loc gs).tag = l.tag := by
  rw [Lane.resolvedAll_slot_only]

/-- A lane whose stream is not among those resolved stays. -/
theorem Lane.resolvedAll_other {loc : List LocItem} {gs : List Grant} : ∀ {l : Lane}, (∀ g ∈ gs, l.tag ≠ some g.tag) →
    l.resolvedAll loc gs = l := by
  induction gs with
  | nil => exact fun _ => rfl
  | cons g gs ih =>
    intro l h
    have hfirst : l.resolved loc g = l := if_neg (h g List.mem_cons_self)
    have hstep : l.resolvedAll loc (g :: gs) = (l.resolved loc g).resolvedAll loc gs := rfl
    rw [hstep, hfirst]
    exact ih fun x hx => h x (List.mem_cons_of_mem _ hx)

/-- A lane takes the slot of its stream. -/
theorem Lane.resolvedAll_own {loc : List LocItem} {gs : List Grant} (hgs : (gs.map (·.tag)).Nodup) {g : Grant} (hg : g ∈ gs) :
    ∀ {l : Lane}, l.tag = some g.tag → l.resolvedAll loc gs = { l with slot := (resolvedAt loc g).map (· + l.position) } := by
  induction gs with
  | nil => cases hg
  | cons x gs ih =>
    intro l hl
    obtain ⟨hx, hrest⟩ := List.nodup_cons.1 hgs
    have hstep : l.resolvedAll loc (x :: gs) = (l.resolved loc x).resolvedAll loc gs := rfl
    rcases List.mem_cons.1 hg with rfl | hg
    · rw [hstep, Lane.resolvedAll_other]
      · exact if_pos hl
      · intro y hy htag
        rw [Lane.resolved_tag, hl] at htag
        exact hx (List.mem_map.2 ⟨y, hy, (Option.some.inj htag).symm⟩)
    · have hne : ¬l.tag = some x.tag := fun h => hx (List.mem_map.2 ⟨g, hg, Option.some.inj (hl.symm.trans h)⟩)
      have hfirst : l.resolved loc x = l := if_neg hne
      rw [hstep, hfirst]
      exact ih hrest hg hl

theorem State.streamsResolved_watches (fresh : List Byte) (gs : List Grant) (b : Fin 4) (v : Byte) (s : State) :
    ((s.feed b).watches v → ((s.streamsResolved fresh gs).feed b).watches v) ∧
      ((s.feed b).hasLost v → ((s.streamsResolved fresh gs).feed b).hasLost v) := by
  unfold State.streamsResolved
  refine ⟨fun h => ?_, fun h => ?_⟩
  · refine foldl_keeps (I := fun t : State => (t.feed b).watches v) (fun t g ht => ?_) gs h
    rw [State.resolveStream_feed]
    split
    · exact ht.afterLoss _ _
    · exact ht
  · refine foldl_keeps (I := fun t : State => (t.feed b).hasLost v) (fun t g ht => ?_) gs h
    rw [State.resolveStream_feed]
    split
    · exact ht.afterLoss _ _
    · exact ht

theorem State.resolveStream_asm_tag (fresh : List Byte) (s : State) (g : Grant) (a : Fin 8) :
    ((s.resolveStream fresh g).lcu.asm.get a).tag = (s.lcu.asm.get a).tag := by
  rw [State.resolveStream_asm]
  split
  · next h => exact h.2.symm
  · rfl

theorem State.streamsResolved_asm_tag (fresh : List Byte) (gs : List Grant) (s : State) (a : Fin 8) :
    ((s.streamsResolved fresh gs).lcu.asm.get a).tag = (s.lcu.asm.get a).tag := by
  unfold State.streamsResolved
  exact foldl_keeps (I := fun t : State => (t.lcu.asm.get a).tag = (s.lcu.asm.get a).tag)
    (fun t g ht => (t.resolveStream_asm_tag fresh g a).trans ht) gs rfl

/-- An assembler whose stream is not among those resolved stays. -/
theorem State.streamsResolved_asm_other (fresh : List Byte) {gs : List Grant} {a : Fin 8} : ∀ {s : State},
    (∀ g ∈ gs, (s.lcu.asm.get a).tag ≠ some g.tag) → (s.streamsResolved fresh gs).lcu.asm.get a = s.lcu.asm.get a := by
  induction gs with
  | nil => exact fun _ => rfl
  | cons g gs ih =>
    intro s h
    have hfirst : (s.resolveStream fresh g).lcu.asm.get a = s.lcu.asm.get a := by
      rw [State.resolveStream_asm, if_neg fun hd => h g List.mem_cons_self hd.2]
    have hrest := ih (s := s.resolveStream fresh g) fun x hx => by rw [hfirst]; exact h x (List.mem_cons_of_mem _ hx)
    exact hrest.trans hfirst

/-- An assembler of no retargeted stream stays. -/
theorem State.streamsResolved_asm_fresh {gs : List Grant} (hfresh : ∀ g ∈ gs, fresh.contains g.tag = true) {a : Fin 8} : ∀ {s : State},
    (s.streamsResolved fresh gs).lcu.asm.get a = s.lcu.asm.get a := by
  induction gs with
  | nil => exact rfl
  | cons g gs ih =>
    intro s
    have hfirst : (s.resolveStream fresh g).lcu.asm.get a = s.lcu.asm.get a := by
      rw [State.resolveStream_asm, State.retargets, hfresh g List.mem_cons_self]
      exact if_neg fun hd => Bool.false_ne_true hd.1
    exact (ih (fun x hx => hfresh x (List.mem_cons_of_mem _ hx)) (s := s.resolveStream fresh g)).trans hfirst

/-- The slots of a stream's lanes depend on those lanes alone. -/
theorem laneSlots_congr {A B : Table 24 Lane} {t : Byte} (h : ∀ l, (A.get l).tag = some t ∨ (B.get l).tag = some t → A.get l = B.get l) :
    laneSlots A t = laneSlots B t := by
  have hone : ∀ T : Table 24 Lane, laneSlots T t = ((List.finRange 24).filter fun l => decide ((T.get l).tag = some t)).map
      fun l => (T.get l).slot := fun T => by
    unfold laneSlots
    rw [table_toList, List.filter_map, List.map_map]
    rfl
  rw [hone, hone]
  have hfilter : ((List.finRange 24).filter fun l => decide ((A.get l).tag = some t)) =
      (List.finRange 24).filter fun l => decide ((B.get l).tag = some t) := by
    refine List.filter_congr fun l _ => decide_eq_decide.2 ⟨fun hA => ?_, fun hB => ?_⟩
    · rw [← h l (.inl hA)]
      exact hA
    · rw [h l (.inr hB)]
      exact hB
  rw [hfilter]
  refine List.map_congr_left fun l hl => ?_
  rw [h l (.inr (of_decide_eq_true (List.mem_filter.1 hl).2))]

/-- R121: a kept video stream whose lanes have changed their slots has its assembler reset, and reports a loss. -/
theorem State.streamsResolved_retargets {gs : List Grant} (hgs : (gs.map (·.tag)).Nodup) {g : Grant} (hg : g ∈ gs)
    (hkept : fresh.contains g.tag = false) (hvideo : isVideo g.tag = true)
    (hmoved : laneSlots (s.streamsResolved fresh gs).lcu.lanes g.tag ≠ laneSlots s.lcu.lanes g.tag) :
    (∀ a, ((s.streamsResolved fresh gs).lcu.asm.get a).tag = some g.tag →
      (s.streamsResolved fresh gs).lcu.asm.get a = { Assembler.free with tag := some g.tag }) ∧
    ∀ b, s.configured b = true → (s.feed b).watches g.tag → ((s.streamsResolved fresh gs).feed b).hasLost g.tag := by
  obtain ⟨pre, post, rfl⟩ := List.append_of_mem hg
  have hsplit : s.streamsResolved fresh (pre ++ g :: post) =
      ((s.streamsResolved fresh pre).resolveStream fresh g).streamsResolved fresh post := by
    unfold State.streamsResolved
    rw [List.foldl_append]
    rfl
  rw [List.map_append, List.map_cons, List.nodup_append] at hgs
  obtain ⟨-, hpost, hpre⟩ := hgs
  have hnotPre : ∀ x ∈ pre, x.tag ≠ g.tag := fun x hx => hpre _ (List.mem_map.2 ⟨x, hx, rfl⟩) _ List.mem_cons_self
  have hnotPost : ∀ x ∈ post, x.tag ≠ g.tag := fun x hx h =>
    (List.nodup_cons.1 hpost).1 (List.mem_map.2 ⟨x, hx, h⟩)
  have hbefore : laneSlots (s.streamsResolved fresh pre).lcu.lanes g.tag = laneSlots s.lcu.lanes g.tag := by
    refine laneSlots_congr fun l hl => ?_
    rw [State.streamsResolved_lanes, Table.get_map, Lane.resolvedAll_tag, or_self] at hl
    rw [State.streamsResolved_lanes, Table.get_map]
    exact Lane.resolvedAll_other fun x hx htag => hnotPre x hx (Option.some.inj (htag.symm.trans hl))
  obtain ⟨hcfl, -⟩ := State.streamsResolved_frame fresh pre s
  have hwatch := fun b v => s.streamsResolved_watches fresh pre b v
  rw [hsplit] at hmoved ⊢
  generalize s.streamsResolved fresh pre = u at hmoved hbefore hcfl hwatch ⊢
  have hafter : laneSlots ((u.resolveStream fresh g).streamsResolved fresh post).lcu.lanes g.tag =
      laneSlots (u.resolveStream fresh g).lcu.lanes g.tag := by
    refine laneSlots_congr fun l hl => ?_
    rw [State.streamsResolved_lanes, Table.get_map, Lane.resolvedAll_tag, or_self] at hl
    rw [State.streamsResolved_lanes, Table.get_map]
    exact Lane.resolvedAll_other fun x hx htag => hnotPost x hx (Option.some.inj (htag.symm.trans hl))
  have hretargets : (u.retargets fresh g && isVideo g.tag) = true := by
    rw [hafter, State.resolveStream_lanes, ← hbefore] at hmoved
    rw [State.retargets, hkept, hvideo, decide_eq_true hmoved]
    rfl
  refine ⟨fun a ha => ?_, fun b hconf hwatches => ?_⟩
  · rw [State.streamsResolved_asm_tag] at ha
    have hreset : (u.resolveStream fresh g).lcu.asm.get a = { Assembler.free with tag := some g.tag } := by
      rw [State.resolveStream_asm_tag] at ha
      rw [State.resolveStream_asm, if_pos ⟨hretargets, ha⟩]
    rw [State.streamsResolved_asm_other, hreset]
    exact fun x hx htag => hnotPost x hx (Option.some.inj (htag.symm.trans ha))
  · refine ((u.resolveStream fresh g).streamsResolved_watches fresh post b g.tag).2 ?_
    rw [State.resolveStream_feed, if_pos hretargets, State.configured_of_cfl hcfl b, hconf]
    exact ((hwatch b g.tag).1 hwatches).loses

end resolve

end Sys2Proof.Machine
end

section
/-!
PROOFS. The lanes and assemblers that streams take from an empty pool, in order (R111, O35).
-/

namespace Sys2Proof.Machine

/-! ### The lowest free place -/

/-- The first place of a table whose places before `used` are taken, and whose places from there on are free. -/
theorem find?_free {α : Type} {n : Nat} {t : Table n α} {free : α → Bool} {used rest : List α} {x : α} (ht : t.toList = used ++ x :: rest)
    (hused : ∀ y ∈ used, free y = false) (hx : free x = true) :
    ∃ i : Fin n, (indices n).find? (fun i => free (t.get i)) = some i ∧ i.val = used.length := by
  have hlength : used.length < n := by
    rw [← t.size_eq, ht]
    simp
  have hget : ∀ j : Fin n, t.get j = (used ++ x :: rest)[j.val]'(by rw [← ht, t.size_eq]; exact j.isLt) := fun j => by
    simp only [Table.get, ht]
  refine ⟨⟨used.length, hlength⟩, ?_, rfl⟩
  rw [find?_eq_some_iff_lowest (indices_ascending n)]
  refine ⟨mem_indices _, ?_, fun j _ hj => ?_⟩
  · rw [hget]
    simpa using hx
  · have hlow : j.val < used.length := hj
    rw [hget, List.getElem_append_left hlow]
    simpa using hused _ (List.getElem_mem hlow)

/-! ### The lanes -/

/-- R111: the lanes of a stream from position `pos` on. -/
def laneRun (t : Byte) (pos n : Nat) : List Lane := (List.range' pos n).map fun k => { Lane.free with tag := some t, position := k }

theorem assignLanes_run (t : Byte) (n : Nat) : ∀ (pos : Nat) (lanes : Table 24 Lane) (used rest : List Lane),
    lanes.toList = used ++ rest → (∀ x ∈ used, x.tag ≠ none) → (∀ x ∈ rest, x.tag = none) → n ≤ rest.length →
    (assignLanes t n pos lanes).toList = used ++ laneRun t pos n ++ rest.drop n := by
  induction n with
  | zero => exact fun pos lanes used rest h _ _ _ => by simpa [laneRun, assignLanes] using h
  | succ n ih =>
    intro pos lanes used rest h hused hrest hn
    cases rest with
    | nil => exact absurd hn (by simp)
    | cons x rest =>
      obtain ⟨i, hi, hval⟩ := find?_free (free := fun l : Lane => l.tag.isNone) h
        (fun y hy => by simpa [Option.isSome_iff_ne_none] using hused y hy) (by simp [hrest x List.mem_cons_self])
      have hset : (lanes.set i { Lane.free with tag := some t, position := pos }).toList =
          (used ++ [{ Lane.free with tag := some t, position := pos }]) ++ rest := by
        show lanes.toList.set i.val _ = _
        rw [h, hval]
        simp
      unfold assignLanes
      rw [hi]
      dsimp only
      rw [ih (pos + 1) _ _ _ hset ?_ (fun y hy => hrest y (List.mem_cons_of_mem _ hy)) (Nat.le_of_succ_le_succ hn)]
      · simp [laneRun, List.range'_succ]
      · intro y hy
        rcases List.mem_append.1 hy with hy | hy
        · exact hused y hy
        · rw [List.mem_singleton.1 hy]
          nofun

theorem laneRun_tag {t : Byte} {pos n : Nat} {x : Lane} (h : x ∈ laneRun t pos n) : x.tag = some t := by
  obtain ⟨k, -, rfl⟩ := List.mem_map.1 h
  rfl

/-- R111: streams that the free lanes suffice for take them in order. -/
theorem State.streamsAssigned_lanes (p : List Grant) : ∀ (s : State) (used rest : List Lane),
    s.lcu.lanes.toList = used ++ rest → (∀ x ∈ used, x.tag ≠ none) → (∀ x ∈ rest, x.tag = none) → lanesUsed p ≤ rest.length →
    (s.streamsAssigned p).lcu.lanes.toList = used ++ (p.flatMap fun g => laneRun g.tag 0 g.lanes) ++ rest.drop (lanesUsed p) := by
  induction p with
  | nil => exact fun s used rest h _ _ _ => by simpa [lanesUsed, State.streamsAssigned] using h
  | cons g p ih =>
    intro s used rest h hused hrest hfits
    obtain ⟨huses, -⟩ := used_cons g p
    have hfirst : (s.assignStream g).lcu.lanes.toList = (used ++ laneRun g.tag 0 g.lanes) ++ rest.drop g.lanes :=
      assignLanes_run g.tag g.lanes 0 s.lcu.lanes used rest h hused hrest (by omega)
    have hnext := ih (s.assignStream g) _ _ hfirst (fun x hx => ?_) (fun x hx => hrest x (List.mem_of_mem_drop hx))
      (by rw [List.length_drop]; omega)
    · refine hnext.trans ?_
      rw [List.drop_drop, huses]
      simp
    · rcases List.mem_append.1 hx with hx | hx
      · exact hused x hx
      · rw [laneRun_tag hx]
        nofun

/-- Among the lanes of streams of different tags, those of one stream. -/
theorem filter_laneRuns {p : List Grant} (hp : (p.map (·.tag)).Nodup) {g : Grant} (hg : g ∈ p) :
    (p.flatMap fun g => laneRun g.tag 0 g.lanes).filter (fun l => decide (l.tag = some g.tag)) = laneRun g.tag 0 g.lanes := by
  have hown : ∀ x : Grant, x.tag = g.tag → (laneRun x.tag 0 x.lanes).filter (fun l => decide (l.tag = some g.tag)) = laneRun x.tag 0 x.lanes :=
    fun x hx => List.filter_eq_self.2 fun l hl => decide_eq_true (by rw [laneRun_tag hl, hx])
  have hother : ∀ x : Grant, x.tag ≠ g.tag → (laneRun x.tag 0 x.lanes).filter (fun l => decide (l.tag = some g.tag)) = [] :=
    fun x hx => List.filter_eq_nil_iff.2 fun l hl => by simpa [laneRun_tag hl] using hx
  induction p with
  | nil => cases hg
  | cons x p ih =>
    obtain ⟨hx, hrest⟩ := List.nodup_cons.1 hp
    rw [List.flatMap_cons, List.filter_append]
    rcases List.mem_cons.1 hg with rfl | hg
    · have hnone : (p.flatMap fun g => laneRun g.tag 0 g.lanes).filter (fun l => decide (l.tag = some g.tag)) = [] := by
        refine List.filter_eq_nil_iff.2 fun l hl => ?_
        obtain ⟨y, hy, hl⟩ := List.mem_flatMap.1 hl
        rw [laneRun_tag hl]
        simpa using fun htag : y.tag = g.tag => hx (List.mem_map.2 ⟨y, hy, htag⟩)
      rw [hown g rfl, hnone, List.append_nil]
    · rw [hother x fun htag => hx (List.mem_map.2 ⟨g, hg, htag.symm⟩), List.nil_append]
      exact ih hrest hg

/-! ### The assemblers -/

/-- R111: the assembler of a video stream. -/
def asmRun (g : Grant) : List Assembler := if isVideo g.tag = true then [{ Assembler.free with tag := some g.tag }] else []

theorem asmRun_tag {g : Grant} {x : Assembler} (h : x ∈ asmRun g) : x.tag = some g.tag := by
  unfold asmRun at h
  split at h
  · rw [List.mem_singleton.1 h]
  · cases h

theorem State.assignStream_asm (g : Grant) (s : State) {used rest : List Assembler} (h : s.lcu.asm.toList = used ++ rest)
    (hused : ∀ x ∈ used, x.tag ≠ none) (hrest : ∀ x ∈ rest, x.tag = none) (hfits : g.assemblers ≤ rest.length) :
    (s.assignStream g).lcu.asm.toList = used ++ asmRun g ++ rest.drop g.assemblers := by
  have heq : (s.assignStream g).lcu.asm = if isVideo g.tag = true then assignAsm g.tag s.lcu.asm else s.lcu.asm := rfl
  rw [heq]
  unfold asmRun
  unfold Grant.assemblers at hfits ⊢
  cases hvideo : isVideo g.tag with
  | false => simpa using h
  | true =>
    rw [hvideo, if_pos rfl] at hfits
    rw [if_pos rfl, if_pos rfl, if_pos rfl]
    cases rest with
    | nil => exact absurd hfits (by simp)
    | cons x rest =>
      obtain ⟨i, hi, hval⟩ := find?_free (free := fun a : Assembler => a.tag.isNone) h
        (fun y hy => by simpa [Option.isSome_iff_ne_none] using hused y hy) (by simp [hrest x List.mem_cons_self])
      unfold assignAsm
      rw [hi]
      show s.lcu.asm.toList.set i.val _ = _
      rw [h, hval]
      simp

/-- R111: video streams that the free assemblers suffice for take them in order. -/
theorem State.streamsAssigned_asms (p : List Grant) : ∀ (s : State) (used rest : List Assembler),
    s.lcu.asm.toList = used ++ rest → (∀ x ∈ used, x.tag ≠ none) → (∀ x ∈ rest, x.tag = none) → assemblersUsed p ≤ rest.length →
    (s.streamsAssigned p).lcu.asm.toList = used ++ p.flatMap asmRun ++ rest.drop (assemblersUsed p) := by
  induction p with
  | nil => exact fun s used rest h _ _ _ => by simpa [assemblersUsed, State.streamsAssigned] using h
  | cons g p ih =>
    intro s used rest h hused hrest hfits
    obtain ⟨-, huses⟩ := used_cons g p
    have hfirst := s.assignStream_asm g h hused hrest (by omega)
    have hnext := ih (s.assignStream g) _ _ hfirst (fun x hx => ?_) (fun x hx => hrest x (List.mem_of_mem_drop hx))
      (by rw [List.length_drop]; omega)
    · refine hnext.trans ?_
      rw [List.drop_drop, huses]
      simp
    · rcases List.mem_append.1 hx with hx | hx
      · exact hused x hx
      · rw [asmRun_tag hx]
        nofun

theorem filter_asmRuns {p : List Grant} (hp : (p.map (·.tag)).Nodup) {g : Grant} (hg : g ∈ p) :
    (p.flatMap asmRun).filter (fun a => decide (a.tag = some g.tag)) = asmRun g := by
  have hown : (asmRun g).filter (fun a => decide (a.tag = some g.tag)) = asmRun g :=
    List.filter_eq_self.2 fun a ha => decide_eq_true (asmRun_tag ha)
  have hother : ∀ x : Grant, x.tag ≠ g.tag → (asmRun x).filter (fun a => decide (a.tag = some g.tag)) = [] :=
    fun x hx => List.filter_eq_nil_iff.2 fun a ha => by simpa [asmRun_tag ha] using hx
  induction p with
  | nil => cases hg
  | cons x p ih =>
    obtain ⟨hx, hrest⟩ := List.nodup_cons.1 hp
    rw [List.flatMap_cons, List.filter_append]
    rcases List.mem_cons.1 hg with rfl | hg
    · have hnone : (p.flatMap asmRun).filter (fun a => decide (a.tag = some g.tag)) = [] := by
        refine List.filter_eq_nil_iff.2 fun a ha => ?_
        obtain ⟨y, hy, ha⟩ := List.mem_flatMap.1 ha
        rw [asmRun_tag ha]
        simpa using fun htag : y.tag = g.tag => hx (List.mem_map.2 ⟨y, hy, htag⟩)
      rw [hown, hnone, List.append_nil]
    · rw [hother x fun htag => hx (List.mem_map.2 ⟨g, hg, htag.symm⟩), List.nil_append]
      exact ih hrest hg

end Sys2Proof.Machine
end

section
/-!
PROOFS. The grants at a map update, in the obligation's words (R111, R112, R121, O35).
-/

namespace Sys2Proof.Machine

/-! ### The application of the pending set (R111) -/

/-- What the application of the grants leaves: `a` of `s`, with the tags newly assigned and the streams active next. -/
structure GrantsApplied (s a : State) (fresh : List Byte) (next : List Grant) : Prop where
  cfl : a.cfl = s.cfl
  smu : a.smu = s.smu
  pending : a.lcu.pendingSet = none
  active : a.lcu.active = next
  kept : ∀ g ∈ s.lcu.active, g ∈ next → fresh.contains g.tag = false ∧
    ∀ l, (a.lcu.lanes.get l).tag = some g.tag ∨ (s.lcu.lanes.get l).tag = some g.tag → a.lcu.lanes.get l = s.lcu.lanes.get l
  gone : ∀ g ∈ s.lcu.active, (∀ n ∈ next, n.tag ≠ g.tag) →
    (∀ l, (a.lcu.lanes.get l).tag ≠ some g.tag) ∧ ∀ x, (a.lcu.asm.get x).tag ≠ some g.tag
  watches : ∀ b v, (s.feed b).watches v → (a.feed b).watches v
  lost : ∀ g ∈ s.lcu.active, g ∉ next → isVideo g.tag = true → ∀ b, s.configured b = true → (s.feed b).watches g.tag →
    (a.feed b).hasLost g.tag
  fromEmpty : s.lcu.active = [] → (∀ l, (s.lcu.lanes.get l).tag = none) → (∀ x, (s.lcu.asm.get x).tag = none) →
    lanesUsed next ≤ 24 → assemblersUsed next ≤ 8 →
    (∀ g ∈ next, fresh.contains g.tag = true) ∧ ∀ g ∈ next,
      a.lcu.lanes.toList.filter (fun l => decide (l.tag = some g.tag)) = laneRun g.tag 0 g.lanes ∧
      a.lcu.asm.toList.filter (fun x => decide (x.tag = some g.tag)) = asmRun g

section apply
variable {s : State}

theorem State.applyGrants_none (h : s.lcu.pendingSet = none) : s.applyGrants = (s, []) := by
  unfold State.applyGrants
  rw [h]

/-- R111: the active streams that the pending set drops. -/
def State.droppedBy (s : State) (p : List Grant) : List Grant := s.lcu.active.filter fun g => !(p.contains g)

/-- R111: the streams that the pending set brings. -/
def State.broughtBy (s : State) (p : List Grant) : List Grant :=
  p.filter fun g => !((s.lcu.active.filter fun g => p.contains g).contains g)

theorem State.applyGrants_some {p : List Grant} (h : s.lcu.pendingSet = some p) :
    s.applyGrants.1 = { (s.streamsDropped (s.droppedBy p)).streamsAssigned (s.broughtBy p) with
      lcu := { ((s.streamsDropped (s.droppedBy p)).streamsAssigned (s.broughtBy p)).lcu with pendingSet := none, active := p } } ∧
    s.applyGrants.2 = (s.broughtBy p).map (·.tag) := by
  unfold State.applyGrants
  rw [h]
  exact ⟨rfl, rfl⟩

theorem State.mem_droppedBy {p : List Grant} {g : Grant} : g ∈ s.droppedBy p ↔ g ∈ s.lcu.active ∧ g ∉ p := by
  simp [State.droppedBy]

theorem State.mem_broughtBy {p : List Grant} {g : Grant} : g ∈ s.broughtBy p ↔ g ∈ p ∧ g ∉ s.lcu.active := by
  simp only [State.broughtBy, List.mem_filter, Bool.not_eq_true', List.contains_eq_mem, decide_eq_false_iff_not, decide_eq_true_eq]
  exact and_congr_right fun hp => not_congr (and_iff_left hp)

/-- Where nothing is pending the active streams go on. -/
theorem grantsApplied_none (h : s.lcu.pendingSet = none) : GrantsApplied s s [] s.lcu.active where
  cfl := rfl
  smu := rfl
  pending := h
  active := rfl
  kept := fun _ _ _ => ⟨rfl, fun _ _ => rfl⟩
  gone := fun g hg hnone => absurd rfl (hnone g hg)
  watches := fun _ _ => id
  lost := fun g hg hnot => absurd hg hnot
  fromEmpty := fun hnil _ _ _ _ => by
    rw [hnil]
    exact ⟨nofun, nofun⟩

theorem grantsApplied_some {p : List Grant} (h : s.lcu.pendingSet = some p) (hactive : (s.lcu.active.map (·.tag)).Nodup)
    (hp : (p.map (·.tag)).Nodup) : GrantsApplied s s.applyGrants.1 s.applyGrants.2 p := by
  obtain ⟨ha, hfresh⟩ := State.applyGrants_some h
  rw [ha, hfresh]
  have hdroppedLane := fun l => s.streamsDropped_lane (s.droppedBy p) l
  have hdroppedAsm := fun x => s.streamsDropped_asm (s.droppedBy p) x
  have hwatch := fun b v => s.streamsDropped_watches (s.droppedBy p) b v
  obtain ⟨hcfl, hsmu⟩ := s.streamsDropped_frame (s.droppedBy p)
  have hlane := fun l => (s.streamsDropped (s.droppedBy p)).streamsAssigned_lane (s.broughtBy p) l
  have hasm := fun x => (s.streamsDropped (s.droppedBy p)).streamsAssigned_asm (s.broughtBy p) x
  have hlayLanes := (s.streamsDropped (s.droppedBy p)).streamsAssigned_lanes (s.broughtBy p)
  have hlayAsms := (s.streamsDropped (s.droppedBy p)).streamsAssigned_asms (s.broughtBy p)
  obtain ⟨hcfl', hsmu', hsfu'⟩ := State.streamsAssigned_frame (s.broughtBy p) (s.streamsDropped (s.droppedBy p))
  have hnil : s.lcu.active = [] → s.streamsDropped (s.droppedBy p) = s ∧ s.broughtBy p = p := fun hnil => by
    refine ⟨by rw [State.droppedBy, hnil]; rfl, List.filter_eq_self.2 fun g _ => ?_⟩
    rw [hnil]
    rfl
  generalize s.streamsDropped (s.droppedBy p) = d at *
  generalize d.streamsAssigned (s.broughtBy p) = a at *
  refine ⟨hcfl'.trans hcfl, hsmu'.trans hsmu, rfl, rfl, fun g hg hnext => ?kept, fun g hg hnone => ?gone, fun b v hw => ?watches,
    fun g hg hnot hvideo b hconf hw => ?lost, fun hempty hlanes hasms hfit hfitAsm => ?fromEmpty⟩
  case kept =>
    have hnotDropped : ∀ x ∈ s.droppedBy p, x.tag ≠ g.tag := fun x hx htag => by
      obtain ⟨hxa, hxp⟩ := State.mem_droppedBy.1 hx
      exact hxp (List.inj_on_of_nodup_map hactive hxa hg htag ▸ hnext)
    have hnotBrought : ∀ x ∈ s.broughtBy p, x.tag ≠ g.tag := fun x hx htag => by
      obtain ⟨hxp, hxa⟩ := State.mem_broughtBy.1 hx
      exact hxa (List.inj_on_of_nodup_map hp hxp hnext htag ▸ hg)
    refine ⟨?_, fun l hl => ?_⟩
    · rw [List.contains_eq_mem, decide_eq_false_iff_not, List.mem_map]
      rintro ⟨x, hx, htag⟩
      exact hnotBrought x hx htag
    · obtain ⟨hfreed, hstays⟩ := hdroppedLane l
      rcases hl with hl | hl
      · have hmid : a.lcu.lanes.get l = d.lcu.lanes.get l := by
          refine (hlane l).resolve_right fun ⟨_, x, hx, htag⟩ => hnotBrought x hx ?_
          exact Option.some.inj (htag.symm.trans hl)
        by_cases hgone : ∃ x ∈ s.droppedBy p, (s.lcu.lanes.get l).tag = some x.tag
        · have hfree : a.lcu.lanes.get l = .free := hmid.trans (hfreed hgone)
          exact nomatch (congrArg Lane.tag hfree).symm.trans hl
        · exact hmid.trans (hstays fun x hx htag => hgone ⟨x, hx, htag⟩)
      · have hmid := hstays fun x hx htag => hnotDropped x hx (Option.some.inj (htag.symm.trans hl))
        refine ((hlane l).resolve_right fun ⟨hnone, _⟩ => ?_).trans hmid
        rw [hmid, hl] at hnone
        cases hnone
  case gone =>
    have hdropped : g ∈ s.droppedBy p := State.mem_droppedBy.2 ⟨hg, fun hgp => hnone g hgp rfl⟩
    have hnotBrought : ∀ x ∈ s.broughtBy p, x.tag ≠ g.tag := fun x hx => hnone x (State.mem_broughtBy.1 hx).1
    refine ⟨fun l hl => ?_, fun x hx => ?_⟩
    · obtain ⟨hfreed, hstays⟩ := hdroppedLane l
      have hmid : a.lcu.lanes.get l = d.lcu.lanes.get l := by
        refine (hlane l).resolve_right fun ⟨_, y, hy, htag⟩ => hnotBrought y hy ?_
        exact Option.some.inj (htag.symm.trans hl)
      by_cases hgone : ∃ y ∈ s.droppedBy p, (s.lcu.lanes.get l).tag = some y.tag
      · exact nomatch (congrArg Lane.tag (hmid.trans (hfreed hgone))).symm.trans hl
      · have hsame := hmid.trans (hstays fun y hy htag => hgone ⟨y, hy, htag⟩)
        exact hgone ⟨g, hdropped, (congrArg Lane.tag hsame).symm.trans hl⟩
    · obtain ⟨hfreed, hstays⟩ := hdroppedAsm x
      have hmid : a.lcu.asm.get x = d.lcu.asm.get x := by
        refine (hasm x).resolve_right fun ⟨_, y, hy, htag⟩ => hnotBrought y hy ?_
        exact Option.some.inj (htag.symm.trans hx)
      by_cases hgone : ∃ y ∈ s.droppedBy p, (s.lcu.asm.get x).tag = some y.tag
      · exact nomatch (congrArg Assembler.tag (hmid.trans (hfreed hgone))).symm.trans hx
      · have hsame := hmid.trans (hstays fun y hy htag => hgone ⟨y, hy, htag⟩)
        exact hgone ⟨g, hdropped, (congrArg Assembler.tag hsame).symm.trans hx⟩
  case watches =>
    have hfeed : a.feed b = d.feed b := by rw [State.feed, hsfu']; rfl
    show (a.feed b).watches v
    rw [hfeed]
    exact (hwatch b v).1 hw
  case lost =>
    have hfeed : a.feed b = d.feed b := by rw [State.feed, hsfu']; rfl
    show (a.feed b).hasLost g.tag
    rw [hfeed]
    exact (hwatch b g.tag).2.2 hconf hw g (State.mem_droppedBy.2 ⟨hg, hnot⟩) rfl hvideo
  case fromEmpty =>
    obtain ⟨hd, hbrought⟩ := hnil hempty
    rw [hbrought] at hlayLanes hlayAsms ⊢
    subst hd
    have hfree : ∀ x ∈ d.lcu.lanes.toList, x.tag = none := fun x hx => by
      rw [table_toList] at hx
      obtain ⟨l, -, rfl⟩ := List.mem_map.1 hx
      exact hlanes l
    have hfreeAsm : ∀ x ∈ d.lcu.asm.toList, x.tag = none := fun x hx => by
      rw [table_toList] at hx
      obtain ⟨l, -, rfl⟩ := List.mem_map.1 hx
      exact hasms l
    have hlanes' := hlayLanes [] d.lcu.lanes.toList rfl nofun hfree (by rw [d.lcu.lanes.size_eq]; exact hfit)
    have hasms' := hlayAsms [] d.lcu.asm.toList rfl nofun hfreeAsm (by rw [d.lcu.asm.size_eq]; exact hfitAsm)
    refine ⟨fun g hg => ?_, fun g hg => ⟨?_, ?_⟩⟩
    · rw [List.contains_eq_mem, decide_eq_true_eq]
      exact List.mem_map.2 ⟨g, hg, rfl⟩
    · show a.lcu.lanes.toList.filter _ = _
      have hrest : (d.lcu.lanes.toList.drop (lanesUsed p)).filter (fun l => decide (l.tag = some g.tag)) = [] :=
        List.filter_eq_nil_iff.2 fun l hl => by simp [hfree l (List.mem_of_mem_drop hl)]
      rw [hlanes', List.nil_append, List.filter_append, hrest, List.append_nil]
      exact filter_laneRuns hp hg
    · show a.lcu.asm.toList.filter _ = _
      have hrest : (d.lcu.asm.toList.drop (assemblersUsed p)).filter (fun x => decide (x.tag = some g.tag)) = [] :=
        List.filter_eq_nil_iff.2 fun x hx => by simp [hfreeAsm x (List.mem_of_mem_drop hx)]
      rw [hasms', List.nil_append, List.filter_append, hrest, List.append_nil]
      exact filter_asmRuns hp hg

theorem State.applyGrants_applied (hactive : (s.lcu.active.map (·.tag)).Nodup)
    (hpending : ∀ p, s.lcu.pendingSet = some p → (p.map (·.tag)).Nodup) :
    GrantsApplied s s.applyGrants.1 s.applyGrants.2 (s.lcu.pendingSet.getD s.lcu.active) := by
  cases h : s.lcu.pendingSet with
  | none =>
    rw [State.applyGrants_none h]
    exact grantsApplied_none h
  | some p => exact grantsApplied_some h hactive (hpending p h)

end apply

end Sys2Proof.Machine
end

section
/-!
PROOFS. The lanes that a map update leaves, and the statement about the grants (O35).
-/

namespace Sys2Proof.Machine

/-! ### The lanes and the feeds through a map update (R110) -/

theorem State.lcuMapUpdate_eq (s : State) :
    s.lcuMapUpdate = s.applyGrants.1.streamsResolved s.applyGrants.2 s.applyGrants.1.lcu.active := rfl

theorem State.streamsResolved_grants (fresh : List Byte) (gs : List Grant) (s : State) :
    (s.streamsResolved fresh gs).lcu.pendingSet = s.lcu.pendingSet ∧ (s.streamsResolved fresh gs).lcu.active = s.lcu.active := by
  unfold State.streamsResolved
  refine foldl_keeps (I := fun t : State => t.lcu.pendingSet = s.lcu.pendingSet ∧ t.lcu.active = s.lcu.active) (fun t g ht => ?_) gs
    ⟨rfl, rfl⟩
  rw [State.resolveStream_eq]
  split
  · simpa using ht
  · exact ht

/-- The slot that a stream's lane is given, in the words of the rule. -/
theorem resolvedAt_cases (loc : List LocItem) (g : Grant) :
    (∀ i, locate loc g.tag = some i → isVideo g.tag = false ∨ i.run = g.run → resolvedAt loc g = some i.first) ∧
    (∀ i, locate loc g.tag = some i → isVideo g.tag = true → i.run ≠ g.run → resolvedAt loc g = none) ∧
    (locate loc g.tag = none → resolvedAt loc g = none) := by
  unfold resolvedAt
  refine ⟨fun i hi hor => ?_, fun i hi hvideo hrun => ?_, fun hnone => ?_⟩
  · rw [hi]
    refine if_neg fun ⟨hvideo, hrun⟩ => ?_
    rcases hor with h | h
    · exact nomatch h.symm.trans hvideo
    · exact hrun h
  · rw [hi]
    exact if_pos ⟨hvideo, hrun⟩
  · rw [hnone]

/-- What the map update leaves of the feeds that have begun to wait for their key. -/
theorem State.mapUpdate_hasLost {w : State} {b : Fin 4} {v : Byte} (hpending : (w.bcu.get b).pendingChoice = none)
    (h : (w.feed b).hasLost v) : (w.bcuCompletions.evaluate.feed b).state = .waitKey ∧
      (w.bcuCompletions.evaluate.feed b).waitKey = some 3000 := by
  obtain ⟨-, hstate, hwait⟩ := h
  have hsame : w.bcuCompletions.feed b = w.feed b :=
    ((w.bcuCompletions_berth b).2 (.inr fun ch hc => nomatch hpending.symm.trans hc.1)).2
  have hquiet := (w.bcuCompletions.evaluate_berths b).2
  rw [hsame] at hquiet
  obtain ⟨hstays, -, hwaits, -⟩ := hquiet (by rw [hstate]; nofun)
  exact ⟨hstays.trans hstate, hwaits.trans hwait⟩

/-- The lanes of a stream after it has been resolved. -/
theorem filter_resolvedAll (loc : List LocItem) (gs : List Grant) (lanes : Table 24 Lane) (t : Byte) :
    (lanes.map (Lane.resolvedAll loc gs)).toList.filter (fun l => decide (l.tag = some t)) =
      (lanes.toList.filter fun l => decide (l.tag = some t)).map (Lane.resolvedAll loc gs) := by
  show (lanes.toList.map _).filter _ = _
  rw [List.filter_map]
  refine congrArg (List.map _) (List.filter_congr fun l _ => ?_)
  rw [Function.comp, Lane.resolvedAll_tag]

section update
variable {s a w : State} {fresh : List Byte} {next : List Grant}

/-- The lanes and assemblers of a map update: the grants are applied and every active stream is resolved. -/
theorem GrantsApplied.resolved (h : GrantsApplied s a fresh next) (hw : w = a.streamsResolved fresh next)
    (hnext : (next.map (·.tag)).Nodup) :
    let tagged (lanes : Table 24 Lane) (t : Byte) : List Lane := lanes.toList.filter fun (l : Lane) => decide (l.tag = some t)
    (∀ l, ∀ g ∈ next, (w.lcu.lanes.get l).tag = some g.tag →
      (w.lcu.lanes.get l).slot = (resolvedAt s.smu.locator g).map (· + (w.lcu.lanes.get l).position)) ∧
    (∀ l, ∀ g ∈ s.lcu.active, g ∈ next → (s.lcu.lanes.get l).tag = some g.tag →
      w.lcu.lanes.get l = { s.lcu.lanes.get l with slot := (w.lcu.lanes.get l).slot }) ∧
    (∀ g ∈ s.lcu.active, (∀ n ∈ next, n.tag ≠ g.tag) →
      (∀ l, (w.lcu.lanes.get l).tag ≠ some g.tag) ∧ ∀ x, (w.lcu.asm.get x).tag ≠ some g.tag) ∧
    (s.lcu.active = [] → (∀ l, (s.lcu.lanes.get l).tag = none) → (∀ x, (s.lcu.asm.get x).tag = none) →
      lanesUsed next ≤ 24 → assemblersUsed next ≤ 8 → ∀ g ∈ next,
      (tagged w.lcu.lanes g.tag).map (·.position) = List.range g.lanes ∧
      (∀ x ∈ tagged w.lcu.lanes g.tag, x.lastGood = 0 ∧ x.miss = 0) ∧
      (isVideo g.tag = true →
        (w.lcu.asm.toList.filter fun (x : Assembler) => decide (x.tag = some g.tag)) = [⟨some g.tag, .hunt, [], 0⟩])) ∧
    (∀ g ∈ s.lcu.active, isVideo g.tag = true →
      let retargeted : Prop := g ∈ next ∧ (tagged w.lcu.lanes g.tag).map (·.slot) ≠ (tagged s.lcu.lanes g.tag).map (·.slot)
      (retargeted → ∀ x, (w.lcu.asm.get x).tag = some g.tag → w.lcu.asm.get x = ⟨some g.tag, .hunt, [], 0⟩) ∧
      (g ∉ next ∨ retargeted → ∀ b, s.configured b = true → (s.feed b).watches g.tag → (w.feed b).hasLost g.tag)) := by
  subst hw
  intro tagged
  have hlanes : (a.streamsResolved fresh next).lcu.lanes = a.lcu.lanes.map (Lane.resolvedAll s.smu.locator next) := by
    rw [State.streamsResolved_lanes, h.smu]
  have hlane : ∀ l, (a.streamsResolved fresh next).lcu.lanes.get l = (a.lcu.lanes.get l).resolvedAll s.smu.locator next := fun l => by
    rw [hlanes, Table.get_map]
  refine ⟨fun l g hg htag => ?own, fun l g hg hgnext htag => ?kept, fun g hg hnone => ?gone,
    fun hempty hfree hfreeAsm hfit hfitAsm g hg => ?fromEmpty, fun g hg hvideo => ?video⟩
  case own =>
    rw [hlane, Lane.resolvedAll_tag] at htag
    rw [hlane, Lane.resolvedAll_own hnext hg htag]
  case kept =>
    obtain ⟨-, hsame⟩ := h.kept g hg hgnext
    rw [hlane, hsame l (.inr htag)]
    exact Lane.resolvedAll_slot_only _ _ _
  case gone =>
    obtain ⟨hlaneGone, hasmGone⟩ := h.gone g hg hnone
    refine ⟨fun l => ?_, fun x => ?_⟩
    · rw [hlane, Lane.resolvedAll_tag]
      exact hlaneGone l
    · rw [State.streamsResolved_asm_tag]
      exact hasmGone x
  case fromEmpty =>
    obtain ⟨hfresh, hlaid⟩ := h.fromEmpty hempty hfree hfreeAsm hfit hfitAsm
    obtain ⟨hrun, hasm⟩ := hlaid g hg
    have hrow : tagged (a.streamsResolved fresh next).lcu.lanes g.tag =
        (laneRun g.tag 0 g.lanes).map (Lane.resolvedAll s.smu.locator next) := by
      show List.filter _ _ = _
      rw [hlanes, filter_resolvedAll, hrun]
    rw [hrow]
    refine ⟨?_, fun x hx => ?_, fun hvideo => ?_⟩
    · rw [List.map_map, laneRun, List.map_map, List.range_eq_range']
      refine (List.map_congr_left fun k _ => ?_).trans (List.map_id _)
      simp only [Function.comp]
      rw [Lane.resolvedAll_slot_only]
      rfl
    · obtain ⟨y, hy, rfl⟩ := List.mem_map.1 hx
      obtain ⟨k, -, rfl⟩ := List.mem_map.1 hy
      rw [Lane.resolvedAll_slot_only]
      exact ⟨rfl, rfl⟩
    · have hsame : (a.streamsResolved fresh next).lcu.asm = a.lcu.asm :=
        Table.ext_get fun x => State.streamsResolved_asm_fresh hfresh
      rw [hsame, hasm, asmRun, if_pos hvideo]
      rfl
  case video =>
    intro retargeted
    have hmoved : retargeted → g ∈ next ∧ fresh.contains g.tag = false ∧
        laneSlots (a.streamsResolved fresh next).lcu.lanes g.tag ≠ laneSlots a.lcu.lanes g.tag := fun hr => by
      obtain ⟨hgnext, hdiffers⟩ := hr
      obtain ⟨hkept, hsame⟩ := h.kept g hg hgnext
      have hslots : laneSlots a.lcu.lanes g.tag = laneSlots s.lcu.lanes g.tag := laneSlots_congr fun l hl => hsame l hl
      exact ⟨hgnext, hkept, by rw [hslots]; exact hdiffers⟩
    refine ⟨fun hr => ?_, fun hor b hconf hwatch => ?_⟩
    · obtain ⟨hgnext, hkept, hdiffers⟩ := hmoved hr
      exact (State.streamsResolved_retargets hnext hgnext hkept hvideo hdiffers).1
    · by_cases hgnext : g ∈ next
      · obtain ⟨-, hkept, hdiffers⟩ := hmoved (hor.resolve_left (not_not_intro hgnext))
        exact (State.streamsResolved_retargets hnext hgnext hkept hvideo hdiffers).2 b ((State.configured_of_cfl h.cfl b).trans hconf)
          (h.watches b _ hwatch)
      · exact (a.streamsResolved_watches fresh next b g.tag).2 (h.lost g hg hgnext hvideo b hconf hwatch)

end update

/-- Settles O35: the demand list by its sorted entries, the grants by induction down the list, the grant point by the stages of a
frame start, and the lanes by the three steps of a map update (`GrantsApplied`, `GrantsApplied.resolved`). -/
theorem grantsFitThePool : Obligations.GrantsFitThePool := by
  refine ⟨fun loc demands => ?granting, grantedInOrder, demandsListed, fun c n fs s hdue hplain hstarts => exec_grants hdue hplain hstarts,
    fun byte ninth wait s hdue htrunk hframe hdone hactive hpending => ?update⟩
  case granting =>
    obtain ⟨more, hmore, hsub, hin, hlanes, hasm, hwhole⟩ := grantDown_spec (loc := loc) demands [] 0 (Nat.zero_le _) (Nat.zero_le _)
    rw [List.nil_append] at hmore hlanes hasm
    intro t
    have ht : t.1 = more := hmore
    rw [ht]
    refine ⟨hlanes, hasm, hsub, fun g hg => ?_, fun h1 h2 => hwhole ?_ ?_⟩
    · have hnot : ¬skips loc g = true := by simp [hin g hg]
      rw [skips_iff, not_or] at hnot
      obtain ⟨hsome, hrun⟩ := hnot
      obtain ⟨i, hi⟩ := Option.ne_none_iff_exists'.1 hsome
      refine ⟨i, hi, fun hvideo => ?_⟩
      by_contra hne
      exact hrun ⟨hvideo, fun j hj => by rw [hi] at hj; cases hj; exact hne⟩
    · rwa [show lanesUsed [] = 0 from rfl, Nat.zero_add]
    · rwa [show assemblersUsed [] = 0 from rfl, Nat.zero_add]
  case update =>
    intro next tagged
    have hlast : (s.lastSlot byte ninth wait).cfl = s.cfl ∧ (s.lastSlot byte ninth wait).bcu = s.bcu ∧
        (s.lastSlot byte ninth wait).lcu = s.lcu ∧ (s.lastSlot byte ninth wait).sfu = s.sfu := by
      rw [State.lastSlot_eq byte ninth wait hframe hdone]
      exact ⟨rfl, rfl, rfl, rfl⟩
    have hmap : (s.lastSlot byte ninth wait).mapResolved = ((s.lastSlot byte ninth wait).smuMapUpdate.receiversReassign).lcuMapUpdate := rfl
    obtain ⟨hcfl, hbcu, hlcu, hsfu⟩ : ((s.lastSlot byte ninth wait).smuMapUpdate.receiversReassign).cfl = s.cfl ∧
        ((s.lastSlot byte ninth wait).smuMapUpdate.receiversReassign).bcu = s.bcu ∧
        ((s.lastSlot byte ninth wait).smuMapUpdate.receiversReassign).lcu = s.lcu ∧
        ((s.lastSlot byte ninth wait).smuMapUpdate.receiversReassign).sfu = s.sfu := by
      simp [hlast]
    refine ⟨_, exec_mapUpdate byte ninth wait hdue htrunk hframe hdone, ?_⟩
    rw [State.mapUpdate_eq, hmap]
    generalize (s.lastSlot byte ninth wait).smuMapUpdate.receiversReassign = v at hcfl hbcu hlcu hsfu
    have happlied := State.applyGrants_applied (s := v) (by rw [hlcu]; exact hactive) (by rw [hlcu]; exact hpending)
    have hw := v.lcuMapUpdate_eq
    rw [happlied.active] at hw
    have hset : v.lcuMapUpdate.lcu.pendingSet = none ∧ v.lcuMapUpdate.lcu.active = v.lcu.pendingSet.getD v.lcu.active := by
      rw [hw]
      obtain ⟨hpendingSet, hactiveSet⟩ := v.applyGrants.1.streamsResolved_grants v.applyGrants.2 (v.lcu.pendingSet.getD v.lcu.active)
      exact ⟨hpendingSet.trans happlied.pending, hactiveSet.trans happlied.active⟩
    obtain ⟨hwsmu, hwbcu⟩ : v.lcuMapUpdate.smu = v.smu ∧ v.lcuMapUpdate.bcu = v.bcu := by simp
    have hresolved := happlied.resolved hw (by
      rw [hlcu]
      cases h : s.lcu.pendingSet with
      | none => exact hactive
      | some p => exact hpending p h)
    generalize v.lcuMapUpdate = w at hw hset hwsmu hwbcu hresolved
    have htlcu : w.bcuCompletions.evaluate.lcu = w.lcu := by simp
    have htsmu : w.bcuCompletions.evaluate.smu = w.smu := by simp
    have hlost := fun b g => State.mapUpdate_hasLost (w := w) (b := b) (v := g)
    generalize w.bcuCompletions.evaluate = t at htlcu htsmu hlost
    have hnext : v.lcu.pendingSet.getD v.lcu.active = next := by rw [hlcu]
    rw [hnext] at hset hresolved
    rw [hlcu] at hresolved
    obtain ⟨hown, hkept, hgone, hempty, hvideo⟩ := hresolved
    rw [htlcu, htsmu, hwsmu]
    refine ⟨hset.1, hset.2, fun l g hg => ?_, hkept, hgone, hempty, fun g hg hv => ?_⟩
    · intro x htag
      obtain ⟨hat, hrun, hnone⟩ := resolvedAt_cases v.smu.locator g
      have hslot := hown l g hg htag
      refine ⟨fun i hi hor => ?_, fun i hi hvid hne => ?_, fun hloc => ?_⟩
      · rw [hat i hi hor] at hslot
        exact hslot
      · rw [hrun i hi hvid hne] at hslot
        exact hslot
      · rw [hnone hloc] at hslot
        exact hslot
    · obtain ⟨hreset, hloses⟩ := hvideo g hg hv
      refine ⟨hreset, fun hor b hconf hchoice hfeed hstate => hlost b g.tag ?_ (hloses hor b ?_ ?_)⟩
      · rw [hwbcu, hbcu]
        exact hchoice
      · exact (State.configured_of_cfl hcfl b).trans hconf
      · have hsame : v.feed b = s.feed b := by rw [State.feed, hsfu]; rfl
        rw [hsame]
        exact ⟨hfeed, .inl hstate⟩

end Sys2Proof.Machine
end
